-- ==== Sys2Proof/Word.lean ====
section
/-! DEFINITION. The plainest data of the model: the byte of a serial link and the fixed-size table. -/

namespace Sys2Proof

/-- One byte as it crosses a link (R182). -/
abbrev Byte := BitVec 8

/-- A table of exactly `n` entries: the part's fixed groups of records (32 channels, 8 trains, …). It is list
backed, so that a state is plain data and the kernel evaluates a run. -/
structure Vec (n : Nat) (α : Type) where
  toList : List α
  len : toList.length = n
  deriving DecidableEq, Repr

variable {n : Nat} {α β : Type}

/-- The entry at an index. -/
def Vec.get (v : Vec n α) (i : Fin n) : α := v.toList[i.val]'(by rw [v.len]; exact i.isLt)

/-- The table with one entry replaced. -/
def Vec.set (v : Vec n α) (i : Fin n) (x : α) : Vec n α := ⟨v.toList.set i.val x, by simp [v.len]⟩

/-- The table whose entry at `i` is `f i`. -/
def Vec.ofFn (f : Fin n → α) : Vec n α := ⟨List.ofFn f, by simp⟩

/-- The table with every entry the same. -/
def Vec.replicate (n : Nat) (x : α) : Vec n α := ⟨List.replicate n x, by simp⟩

/-- The table with a function applied to every entry. -/
def Vec.map (f : α → β) (v : Vec n α) : Vec n β := ⟨v.toList.map f, by simp [v.len]⟩

end Sys2Proof
end

