-- ==== Sys2Proof/Syntax.lean ====
section
/-! DEFINITION. The commands of the Pelbatro 2408: one constructor of `Instr` for each row of
spec/opcode_table.json, with the operands the command carries. -/

namespace Sys2Proof

/-- The three serial links (section 1.1 of 00_scope). -/
inductive Link where
  | a | b | c
  deriving DecidableEq, Repr

/-- The sensed level of a life-safety line (R150). -/
inductive Level where
  | low | high
  deriving DecidableEq, Repr

/-- A train T0..T7. -/
abbrev Train := Fin 8
/-- A station S0..S3. -/
abbrev Station := Fin 4
/-- A channel 0..31 (section 1.6 of 00_scope). -/
abbrev Channel := Fin 32
/-- A shaft H0..H3. -/
abbrev Shaft := Fin 4
/-- A life-safety line LS0..LS3. -/
abbrev Line := Fin 4

/-- The block whose hand-off a target decision answers (R94). -/
inductive DecisionSource where
  | criterionBank
  | demandTable
  deriving DecidableEq, Repr

/-- The sender of the hand-off that a recomputation of a train's commands answers (R133). -/
inductive DriveSource where
  /-- a decision record of the Criterion Bank (R54) -/
  | criterionBank
  /-- a change of the effective entry (R79) -/
  | demandTable
  /-- bases, a lockout start or expiry, or hold values (R92, R105, R109) -/
  | sequencer
  /-- an outdoor-air grant (R126) -/
  | allocator
  /-- a change of the leader's wheel command (R139) -/
  | leader
  deriving DecidableEq, Repr

/-- The sender of the hand-off that a shaft recomputation answers (R126). -/
inductive ShaftSource where
  /-- a basis hand-off of the Train Sequencer (R92) -/
  | sequencer
  /-- an economizer request of the Drive Stage (R124) -/
  | driveStage
  deriving DecidableEq, Repr

/-- The commands, in the order of the table. `l` is the link a byte or a request arrives on, `tag` the tag byte of its
frame and `payload` its payload bytes. A READ or LATCH row fixes the payload's first byte (the record kind or
the scope), so its `rest` is the payload after that byte. -/
inductive Instr where
  /-- POWER_ON, with the levels of the four lines at the sampling (R157). -/
  | powerOn (levels : Vec 4 Level)
  /-- RESET_LINE_ASSERTED (R146). -/
  | resetLineAsserted
  /-- RESET_LINE_RELEASED, with the levels of the four lines at the sampling (R157). -/
  | resetLineReleased (levels : Vec 4 Level)
  /-- INTER_BYTE_TIMEOUT (R167). -/
  | interByteTimeout (l : Link)
  /-- FRAMING_ERROR (R167). -/
  | framingError (l : Link)
  /-- FRAME_TOO_LONG (R167). -/
  | frameTooLong (l : Link)
  /-- FRAME_REJECTED (R168). -/
  | frameRejected (l : Link)
  /-- BREAK (R171). -/
  | breakLine (l : Link)
  /-- BAD_KIND (R169). -/
  | badKind (l : Link) (kind tag : Byte) (payload : List Byte)
  /-- RESPONSE_SENT (R169). -/
  | responseSent (l : Link)
  /-- REPORT (R4). -/
  | report (l : Link) (tag : Byte) (payload : List Byte)
  /-- AGE_TIMER_EXPIRY of a channel (R10). -/
  | ageTimerExpiry (c : Channel)
  /-- EVALUATION of a train (R53). -/
  | evaluation (k : Train)
  /-- DEMAND (R76). -/
  | demand (l : Link) (tag : Byte) (payload : List Byte)
  /-- DEMAND_EXPIRY of a link's entry for a train (R80). -/
  | demandExpiry (k : Train) (l : Link)
  /-- WITHDRAW (R82). -/
  | withdraw (l : Link) (tag : Byte) (payload : List Byte)
  /-- HOLD (R87). -/
  | hold (l : Link) (tag : Byte) (payload : List Byte)
  /-- RELEASE (R88). -/
  | release (l : Link) (tag : Byte) (payload : List Byte)
  /-- TARGET_DECISION (R94). -/
  | targetDecision (k : Train) (src : DecisionSource)
  /-- DWELL_EXPIRY (R97). -/
  | dwellExpiry (k : Train)
  /-- STEP_TIMER_EXPIRY (R104). -/
  | stepTimerExpiry (k : Train)
  /-- WHEEL_ZERO_EVENT (R105). -/
  | wheelZeroEvent (k : Train)
  /-- RESTART_LOCKOUT_EXPIRY (R105). -/
  | restartLockoutExpiry (k : Train)
  /-- SAFE_ENTRY (R111). -/
  | safeEntry (k : Train)
  /-- SAFE_EXIT (R112). -/
  | safeExit (k : Train)
  /-- SHAFT_RECOMPUTE, on a hand-off about train `k` (R126). -/
  | shaftRecompute (k : Train) (src : ShaftSource)
  /-- COMMAND_RECOMPUTE, on a hand-off about train `k` (R133). -/
  | commandRecompute (k : Train) (src : DriveSource)
  /-- POSTURE_APPLY (R145). -/
  | postureApply (k : Train)
  /-- RAMP_STEP (R143). -/
  | rampStep (k : Train)
  /-- PWM_PERIOD (R146). -/
  | pwmPeriod
  /-- UPTIME_TICK (R173). -/
  | uptimeTick
  /-- LINE_SENSED_LOW (R152). -/
  | lineSensedLow (n : Line)
  /-- LINE_SENSED_HIGH (R153). -/
  | lineSensedHigh (n : Line)
  /-- RELEASE_DELAY_EXPIRY (R153). -/
  | releaseDelayExpiry (n : Line)
  /-- STAGE (R160). -/
  | stage (l : Link) (tag : Byte) (payload : List Byte)
  /-- APPLY (R161). -/
  | apply (l : Link) (tag : Byte) (payload : List Byte)
  /-- DISCARD (R164). -/
  | discard (l : Link) (tag : Byte) (payload : List Byte)
  /-- LOCK (R165). -/
  | lock (l : Link) (tag : Byte) (payload : List Byte)
  /-- RESTART (R175). -/
  | restart (l : Link) (tag : Byte) (payload : List Byte)
  /-- READ_IDENTITY (R172). -/
  | readIdentity (l : Link) (tag : Byte) (rest : List Byte)
  /-- READ_LINK_STATUS (R172). -/
  | readLinkStatus (l : Link) (tag : Byte) (rest : List Byte)
  /-- READ_CHANNEL (R17). -/
  | readChannel (l : Link) (tag : Byte) (rest : List Byte)
  /-- READ_STATION (R35). -/
  | readStation (l : Link) (tag : Byte) (rest : List Byte)
  /-- READ_REFERENCE (R31). -/
  | readReference (l : Link) (tag : Byte) (rest : List Byte)
  /-- READ_TRAIN (R71). -/
  | readTrain (l : Link) (tag : Byte) (rest : List Byte)
  /-- READ_DEMANDS (R86). -/
  | readDemands (l : Link) (tag : Byte) (rest : List Byte)
  /-- READ_SHAFT (R130). -/
  | readShaft (l : Link) (tag : Byte) (rest : List Byte)
  /-- READ_PARAM_ACTIVE (R166). -/
  | readParamActive (l : Link) (tag : Byte) (rest : List Byte)
  /-- READ_PARAM_STAGED (R166). -/
  | readParamStaged (l : Link) (tag : Byte) (rest : List Byte)
  /-- LATCH_TRAINS (R174). -/
  | latchTrains (l : Link) (tag : Byte) (rest : List Byte)
  /-- LATCH_REFERENCE (R174). -/
  | latchReference (l : Link) (tag : Byte) (rest : List Byte)
  /-- LATCH_SHAFTS (R174). -/
  | latchShafts (l : Link) (tag : Byte) (rest : List Byte)
  /-- READ_LATCHED (R174). -/
  | readLatched (l : Link) (tag : Byte) (payload : List Byte)
  /-- TAKE (R178). -/
  | take (l : Link) (tag : Byte) (payload : List Byte)
  /-- PEEK (R178). -/
  | peek (l : Link) (tag : Byte) (payload : List Byte)
  /-- ACK (R178). -/
  | ack (l : Link) (tag : Byte) (payload : List Byte)
  /-- FRAME_START (R167). -/
  | frameStart (l : Link)
  /-- BYTE_RECEIVED (R167). -/
  | byteReceived (l : Link) (b : Byte)
  deriving DecidableEq, Repr

/-- The payload a request command stands for: the record kind or scope byte that a READ or LATCH row fixes, then its own
bytes (R183). -/
def Instr.payload : Instr → List Byte
  | .badKind _ _ _ p | .report _ _ p | .demand _ _ p | .withdraw _ _ p | .hold _ _ p | .release _ _ p => p
  | .stage _ _ p | .apply _ _ p | .discard _ _ p | .lock _ _ p | .restart _ _ p => p
  | .readIdentity _ _ r => 0 :: r
  | .readLinkStatus _ _ r => 1 :: r
  | .readChannel _ _ r => 2 :: r
  | .readStation _ _ r => 3 :: r
  | .readReference _ _ r => 4 :: r
  | .readTrain _ _ r => 5 :: r
  | .readDemands _ _ r => 6 :: r
  | .readShaft _ _ r => 7 :: r
  | .readParamActive _ _ r => 8 :: r
  | .readParamStaged _ _ r => 9 :: r
  | .latchTrains _ _ r => 0 :: r
  | .latchReference _ _ r => 1 :: r
  | .latchShafts _ _ r => 2 :: r
  | .readLatched _ _ p | .take _ _ p | .peek _ _ p | .ack _ _ p => p
  | _ => []

end Sys2Proof
end

