-- ==== Sys2Proof/Config.lean ====
section
/-! DEFINITION. What the part fixes, and the values its manual leaves open. An `opaque` constant has no body: nothing can
be proved about which value it is. -/

namespace Sys2Proof

/-- The start byte of a frame (R182). -/
def Config.startByte : Byte := 0xC3

/-- The longest payload of a frame (R167). -/
def Config.maxPayload : Nat := 64

/-- The part number, family member and record layout version of the IDENTITY record (R172). -/
def Config.partNumber : Nat := 2408
def Config.familyMember : Nat := 1
def Config.layoutVersion : Nat := 1

/-- FREE VALUE (assumption 9). The n-th value read for a HOLD basis while the Train Sequencer holds no hold values: R134
and R141 give the hold value, and none exists. The reader bounds it to 0..1000 (R131). -/
opaque Config.staleHoldValue : Nat → Nat

/-- FREE VALUE (assumption 10). The four bytes sent for the evaluation uptime of an absent decision record: R182 gives no
absent marker of that width. -/
opaque Config.absentEvaluationUptime : BitVec 32

/-- FREE VALUE (assumption 10). The four bytes sent for the uptime of a latch that is not held: R182 gives no absent
marker of that width. -/
opaque Config.absentLatchUptime : BitVec 32

/-- FREE VALUE (assumption 11). The four bytes sent for an uptime that does not fit the 32-bit field of R182. -/
opaque Config.longUptime : Nat → BitVec 32

/-- FREE VALUE (assumption 12). Whether a READ_LATCHED answer carries the latch's uptime before the record: R174 gives
both, R184 lays out neither. -/
opaque Config.latchedUptimeFirst : Bool

end Sys2Proof
end

