-- ==== Sys2Proof/Machine/Arith.lean ====
section
/-! DEFINITION. The part's arithmetic (R36, R37), medians (R22), the enthalpy formula (R46), the byte encodings of
section 13.1 and the frame check (R168). -/

namespace Sys2Proof.Machine

/-- round(num/den), to nearest with an exact half toward plus infinity: floor((2·num + den)/(2·den)) (R36). Lean's
integer division by a positive divisor is the floor. -/
def roundDiv (num den : Int) : Int := (2 * num + den) / (2 * den)

/-- The clamp of R37. -/
def clamp (lo hi x : Int) : Int := max lo (min hi x)

/-- A position, speed or output value clamped to 0..1000 (R75, R87). -/
def clampPermille (n : Nat) : Nat := min n 1000

/-- The duration of a started timer, whole seconds; a timer started with 0 does not run (R91). -/
def startTimer (d : Nat) : Option Nat := if d = 0 then none else some d

/-- One whole second off a timer that runs. A timer with nothing left waits for its expiry. -/
def tickTimer (t : Option Nat) : Option Nat := t.map (· - 1)

/-- A seconds timer whose duration has run, so that its expiry can be taken (assumption 3). -/
def timeIsUp (t : Option Nat) : Bool := t = some 0

/-- The lower-middle median (R22): sorted from smallest to largest, the value at position (n + 1)/2 rounded down, counting
from 1; no value of an empty list. -/
def lowerMedian (xs : List Int) : Option Int := (xs.insertionSort (· ≤ ·))[(xs.length + 1) / 2 - 1]?

/-- The lapse correction round(lapse·dz/1000) of R20 and R41. -/
def lapseCorrection (lapse dz : Int) : Int := roundDiv (lapse * dz) 1000

/-- The numerator of the enthalpy formula (R46). -/
def enthalpyNumerator (t w : Int) : Int := 10060000 * t + w * (2501000 + 186 * t)

/-- The enthalpy of air at temperature `t` and humidity ratio `w` (R46). -/
def enthalpy (t w : Int) : Int := roundDiv (enthalpyNumerator t w) 10000000

/-! Values on the wire, low byte first (R182). -/

/-- One byte. -/
def byte (n : Nat) : Byte := BitVec.ofNat 8 n

/-- A flag, 1 for yes and 0 for no. -/
def flagByte (b : Bool) : Byte := if b then 1 else 0

/-- A 16-bit word, low byte first. -/
def bytes16 (w : BitVec 16) : List Byte := [w.extractLsb' 0 8, w.extractLsb' 8 8]

/-- A 32-bit word, low byte first. -/
def bytes32 (w : BitVec 32) : List Byte :=
  [w.extractLsb' 0 8, w.extractLsb' 8 8, w.extractLsb' 16 8, w.extractLsb' 24 8]

/-- An unsigned 16-bit quantity. -/
def u16 (n : Nat) : List Byte := bytes16 (BitVec.ofNat 16 n)

/-- A signed 16-bit quantity, two's complement. -/
def s16 (i : Int) : List Byte := bytes16 (BitVec.ofInt 16 i)

/-- An unsigned 32-bit quantity. -/
def u32 (n : Nat) : List Byte := bytes32 (BitVec.ofNat 32 n)

/-- A signed 32-bit quantity, two's complement. -/
def s32 (i : Int) : List Byte := bytes32 (BitVec.ofInt 32 i)

/-- The uptime in its 32-bit field. The manual does not say what an uptime beyond the field is sent as. -/
def uptimeBytes (n : Nat) : List Byte := if n < 2 ^ 32 then u32 n else bytes32 (Config.longUptime n)

/-- An optional unsigned 16-bit quantity; absent is 0xFFFF. -/
def u16? (o : Option Nat) : List Byte := match o with | some n => u16 n | none => [0xFF, 0xFF]

/-- An optional signed 16-bit quantity; absent is 0x8000. -/
def s16? (o : Option Int) : List Byte := match o with | some i => s16 i | none => [0x00, 0x80]

/-- An optional one-byte field; absent is 0xFF. -/
def byte? (o : Option Nat) : Byte := match o with | some n => byte n | none => 0xFF

/-- A list of one-byte fields in a field of `n` bytes, the unused ones 0xFF. -/
def padded (n : Nat) (bs : List Byte) : List Byte := bs.take n ++ List.replicate (n - bs.length) 0xFF

/-- The word of two bytes, low byte first. -/
def word16 (lo hi : Byte) : BitVec 16 := hi ++ lo

/-! The frame check (R168). -/

/-- One bit of the CRC-16 with polynomial 0x1021, not reflected. -/
def crcBit (crc : BitVec 16) : BitVec 16 := if crc.msb then (crc <<< 1) ^^^ 0x1021 else crc <<< 1

/-- One byte of the CRC-16. -/
def crcByte (crc : BitVec 16) (b : Byte) : BitVec 16 := Nat.repeat crcBit 8 (crc ^^^ (b ++ (0 : Byte)))

/-- The CRC-16 of a list of bytes: initial value 0xFFFF, final XOR 0. -/
def crc16 (bs : List Byte) : BitVec 16 := bs.foldl crcByte 0xFFFF

end Sys2Proof.Machine
end

