-- ==== Sys2Proof/Machine/Params.lean ====
section
/-! DEFINITION. The parameter catalogue (chapter 10): the items of one parameter set, their defaults, their ids, their
ranges and their values on the wire. -/

namespace Sys2Proof.Machine

/-- The position of a link in the tables of three (A 0, B 1, C 2: section 13.4). -/
def linkIndex : Link → Fin 3
  | .a => 0
  | .b => 1
  | .c => 2

/-- The three links in order. -/
def allLinks : List Link := [.a, .b, .c]

/-- A code's place in the list of a field's values, in the order of section 13.4. -/
def codeIn {α : Type} [DecidableEq α] (all : List α) (x : α) : Nat := all.idxOf x

/-- The five steady modes (R90). -/
inductive Mode where
  | offline | bypass | freeCool | recoverHeat | recoverCool
  deriving DecidableEq, Repr

def allModes : List Mode := [.offline, .bypass, .freeCool, .recoverHeat, .recoverCool]

/-- Whether a mode is RECOVER_HEAT or RECOVER_COOL. -/
def Mode.recovers : Mode → Bool
  | .recoverHeat | .recoverCool => true
  | _ => false

/-- The kinds of channel (R1). -/
inductive ChannelKind where
  | stationT | stationW | returnT | returnW | exhaustT
  deriving DecidableEq, Repr

def allKinds : List ChannelKind := [.stationT, .stationW, .returnT, .returnW, .exhaustT]

/-- The kind of a channel follows from its index (section 1.6 of 00_scope). -/
def channelKind (c : Channel) : ChannelKind :=
  if c.val < 8 then (if c.val % 2 = 0 then .stationT else .stationW)
  else match (c.val - 8) % 3 with
    | 0 => .returnT
    | 1 => .returnW
    | _ => .exhaustT

/-- The number of the station or train a channel measures (section 1.6 of 00_scope). -/
def channelSubject (c : Channel) : Nat := if c.val < 8 then c.val / 2 else (c.val - 8) / 3

/-- The train whose channels include a channel index of 8..31 (and T0 for the station channels, which no rule asks for). -/
def channelTrain (c : Channel) : Train := ⟨(c.val - 8) / 3, by omega⟩

/-- The station a channel index of 0..7 belongs to (and a station for the rest, which no rule asks for). -/
def channelStation (c : Channel) : Station := ⟨c.val / 2 % 4, by omega⟩

/-- The T and W channels of a station (R18). -/
def stationTChannel (st : Station) : Channel := ⟨2 * st.val, by omega⟩
def stationWChannel (st : Station) : Channel := ⟨2 * st.val + 1, by omega⟩

/-- The three channel roles of a train (R45). -/
def returnTChannel (k : Train) : Channel := ⟨8 + 3 * k.val, by omega⟩
def returnWChannel (k : Train) : Channel := ⟨9 + 3 * k.val, by omega⟩
def exhaustTChannel (k : Train) : Channel := ⟨10 + 3 * k.val, by omega⟩

/-- Whether a channel measures a humidity ratio, whose unit is unsigned. -/
def isHumidity (c : Channel) : Bool :=
  match channelKind c with
  | .stationW | .returnW => true
  | _ => false

/-- The hard range of a channel's kind (R1). -/
def hardLow (c : Channel) : Int := if isHumidity c then 0 else -500
def hardHigh (c : Channel) : Int := if isHumidity c then 4000 else 600

/-- The ten quantities of a train, in code order (R48). -/
inductive Quantity where
  | tOA | wOA | hOA | tRA | hRA | dt | dh | d | tEXL | wRA
  deriving DecidableEq, Repr

def allQuantities : List Quantity := [.tOA, .wOA, .hOA, .tRA, .hRA, .dt, .dh, .d, .tEXL, .wRA]

/-- The area codes (R59). -/
inductive AreaCode where
  | never | notI | notII | notIII | always | inI | inII | inIII
  deriving DecidableEq, Repr

def allAreaCodes : List AreaCode := [.never, .notI, .notII, .notIII, .always, .inI, .inII, .inIII]

/-- The combining logics of a permit (R65). -/
inductive Logic where
  | and | or | nand | nor
  deriving DecidableEq, Repr

def allLogics : List Logic := [.and, .or, .nand, .nor]

/-- The wheel sources (R132). -/
inductive WheelSource where
  | computed | band | fixed | follow
  deriving DecidableEq, Repr

def allWheelSources : List WheelSource := [.computed, .band, .fixed, .follow]

/-- The senses of a PWM line (R132). -/
inductive Polarity where
  | normal | inverted
  deriving DecidableEq, Repr

def allPolarities : List Polarity := [.normal, .inverted]

/-- The posture codes (R151). -/
inductive PostureCode where
  | isolate | purge
  deriving DecidableEq, Repr

def allPostureCodes : List PostureCode := [.isolate, .purge]

/-- The position of a posture code in the table of two. -/
def postureIndex : PostureCode → Fin 2
  | .isolate => 0
  | .purge => 1

/-- The notice classes in priority order (R176). -/
inductive NoticeClass where
  | safe | referenceLost | stationDiscredited | demandExpired | channelStale | reportRefused | modeChanged | criterionChanged
  deriving DecidableEq, Repr

def allClasses : List NoticeClass :=
  [.safe, .referenceLost, .stationDiscredited, .demandExpired, .channelStale, .reportRefused, .modeChanged, .criterionChanged]

/-- The position of a notice class in the table of eight; its number is one more (R176). -/
def classIndex : NoticeClass → Fin 8
  | .safe => 0
  | .referenceLost => 1
  | .stationDiscredited => 2
  | .demandExpired => 3
  | .channelStale => 4
  | .reportRefused => 5
  | .modeChanged => 6
  | .criterionChanged => 7

/-! The groups of one parameter set. -/

/-- The items of a train (R39, R52, R91, R116, R132), in catalogue order. -/
structure TrainParams where
  height : Nat
  shaft : Shaft
  period : Nat
  wsMin : Nat
  wsMax : Nat
  wsFloor : Nat
  tFrost : Int
  frostSpan : Nat
  wheelSource : WheelSource
  bandChannel : Channel
  bandLow : Fin 16
  bandHigh : Fin 16
  leader : Train
  oaMin : Nat
  q : Nat
  dwell : Nat
  spinDown : Nat
  stroke : Nat
  restartLockout : Nat
  deriving DecidableEq, Repr

/-- The items of a criterion slot (R55). -/
structure SlotParams where
  quantity : Quantity
  boundA : Fin 16
  boundB : Fin 16
  area : AreaCode
  onCount : Nat
  offCount : Nat
  deriving DecidableEq, Repr

/-- One filter of a permit (R63). -/
structure FilterParams where
  enable : Bool
  mask : BitVec 8
  pattern : BitVec 8
  deriving DecidableEq, Repr

/-- The items of a permit (R63). -/
structure PermitParams where
  filter1 : FilterParams
  filter2 : FilterParams
  logic : Logic
  deriving DecidableEq, Repr

/-- The items of a channel (R2). -/
structure ChannelParams where
  target : Nat
  low : Int
  high : Int
  stale : Nat
  standIn : Option Channel
  deriving DecidableEq, Repr

/-- The items of the stations and the reference (R19). -/
structure StationParams where
  heights : Vec 4 Nat
  lapse : Int
  tolerance : Nat
  discredit : Nat
  recredit : Nat
  deriving DecidableEq, Repr

/-- The items of a shaft (R116). -/
structure ShaftParams where
  capacity : Nat
  slotLimit : Nat
  deriving DecidableEq, Repr

/-- The port rights of a link (section 10.1). -/
structure RightsParams where
  trains : BitVec 8
  reportStations : Bool
  force : Bool
  maintenance : Bool
  config : Bool
  priority : Nat
  deriving DecidableEq, Repr

/-- The items of a life-safety line (R151). -/
structure LineParams where
  trains : BitVec 8
  code : PostureCode
  delay : Nat
  deriving DecidableEq, Repr

/-- The values of a posture code (R151). -/
structure PostureParams where
  bp : Nat
  oa : Nat
  deriving DecidableEq, Repr

/-- One parameter set: one value for every item of the catalogue (R159). -/
structure Params where
  trains : Vec 8 TrainParams
  slots : Vec 8 (Vec 8 SlotParams)
  permits : Vec 8 (Vec 3 PermitParams)
  pool : Vec 16 Int
  channels : Vec 32 ChannelParams
  station : StationParams
  shafts : Vec 4 ShaftParams
  demandTimeout : Nat
  ramp : Nat
  polarity : Vec 24 Polarity
  routing : Vec 8 (BitVec 3)
  rights : Vec 3 RightsParams
  lines : Vec 4 LineParams
  postures : Vec 2 PostureParams
  deriving DecidableEq, Repr

/-- The items of a train, a channel, a link in a set. -/
def Params.train (p : Params) (k : Train) : TrainParams := p.trains.get k
def Params.channel (p : Params) (c : Channel) : ChannelParams := p.channels.get c
def Params.right (p : Params) (l : Link) : RightsParams := p.rights.get (linkIndex l)
def Params.posture (p : Params) (c : PostureCode) : PostureParams := p.postures.get (postureIndex c)

/-! Defaults. -/

/-- The defaults of a train (R39, R52, R91, R116, R132). -/
def defaultTrain (k : Train) : TrainParams where
  height := 0
  shaft := 0
  period := 10
  wsMin := 100
  wsMax := 1000
  wsFloor := 100
  tFrost := 20
  frostSpan := 50
  wheelSource := .computed
  bandChannel := exhaustTChannel k
  bandLow := 7
  bandHigh := 7
  leader := if k = 0 then 1 else 0
  oaMin := 200
  q := 100
  dwell := 600
  spinDown := 15
  stroke := 90
  restartLockout := 120

/-- The factory slots (R55). -/
def defaultSlots : Vec 8 SlotParams :=
  ⟨[⟨.dh, 0, 0, .inIII, 3, 3⟩, ⟨.d, 1, 1, .inI, 2, 2⟩, ⟨.tOA, 2, 2, .inIII, 3, 3⟩, ⟨.d, 3, 3, .inIII, 2, 2⟩,
    ⟨.dt, 4, 4, .inIII, 3, 3⟩, ⟨.dh, 5, 5, .inI, 3, 3⟩, ⟨.wOA, 6, 6, .notIII, 3, 3⟩, ⟨.tOA, 0, 0, .never, 1, 1⟩], rfl⟩

/-- A default permit: filter 1 enabled with pattern equal to mask, filter 2 disabled and empty, AND (R63). -/
def defaultPermit (mask : BitVec 8) : PermitParams := ⟨⟨true, mask, mask⟩, ⟨false, 0, 0⟩, .and⟩

/-- The default permits FREE_COOL (C0, C1, C2, C6), RECOVER_COOL (C1, C5) and RECOVER_HEAT (C3, C4) (R63). -/
def defaultPermits : Vec 3 PermitParams :=
  ⟨[defaultPermit 0b01000111, defaultPermit 0b00100010, defaultPermit 0b00011000], rfl⟩

/-- The default boundary pool (R57). -/
def defaultPool : Vec 16 Int := ⟨[20, -10, 50, 10, 30, -20, 1200, 0, 0, 0, 0, 0, 0, 0, 0, 0], rfl⟩

/-- The defaults of a channel (R2). -/
def defaultChannel (c : Channel) : ChannelParams :=
  ⟨1, hardLow c, hardHigh c, if c.val < 8 then 120 else 60, none⟩

/-- The default port rights of a link: every right, with its priority A 1, B 2, C 3 (section 10.1). -/
def defaultRights (priority : Nat) : RightsParams := ⟨0xFF, true, true, true, true, priority⟩

/-- Every item of the catalogue at its default. -/
def defaultParams : Params where
  trains := .ofFn defaultTrain
  slots := .replicate 8 defaultSlots
  permits := .replicate 8 defaultPermits
  pool := defaultPool
  channels := .ofFn defaultChannel
  station := ⟨.replicate 4 0, -65, 20, 3, 5⟩
  shafts := .replicate 4 ⟨65535, 1⟩
  demandTimeout := 60
  ramp := 50
  polarity := .replicate 24 .normal
  routing := ⟨[7, 7, 7, 7, 7, 7, 7, 0], rfl⟩
  rights := ⟨[defaultRights 1, defaultRights 2, defaultRights 3], rfl⟩
  lines := .replicate 4 ⟨0xFF, .isolate, 10⟩
  postures := ⟨[⟨0, 0⟩, ⟨1000, 1000⟩], rfl⟩

/-! Item ids (section 13.2). -/

inductive TrainField where
  | height | shaft | period | wsMin | wsMax | wsFloor | tFrost | frostSpan | wheelSource | bandChannel | bandLow | bandHigh
  | leader | oaMin | q | dwell | spinDown | stroke | restartLockout
  deriving DecidableEq, Repr

/-- The train items in catalogue order: field 0 intake height to field 18 restart lockout (R183). -/
def allTrainFields : List TrainField :=
  [.height, .shaft, .period, .wsMin, .wsMax, .wsFloor, .tFrost, .frostSpan, .wheelSource, .bandChannel, .bandLow, .bandHigh,
    .leader, .oaMin, .q, .dwell, .spinDown, .stroke, .restartLockout]

inductive SlotField where
  | quantity | boundA | boundB | area | onCount | offCount
  deriving DecidableEq, Repr

def allSlotFields : List SlotField := [.quantity, .boundA, .boundB, .area, .onCount, .offCount]

inductive PermitField where
  | enable1 | mask1 | pattern1 | enable2 | mask2 | pattern2 | logic
  deriving DecidableEq, Repr

def allPermitFields : List PermitField := [.enable1, .mask1, .pattern1, .enable2, .mask2, .pattern2, .logic]

inductive ChannelField where
  | target | low | high | stale | standIn
  deriving DecidableEq, Repr

def allChannelFields : List ChannelField := [.target, .low, .high, .stale, .standIn]

/-- The items shared by all stations: fields 1..4 of the station group (R183). -/
inductive ReferenceField where
  | lapse | tolerance | discredit | recredit
  deriving DecidableEq, Repr

def allReferenceFields : List ReferenceField := [.lapse, .tolerance, .discredit, .recredit]

inductive ShaftField where
  | capacity | slotLimit
  deriving DecidableEq, Repr

def allShaftFields : List ShaftField := [.capacity, .slotLimit]

inductive RightsField where
  | trains | reportStations | force | maintenance | config | priority
  deriving DecidableEq, Repr

def allRightsFields : List RightsField := [.trains, .reportStations, .force, .maintenance, .config, .priority]

inductive LineField where
  | trains | code | delay
  deriving DecidableEq, Repr

def allLineFields : List LineField := [.trains, .code, .delay]

inductive PostureField where
  | bp | oa
  deriving DecidableEq, Repr

def allPostureFields : List PostureField := [.bp, .oa]

/-- An item of the catalogue. -/
inductive Item where
  | train (k : Train) (f : TrainField)
  | slot (k : Train) (c : Fin 8) (f : SlotField)
  | permit (k : Train) (c : Fin 3) (f : PermitField)
  | pool (b : Fin 16)
  | channel (c : Channel) (f : ChannelField)
  | height (st : Station)
  | reference (f : ReferenceField)
  | shaft (h : Shaft) (f : ShaftField)
  | demandTimeout
  | ramp
  | polarity (o : Fin 24)
  | routing (c : NoticeClass)
  | rights (l : Link) (f : RightsField)
  | line (n : Line) (f : LineField)
  | posture (c : PostureCode) (f : PostureField)
  deriving DecidableEq, Repr

/-- A number as an index below a bound, absent when it is not below. -/
def index? (n m : Nat) : Option (Fin n) := if h : m < n then some ⟨m, h⟩ else none

/-- The item a group code, an index and a field number name (R183); none where they name no item (R160). -/
def itemOf? (group index field : Nat) : Option Item :=
  match group with
  | 0 => do return .train (← index? 8 index) (← allTrainFields[field]?)
  | 1 => do
    let n ← index? 64 index
    return .slot ⟨n.val / 8, by omega⟩ ⟨n.val % 8, by omega⟩ (← allSlotFields[field]?)
  | 2 => do
    let n ← index? 24 index
    return .permit ⟨n.val / 3, by omega⟩ ⟨n.val % 3, by omega⟩ (← allPermitFields[field]?)
  | 3 => do
    guard (field = 0)
    return .pool (← index? 16 index)
  | 4 => do return .channel (← index? 32 index) (← allChannelFields[field]?)
  | 5 =>
    if field = 0 then do return .height (← index? 4 index)
    else do
      guard (index = 0)
      return .reference (← allReferenceFields[field - 1]?)
  | 6 => do return .shaft (← index? 4 index) (← allShaftFields[field]?)
  | 7 => do
    guard (index = 0)
    match field with
    | 0 => return .demandTimeout
    | 1 => return .ramp
    | _ => none
  | 8 => do
    guard (field = 0)
    return .polarity (← index? 24 index)
  | 9 => do
    guard (field = 0 ∧ 1 ≤ index)
    return .routing (← allClasses[index - 1]?)
  | 10 => do return .rights (← allLinks[index]?) (← allRightsFields[field]?)
  | 11 =>
    if field < 3 then do return .line (← index? 4 index) (← allLineFields[field]?)
    else do return .posture (← allPostureCodes[index]?) (← allPostureFields[field - 3]?)
  | _ => none

/-- The group code, index and field number of an item (R183). -/
def Item.id : Item → Nat × Nat × Nat
  | .train k f => (0, k.val, codeIn allTrainFields f)
  | .slot k c f => (1, 8 * k.val + c.val, codeIn allSlotFields f)
  | .permit k c f => (2, 3 * k.val + c.val, codeIn allPermitFields f)
  | .pool b => (3, b.val, 0)
  | .channel c f => (4, c.val, codeIn allChannelFields f)
  | .height st => (5, st.val, 0)
  | .reference f => (5, 0, codeIn allReferenceFields f + 1)
  | .shaft h f => (6, h.val, codeIn allShaftFields f)
  | .demandTimeout => (7, 0, 0)
  | .ramp => (7, 0, 1)
  | .polarity o => (8, o.val, 0)
  | .routing c => (9, (classIndex c).val + 1, 0)
  | .rights l f => (10, (linkIndex l).val, codeIn allRightsFields f)
  | .line n f => (11, n.val, codeIn allLineFields f)
  | .posture c f => (11, (postureIndex c).val, codeIn allPostureFields f + 3)

/-- The three bytes of an item id (R183). -/
def Item.bytes (i : Item) : List Byte := [byte i.id.1, byte i.id.2.1, byte i.id.2.2]

/-- The item three id bytes name. -/
def itemOfBytes? (g i f : Byte) : Option Item := itemOf? g.toNat i.toNat f.toNat

/-- The items that LOCK freezes: the port rights table and the life-safety map (R165). -/
def Item.locked : Item → Bool
  | .rights .. | .line .. | .posture .. => true
  | _ => false

/-! An item's value on the wire (R182, R183). -/

/-- The value of an item in a set, as its 16-bit word: signed values in two's complement, sets in the low byte, an
absent stand-in as 0xFFFF. -/
def Params.wire (p : Params) : Item → BitVec 16
  | .train k f =>
    let t := p.train k
    match f with
    | .height => .ofNat 16 t.height
    | .shaft => .ofNat 16 t.shaft.val
    | .period => .ofNat 16 t.period
    | .wsMin => .ofNat 16 t.wsMin
    | .wsMax => .ofNat 16 t.wsMax
    | .wsFloor => .ofNat 16 t.wsFloor
    | .tFrost => .ofInt 16 t.tFrost
    | .frostSpan => .ofNat 16 t.frostSpan
    | .wheelSource => .ofNat 16 (codeIn allWheelSources t.wheelSource)
    | .bandChannel => .ofNat 16 t.bandChannel.val
    | .bandLow => .ofNat 16 t.bandLow.val
    | .bandHigh => .ofNat 16 t.bandHigh.val
    | .leader => .ofNat 16 t.leader.val
    | .oaMin => .ofNat 16 t.oaMin
    | .q => .ofNat 16 t.q
    | .dwell => .ofNat 16 t.dwell
    | .spinDown => .ofNat 16 t.spinDown
    | .stroke => .ofNat 16 t.stroke
    | .restartLockout => .ofNat 16 t.restartLockout
  | .slot k c f =>
    let t := (p.slots.get k).get c
    match f with
    | .quantity => .ofNat 16 (codeIn allQuantities t.quantity)
    | .boundA => .ofNat 16 t.boundA.val
    | .boundB => .ofNat 16 t.boundB.val
    | .area => .ofNat 16 (codeIn allAreaCodes t.area)
    | .onCount => .ofNat 16 t.onCount
    | .offCount => .ofNat 16 t.offCount
  | .permit k c f =>
    let t := (p.permits.get k).get c
    match f with
    | .enable1 => (flagByte t.filter1.enable).setWidth 16
    | .mask1 => t.filter1.mask.setWidth 16
    | .pattern1 => t.filter1.pattern.setWidth 16
    | .enable2 => (flagByte t.filter2.enable).setWidth 16
    | .mask2 => t.filter2.mask.setWidth 16
    | .pattern2 => t.filter2.pattern.setWidth 16
    | .logic => .ofNat 16 (codeIn allLogics t.logic)
  | .pool b => .ofInt 16 (p.pool.get b)
  | .channel c f =>
    let t := p.channel c
    match f with
    | .target => .ofNat 16 t.target
    | .low => .ofInt 16 t.low
    | .high => .ofInt 16 t.high
    | .stale => .ofNat 16 t.stale
    | .standIn => match t.standIn with | some d => .ofNat 16 d.val | none => 0xFFFF
  | .height st => .ofNat 16 (p.station.heights.get st)
  | .reference f =>
    match f with
    | .lapse => .ofInt 16 p.station.lapse
    | .tolerance => .ofNat 16 p.station.tolerance
    | .discredit => .ofNat 16 p.station.discredit
    | .recredit => .ofNat 16 p.station.recredit
  | .shaft h f =>
    match f with
    | .capacity => .ofNat 16 (p.shafts.get h).capacity
    | .slotLimit => .ofNat 16 (p.shafts.get h).slotLimit
  | .demandTimeout => .ofNat 16 p.demandTimeout
  | .ramp => .ofNat 16 p.ramp
  | .polarity o => .ofNat 16 (codeIn allPolarities (p.polarity.get o))
  | .routing c => (p.routing.get (classIndex c)).setWidth 16
  | .rights l f =>
    let t := p.right l
    match f with
    | .trains => t.trains.setWidth 16
    | .reportStations => (flagByte t.reportStations).setWidth 16
    | .force => (flagByte t.force).setWidth 16
    | .maintenance => (flagByte t.maintenance).setWidth 16
    | .config => (flagByte t.config).setWidth 16
    | .priority => .ofNat 16 t.priority
  | .line n f =>
    let t := p.lines.get n
    match f with
    | .trains => t.trains.setWidth 16
    | .code => .ofNat 16 (codeIn allPostureCodes t.code)
    | .delay => .ofNat 16 t.delay
  | .posture c f =>
    match f with
    | .bp => .ofNat 16 (p.posture c).bp
    | .oa => .ofNat 16 (p.posture c).oa

/-! Reading a staged value against its range (R160): none is OUT_OF_RANGE. -/

/-- An unsigned value of lo..hi. -/
def natIn (lo hi : Nat) (w : BitVec 16) : Option Nat := if lo ≤ w.toNat ∧ w.toNat ≤ hi then some w.toNat else none

/-- A signed value of lo..hi. -/
def intIn (lo hi : Int) (w : BitVec 16) : Option Int := if lo ≤ w.toInt ∧ w.toInt ≤ hi then some w.toInt else none

/-- A yes/no item: 1 or 0 (assumption 15). -/
def flagIn (w : BitVec 16) : Option Bool := if w = 0 then some false else if w = 1 then some true else none

/-- A set of trains or of slots in the low byte; a non-zero high byte is out of range (R183). -/
def setIn (w : BitVec 16) : Option (BitVec 8) := if w.toNat < 256 then some (w.setWidth 8) else none

/-- A set of links: no bit above bit 2 (R183). -/
def linksIn (w : BitVec 16) : Option (BitVec 3) := if w.toNat < 8 then some (w.setWidth 3) else none

/-- A value within the hard range of a channel's kind (R2), read as signed where the range is (R183). -/
def limitIn (c : Channel) (w : BitVec 16) : Option Int :=
  if isHumidity c then (natIn 0 4000 w).map Int.ofNat else intIn (hardLow c) (hardHigh c) w

/-- A stand-in: absent (0xFFFF), or for a channel of 8..31 another channel of 8..31 (R2). -/
def standInIn (c : Channel) (w : BitVec 16) : Option (Option Channel) :=
  if w = 0xFFFF then some none
  else if c.val < 8 then none
  else if 8 ≤ w.toNat then (index? 32 w.toNat).map some
  else none

/-- The set with a train's items replaced, and so for each group. -/
def Params.setTrain (p : Params) (k : Train) (t : TrainParams) : Params := { p with trains := p.trains.set k t }
def Params.setSlot (p : Params) (k : Train) (c : Fin 8) (t : SlotParams) : Params :=
  { p with slots := p.slots.set k ((p.slots.get k).set c t) }
def Params.setPermit (p : Params) (k : Train) (c : Fin 3) (t : PermitParams) : Params :=
  { p with permits := p.permits.set k ((p.permits.get k).set c t) }
def Params.setChannel (p : Params) (c : Channel) (t : ChannelParams) : Params :=
  { p with channels := p.channels.set c t }
def Params.setRights (p : Params) (l : Link) (t : RightsParams) : Params :=
  { p with rights := p.rights.set (linkIndex l) t }
def Params.setPosture (p : Params) (c : PostureCode) (t : PostureParams) : Params :=
  { p with postures := p.postures.set (postureIndex c) t }

/-- The set with one item's value replaced by a value of the wire; none where the value lies outside the item's range
(R160, with the ranges of R2, R19, R39, R52, R55, R57, R63, R73, R91, R116, R132, R151 and section 10.1). -/
def Params.stage? (p : Params) (i : Item) (w : BitVec 16) : Option Params :=
  match i with
  | .train k f =>
    let t := p.train k
    (match f with
    | .height => (natIn 0 800 w).map fun n => { t with height := n }
    | .shaft => (index? 4 w.toNat).map fun n => { t with shaft := n }
    | .period => (natIn 2 60 w).map fun n => { t with period := n }
    | .wsMin => (natIn 0 1000 w).map fun n => { t with wsMin := n }
    | .wsMax => (natIn 0 1000 w).map fun n => { t with wsMax := n }
    | .wsFloor => (natIn 0 1000 w).map fun n => { t with wsFloor := n }
    | .tFrost => (intIn (-300) 300 w).map fun n => { t with tFrost := n }
    | .frostSpan => (natIn 1 200 w).map fun n => { t with frostSpan := n }
    | .wheelSource => allWheelSources[w.toNat]?.map fun x => { t with wheelSource := x }
    | .bandChannel => (index? 32 w.toNat).map fun n => { t with bandChannel := n }
    | .bandLow => (index? 16 w.toNat).map fun n => { t with bandLow := n }
    | .bandHigh => (index? 16 w.toNat).map fun n => { t with bandHigh := n }
    | .leader => (index? 8 w.toNat).map fun n => { t with leader := n }
    | .oaMin => (natIn 0 1000 w).map fun n => { t with oaMin := n }
    | .q => (natIn 1 500 w).map fun n => { t with q := n }
    | .dwell => (natIn 0 3600 w).map fun n => { t with dwell := n }
    | .spinDown => (natIn 0 300 w).map fun n => { t with spinDown := n }
    | .stroke => (natIn 0 300 w).map fun n => { t with stroke := n }
    | .restartLockout => (natIn 0 900 w).map fun n => { t with restartLockout := n }).map (p.setTrain k)
  | .slot k c f =>
    let t := (p.slots.get k).get c
    (match f with
    | .quantity => allQuantities[w.toNat]?.map fun x => { t with quantity := x }
    | .boundA => (index? 16 w.toNat).map fun n => { t with boundA := n }
    | .boundB => (index? 16 w.toNat).map fun n => { t with boundB := n }
    | .area => allAreaCodes[w.toNat]?.map fun x => { t with area := x }
    | .onCount => (natIn 1 15 w).map fun n => { t with onCount := n }
    | .offCount => (natIn 1 15 w).map fun n => { t with offCount := n }).map (p.setSlot k c)
  | .permit k c f =>
    let t := (p.permits.get k).get c
    (match f with
    | .enable1 => (flagIn w).map fun b => { t with filter1 := { t.filter1 with enable := b } }
    | .mask1 => (setIn w).map fun m => { t with filter1 := { t.filter1 with mask := m } }
    | .pattern1 => (setIn w).map fun m => { t with filter1 := { t.filter1 with pattern := m } }
    | .enable2 => (flagIn w).map fun b => { t with filter2 := { t.filter2 with enable := b } }
    | .mask2 => (setIn w).map fun m => { t with filter2 := { t.filter2 with mask := m } }
    | .pattern2 => (setIn w).map fun m => { t with filter2 := { t.filter2 with pattern := m } }
    | .logic => allLogics[w.toNat]?.map fun x => { t with logic := x }).map (p.setPermit k c)
  | .pool b => (intIn (-4000) 4000 w).map fun v => { p with pool := p.pool.set b v }
  | .channel c f =>
    let t := p.channel c
    (match f with
    | .target => (natIn 1 4 w).map fun n => { t with target := n }
    | .low => (limitIn c w).map fun v => { t with low := v }
    | .high => (limitIn c w).map fun v => { t with high := v }
    | .stale => (natIn 5 900 w).map fun n => { t with stale := n }
    | .standIn => (standInIn c w).map fun d => { t with standIn := d }).map (p.setChannel c)
  | .height st =>
    (natIn 0 800 w).map fun n => { p with station := { p.station with heights := p.station.heights.set st n } }
  | .reference f =>
    (match f with
    | .lapse => (intIn (-150) 50 w).map fun v => { p.station with lapse := v }
    | .tolerance => (natIn 5 100 w).map fun n => { p.station with tolerance := n }
    | .discredit => (natIn 1 15 w).map fun n => { p.station with discredit := n }
    | .recredit => (natIn 1 15 w).map fun n => { p.station with recredit := n }).map fun t => { p with station := t }
  | .shaft h f =>
    let t := p.shafts.get h
    (match f with
    | .capacity => (natIn 0 65535 w).map fun n => { t with capacity := n }
    | .slotLimit => (natIn 1 8 w).map fun n => { t with slotLimit := n }).map fun t => { p with shafts := p.shafts.set h t }
  | .demandTimeout => (natIn 5 600 w).map fun n => { p with demandTimeout := n }
  | .ramp => (natIn 1 1000 w).map fun n => { p with ramp := n }
  | .polarity o => allPolarities[w.toNat]?.map fun x => { p with polarity := p.polarity.set o x }
  | .routing c => (linksIn w).map fun m => { p with routing := p.routing.set (classIndex c) m }
  | .rights l f =>
    let t := p.right l
    (match f with
    | .trains => (setIn w).map fun m => { t with trains := m }
    | .reportStations => (flagIn w).map fun b => { t with reportStations := b }
    | .force => (flagIn w).map fun b => { t with force := b }
    | .maintenance => (flagIn w).map fun b => { t with maintenance := b }
    | .config => (flagIn w).map fun b => { t with config := b }
    | .priority => (natIn 1 3 w).map fun n => { t with priority := n }).map (p.setRights l)
  | .line n f =>
    let t := p.lines.get n
    (match f with
    | .trains => (setIn w).map fun m => { t with trains := m }
    | .code => allPostureCodes[w.toNat]?.map fun x => { t with code := x }
    | .delay => (natIn 0 300 w).map fun n => { t with delay := n }).map fun t => { p with lines := p.lines.set n t }
  | .posture c f =>
    let t := p.posture c
    (match f with
    | .bp => (natIn 0 1000 w).map fun n => { t with bp := n }
    | .oa => (natIn 0 1000 w).map fun n => { t with oa := n }).map (p.setPosture c)

end Sys2Proof.Machine
end

