-- ==== Sys2Proof/Machine/State.lean ====
section
/-! DEFINITION. The state of the part, block by block (section 1.3 of 00_scope), its state after reset, and the reasons a
command can stop. -/

namespace Sys2Proof.Machine

/-- A timer that counts in whole seconds: the seconds left while it runs, none while it is stopped (section 1.9). -/
abbrev Timer := Option Nat

/-! Link Ports (chapter 11). -/

/-- The status codes (R169). -/
inductive Status where
  | ok | badKind | badLength | badIndex | noRight | outOfRange | locked | invalidSet | slotsInUse | trainBusy | empty
  | notLatched
  deriving DecidableEq, Repr

/-- A response being sent: the request's kind and tag, the status and the data after it (R169). -/
structure Response where
  kind : Byte
  tag : Byte
  status : Status
  data : List Byte
  deriving DecidableEq, Repr

/-- The receiver's phase (R167). -/
inductive RxPhase where
  | hunting | inFrame
  deriving DecidableEq, Repr

/-- A latch of a scope: its uptime and the frozen records, each as its bytes (R174). -/
structure Latch (n : Nat) where
  uptime : Nat
  records : Vec n (List Byte)
  deriving DecidableEq, Repr

/-- A Link Port. The buffer holds the bytes after the start byte. The TRAINS latch holds section p of train k at 4k + p, the
SHAFTS latch section p of shaft h at 3h + p, the REFERENCE latch the stations at 0..3 and the reference at 4. -/
structure LinkPort where
  phase : RxPhase
  buffer : List Byte
  interByte : Bool
  sending : Option Response
  dropped : Bool
  latchTrains : Option (Latch 32)
  latchReference : Option (Latch 5)
  latchShafts : Option (Latch 12)
  deriving DecidableEq, Repr

/-! Observation Table (chapter 1). -/

inductive ChannelState where
  | empty | fresh | stale
  deriving DecidableEq, Repr

/-- The runtime fields of a channel (R1). -/
structure ChannelRec where
  state : ChannelState
  published : Option Int
  sum : Int
  count : Nat
  age : Timer
  lastLink : Option Link
  deriving DecidableEq, Repr

/-! Outdoor Reference Unit (chapter 2). -/

inductive Credit where
  | credited | discredited
  deriving DecidableEq, Repr

/-- The runtime fields of a station (R18). -/
structure StationRec where
  credit : Credit
  counter : Nat
  lastReduced : Option Int
  lastDeviation : Option Int
  deriving DecidableEq, Repr

/-- The reference record (R28). -/
structure ReferenceRec where
  lost : Bool
  lostSinceRead : Bool
  usable : List Station
  median : Option Int
  wOA : Option Int
  deriving DecidableEq, Repr

/-! Criterion Bank (chapters 3 and 4). -/

/-- A raw result of a slot (R59, R60). -/
inductive Raw where
  | isFalse | isTrue | unavailable
  deriving DecidableEq, Repr

/-- The runtime fields of a criterion slot (R56). -/
structure SlotRec where
  asserted : Bool
  counter : Nat
  lastRaw : Raw
  deriving DecidableEq, Repr

/-- The side of an extrapolation's station, seen from the intake (R50). -/
inductive Side where
  | below | above
  deriving DecidableEq, Repr

/-- Which stations formed the intake temperature (R50). -/
inductive Selection where
  | exact (st : Station)
  | interpolated (lo hi : Station)
  | extrapolated (st : Station) (side : Side)
  | nothing
  deriving DecidableEq, Repr

/-- A decision record (R68). -/
structure Decision where
  uptime : Nat
  tOA : Option Int
  wOA : Option Int
  hOA : Option Int
  tRA : Option Int
  wRA : Option Int
  hRA : Option Int
  tEXL : Option Int
  selection : Selection
  standInT : Bool
  standInW : Bool
  standInE : Bool
  vector : Vec 8 Bool
  raws : Vec 8 Raw
  permits : Vec 3 Bool
  lockout : Bool
  candidate : Mode
  deriving DecidableEq, Repr

/-- The Criterion Bank's state for a train: its slots, its evaluation timer, which always runs (R52), and its latest decision
record. -/
structure BankRec where
  slots : Vec 8 SlotRec
  evalTimer : Nat
  decision : Option Decision
  deriving DecidableEq, Repr

/-! Demand Table (chapter 5). -/

/-- The request of a demand: AUTO, or FORCE with its forced mode (R72). -/
inductive Request where
  | auto
  | force (m : Mode)
  deriving DecidableEq, Repr

/-- The five fields of a demand that the other blocks read (R78). -/
structure Effective where
  fan : Bool
  d : Int
  request : Request
  fixedSpeed : Option Nat
  deriving DecidableEq, Repr

/-- A demand entry (R72). Its age timer runs while the entry exists. -/
structure DemandEntry where
  link : Link
  fields : Effective
  age : Nat
  deriving DecidableEq, Repr

/-! Train Sequencer (chapter 6). -/

inductive WheelBasis where
  | zero | recover | hold | posture
  deriving DecidableEq, Repr

inductive BypassBasis where
  | opened | closed | hold | posture
  deriving DecidableEq, Repr

inductive OaBasis where
  | zero | min | econ | hold | posture
  deriving DecidableEq, Repr

/-- The three output bases of a train (R92). -/
structure Bases where
  wheel : WheelBasis
  bypass : BypassBasis
  oa : OaBasis
  deriving DecidableEq, Repr

/-- The steps of a changeover (R102). -/
inductive Step where
  | wheelDown | bypassOpen | bypassClose | oaSet | wheelUp
  deriving DecidableEq, Repr

/-- The phases of a step (R101). -/
inductive StepPhase where
  | waitWheelZero | timing | waitLockout
  deriving DecidableEq, Repr

/-- A changeover record (R101). The index counts from 1. -/
structure Changeover where
  source : Mode
  target : Mode
  steps : List Step
  index : Nat
  phase : StepPhase
  timer : Timer
  deriving DecidableEq, Repr

/-- Three output values: wheel speed, bypass and outdoor-air position. -/
structure OutputValues where
  ws : Nat
  bp : Nat
  oa : Nat
  deriving DecidableEq, Repr

/-- The state of a train (R90): a steady mode, CHANGEOVER with its record, SAFE, or HELD with its hold values. -/
inductive TrainState where
  | steady (m : Mode)
  | changeover (r : Changeover)
  | safe
  | held (h : OutputValues)
  deriving DecidableEq, Repr

/-- The MODEL's own marks of what an event of the Train Sequencer has changed for a train, read and cleared at the end of that
event, when the bases are handed on (R92): any basis, the outdoor-air basis, or its standing in the set of allocated
states. -/
structure Touched where
  bases : Bool
  oa : Bool
  standing : Bool
  deriving DecidableEq, Repr

/-- A train record of the Train Sequencer (R90). -/
structure TrainRec where
  state : TrainState
  waiting : Option Mode
  dwell : Timer
  lockout : Timer
  pendingForce : Bool
  bases : Bases
  touched : Touched
  deriving DecidableEq, Repr

/-! Shaft Allocator (chapter 7). -/

/-- An entry of a wait list (R119). -/
structure WaitEntry where
  train : Train
  target : Mode
  deriving DecidableEq, Repr

/-- The cases of an allocation (R125). -/
inductive AllocCase where
  | unconstrained | proportional | minimum
  deriving DecidableEq, Repr

/-- A shaft record (R115): slots, wait list and the figures of the latest recomputation. The members follow from the active
set's shaft items (R117). -/
structure ShaftRec where
  holders : List Train
  waitList : List WaitEntry
  sumMin : Nat
  sumReq : Nat
  avail : Int
  excess : Nat
  allocCase : AllocCase
  deriving DecidableEq, Repr

/-- The min, req and grant of an allocated member (R123, R125). -/
structure Share where
  min : Nat
  req : Nat
  grant : Nat
  deriving DecidableEq, Repr

/-- A train's allocation entry, which moves with the train (R115, R117). -/
structure AllocEntry where
  allocated : Bool
  basis : OaBasis
  request : Nat
  share : Option Share
  deriving DecidableEq, Repr

/-! Drive Stage (chapter 8). -/

/-- An output record (R131). -/
structure OutputRec where
  command : Nat
  effective : Nat
  deriving DecidableEq, Repr

inductive BandLevel where
  | low | high
  deriving DecidableEq, Repr

/-- The Drive Stage's state for a train (R131): its three output records (outputs 3k, 3k + 1, 3k + 2), the ramp timer, the
per-train fields, and the bases last handed on (R133). -/
structure DriveRec where
  wheel : OutputRec
  bypass : OutputRec
  oa : OutputRec
  ramp : Timer
  grant : Option Nat
  band : Option BandLevel
  lockoutHold : Bool
  posture : Option OutputValues
  lastRequest : Nat
  frostCap : Option Nat
  bases : Bases
  deriving DecidableEq, Repr

/-! Life-Safety Interface (chapter 9). -/

/-- A line record (R150). -/
structure LineRec where
  level : Level
  asserted : Bool
  delay : Timer
  deriving DecidableEq, Repr

/-- A train's effective line and effective posture code (R154). -/
structure EffectivePosture where
  line : Line
  code : PostureCode
  deriving DecidableEq, Repr

/-! Notice Table (chapter 12). -/

/-- A condition with its subject (R176). -/
inductive Condition where
  | safe (k : Train)
  | referenceLost
  | stationDiscredited (st : Station)
  | demandExpired (k : Train)
  | channelStale (c : Channel)
  | reportRefused (c : Channel)
  | modeChanged (k : Train)
  | criterionChanged (k : Train)
  deriving DecidableEq, Repr

/-- What a block tells the Notice Table (R176): an edge condition raised once, or a level condition that begins or ends. -/
inductive Raise where
  | edge (c : Condition)
  | begins (c : Condition)
  | ends (c : Condition)
  deriving DecidableEq, Repr

/-- An entry of a pending set (R177). -/
structure NoticeEntry where
  cond : Condition
  count : Nat
  taken : Bool
  deriving DecidableEq, Repr

/-- A link's pending set and its attention line, true while asserted (R177, R179). -/
structure NoticeSet where
  entries : List NoticeEntry
  attention : Bool
  deriving DecidableEq, Repr

/-! Hand-offs between blocks that their receivers have not taken yet (assumption 2). -/

/-- An occasion of the Drive Stage (R133), with what the hand-off carries. A lockout expiry that answers a wheel-zero event
under a restart lockout of 0 s is marked (R135). -/
inductive Occasion where
  | record
  | demand
  | bases (b : Bases)
  | lockoutStart
  | lockoutExpiry (answers : Bool)
  | holdValues
  | grant (g : Nat)
  | leader
  deriving DecidableEq, Repr

/-- What is handed to the Shaft Allocator about a train: its outdoor-air basis and whether it is in the allocated set (R92), or
an economizer request (R124). -/
inductive ShaftNews where
  | basis (b : OaBasis) (allocated : Bool)
  | request (v : Nat)
  deriving DecidableEq, Repr

/-- A hand-off on its way to the block that takes it. -/
inductive Handoff where
  /-- to the Train Sequencer: a decision record or an effective-entry change (R94) -/
  | decision (k : Train) (src : DecisionSource)
  /-- to the Train Sequencer: a wheel-zero event (R144) -/
  | wheelZero (k : Train)
  /-- to the Train Sequencer: the start or the end of an effective posture (R154) -/
  | postureBegins (k : Train)
  | postureEnds (k : Train)
  /-- to the Drive Stage: a posture's values, or its end (R154) -/
  | posture (k : Train) (v : Option OutputValues)
  /-- to the Drive Stage: an occasion to recompute (R133) -/
  | drive (k : Train) (o : Occasion)
  /-- to the Shaft Allocator (R126) -/
  | shaft (k : Train) (n : ShaftNews)
  deriving DecidableEq, Repr

/-- The causes of the latest reset (R172). -/
inductive ResetCause where
  | powerOn | resetLine | restart
  deriving DecidableEq, Repr

/-- The state of the part and the queue of commands that wait to be taken, first in, first out. -/
structure State where
  /-- the commands that wait -/
  pending : List Instr
  /-- RESET_N is held low (R146) -/
  resetLow : Bool
  /-- the cause of the latest reset (R172) -/
  resetCause : ResetCause
  /-- the uptime counter (R173) -/
  uptime : Nat
  /-- the active parameter set (R159) -/
  active : Params
  /-- the staged parameter set (R159) -/
  staged : Params
  /-- the commissioning lock (R165) -/
  locked : Bool
  /-- the parameters-pending flags (R163) -/
  paramsPending : Vec 8 Bool
  /-- the Link Ports (R167) -/
  ports : Vec 3 LinkPort
  /-- the channel records (R1) -/
  channels : Vec 32 ChannelRec
  /-- the station records (R18) -/
  stations : Vec 4 StationRec
  /-- the reference record (R28) -/
  reference : ReferenceRec
  /-- the Criterion Bank's records (R56, R68) -/
  banks : Vec 8 BankRec
  /-- the demand tables, highest priority first (R73) -/
  demands : Vec 8 (List DemandEntry)
  /-- the train records (R90) -/
  trains : Vec 8 TrainRec
  /-- the shaft records (R115) -/
  shafts : Vec 4 ShaftRec
  /-- the allocation entries (R115) -/
  shares : Vec 8 AllocEntry
  /-- the Drive Stage's records (R131) -/
  drives : Vec 8 DriveRec
  /-- the line records (R150) -/
  lines : Vec 4 LineRec
  /-- the effective line and posture code of each train (R154) -/
  postures : Vec 8 (Option EffectivePosture)
  /-- the pending sets and attention lines (R177, R179) -/
  notices : Vec 3 NoticeSet
  /-- the held list of level conditions (R176) -/
  held : List Condition
  /-- what the Notice Table has been told and has not handled yet, oldest first (the model's own, assumption 32) -/
  raised : List Raise
  /-- the PWM lines: high counts at the start of the current period, of 1000 (R146) -/
  pwm : Vec 24 Nat
  /-- the hand-offs between blocks not taken yet, oldest first (the model's own, assumption 2) -/
  handoffs : List Handoff
  /-- how many stale hold values have been read (the model's own, for the free value of assumption 9) -/
  staleReads : Nat
  deriving DecidableEq, Repr

/-! The records after a reset. -/

/-- A Link Port after power-on and the reset line (R167, R168, R174). -/
def LinkPort.reset : LinkPort := ⟨.hunting, [], false, none, false, none, none, none⟩

/-- A channel after any reset (R1, R16). -/
def ChannelRec.reset : ChannelRec := ⟨.empty, none, 0, 0, none, none⟩

/-- A station after any reset (R18, R34). -/
def StationRec.reset : StationRec := ⟨.credited, 0, none, none⟩

/-- The reference after any reset (R28, R34). -/
def ReferenceRec.reset : ReferenceRec := ⟨true, true, [], none, none⟩

/-- A slot after any reset (R56, R70). -/
def SlotRec.reset : SlotRec := ⟨false, 0, .unavailable⟩

/-- A train's bank after any reset, under the evaluation period then active (R70). -/
def BankRec.reset (period : Nat) : BankRec := ⟨.replicate 8 .reset, period, none⟩

/-- The OFFLINE bases (R92). -/
def offlineBases : Bases := ⟨.zero, .closed, .zero⟩

/-- No mark set. -/
def Touched.clear : Touched := ⟨false, false, false⟩

/-- A train record after any reset (R90, R113). -/
def TrainRec.reset : TrainRec := ⟨.steady .offline, none, none, none, false, offlineBases, .clear⟩

/-- Cap_F of a shaft: its capacity multiplied by 1000 (section 7.1). -/
def capF (p : Params) (h : Shaft) : Int := (p.shafts.get h).capacity * 1000

/-- A shaft record after any reset (R115, R129). -/
def ShaftRec.reset (cap : Int) : ShaftRec := ⟨[], [], 0, 0, cap, 0, .unconstrained⟩

/-- A train's allocation entry after any reset (R115, R129). -/
def AllocEntry.reset (oaMin : Nat) : AllocEntry := ⟨false, .zero, oaMin, none⟩

/-- A train's drive record after any reset (R131, R148). -/
def DriveRec.reset (oaMin : Nat) : DriveRec :=
  ⟨⟨0, 0⟩, ⟨0, 0⟩, ⟨0, 0⟩, none, none, none, false, none, oaMin, none, offlineBases⟩

/-- A line sampled at a reset (R150, R157). -/
def LineRec.sampled (v : Level) : LineRec := ⟨v, v = .low, none⟩

/-- The pending set a reset leaves on a link that is routed for REFERENCE_LOST: the condition begins with the reset (R34,
R181). -/
def NoticeSet.afterReset : NoticeSet := ⟨[⟨.referenceLost, 1, false⟩], true⟩

/-- The machine right after power-on, the four life-safety lines sampled HIGH (assumption 5): every block at its reset
values and every parameter at its default, with REFERENCE_LOST begun. -/
def State.reset : State where
  pending := []
  resetLow := false
  resetCause := .powerOn
  uptime := 0
  active := defaultParams
  staged := defaultParams
  locked := false
  paramsPending := .replicate 8 false
  ports := .replicate 3 .reset
  channels := .replicate 32 .reset
  stations := .replicate 4 .reset
  reference := .reset
  banks := .replicate 8 (.reset 10)
  demands := .replicate 8 []
  trains := .replicate 8 .reset
  shafts := .replicate 4 (.reset 65535000)
  shares := .replicate 8 (.reset 200)
  drives := .replicate 8 (.reset 200)
  lines := .replicate 4 (.sampled .high)
  postures := .replicate 8 none
  notices := .replicate 3 .afterReset
  held := [.referenceLost]
  raised := []
  pwm := .replicate 24 0
  handoffs := []
  staleReads := 0

/-- The faults of the part. There are none: the manual stops the part at no command, it answers a status code or leaves
the state as it was. -/
inductive Fault where
  deriving DecidableEq, Repr

/-- The refusals of the model. -/
inductive Refusal where
  /-- Raised by Dispatch.lean for a command that has no meaning yet; safe: the model stops where the part goes on. -/
  | notModelled (mnemonic : String)
  deriving DecidableEq, Repr

end Sys2Proof.Machine
end

