-- ==== Sys2Proof/Machine/Ops.lean ====
section
/-! DEFINITION. The shared operations: reading and replacing one record, the hand-offs between blocks, the second tick, and
the gate of the reset line. -/

namespace Sys2Proof.Machine

/-! One record of a block, read and replaced. -/

def State.port (s : State) (l : Link) : LinkPort := s.ports.get (linkIndex l)
def State.channel (s : State) (c : Channel) : ChannelRec := s.channels.get c
def State.station (s : State) (st : Station) : StationRec := s.stations.get st
def State.bank (s : State) (k : Train) : BankRec := s.banks.get k
def State.demand (s : State) (k : Train) : List DemandEntry := s.demands.get k
def State.train (s : State) (k : Train) : TrainRec := s.trains.get k
def State.shaft (s : State) (h : Shaft) : ShaftRec := s.shafts.get h
def State.share (s : State) (k : Train) : AllocEntry := s.shares.get k
def State.drive (s : State) (k : Train) : DriveRec := s.drives.get k
def State.line (s : State) (n : Line) : LineRec := s.lines.get n
def State.posture (s : State) (k : Train) : Option EffectivePosture := s.postures.get k
def State.notice (s : State) (l : Link) : NoticeSet := s.notices.get (linkIndex l)

def State.setPort (s : State) (l : Link) (x : LinkPort) : State := { s with ports := s.ports.set (linkIndex l) x }
def State.setChannel (s : State) (c : Channel) (x : ChannelRec) : State := { s with channels := s.channels.set c x }
def State.setStation (s : State) (st : Station) (x : StationRec) : State := { s with stations := s.stations.set st x }
def State.setReference (s : State) (x : ReferenceRec) : State := { s with reference := x }
def State.setBank (s : State) (k : Train) (x : BankRec) : State := { s with banks := s.banks.set k x }
def State.setDemand (s : State) (k : Train) (x : List DemandEntry) : State := { s with demands := s.demands.set k x }
def State.setTrain (s : State) (k : Train) (x : TrainRec) : State := { s with trains := s.trains.set k x }
def State.setShaft (s : State) (h : Shaft) (x : ShaftRec) : State := { s with shafts := s.shafts.set h x }
def State.setShare (s : State) (k : Train) (x : AllocEntry) : State := { s with shares := s.shares.set k x }
def State.setDrive (s : State) (k : Train) (x : DriveRec) : State := { s with drives := s.drives.set k x }
def State.setLine (s : State) (n : Line) (x : LineRec) : State := { s with lines := s.lines.set n x }
def State.setPosture (s : State) (k : Train) (x : Option EffectivePosture) : State := { s with postures := s.postures.set k x }
def State.setNotice (s : State) (l : Link) (x : NoticeSet) : State := { s with notices := s.notices.set (linkIndex l) x }
def State.setHeld (s : State) (x : List Condition) : State := { s with held := x }
def State.setRaised (s : State) (x : List Raise) : State := { s with raised := x }
def State.setHandoffs (s : State) (x : List Handoff) : State := { s with handoffs := x }

/-- The active items of a train, and the shaft it is a member of (R117). -/
def State.params (s : State) (k : Train) : TrainParams := s.active.train k
def State.shaftOf (s : State) (k : Train) : Shaft := (s.params k).shaft

/-- The trains, stations, shafts, lines and channels in index order. -/
def allTrains : List Train := [0, 1, 2, 3, 4, 5, 6, 7]
def allStations : List Station := [0, 1, 2, 3]
def allShafts : List Shaft := [0, 1, 2, 3]
def allLines : List Line := [0, 1, 2, 3]
def allChannels : List Channel := List.finRange 32

/-- An operation carried out for each of a list of things in turn. -/
def forEach {α : Type} (xs : List α) (f : α → State → State) (s : State) : State := xs.foldl (fun s x => f x s) s

/-- Whether a set of trains holds a train: bit k stands for Tk (R182). -/
def inTrains (set : BitVec 8) (k : Train) : Bool := set.getLsbD k.val

/-! Rights (R170): the link's entry of the active port rights table. -/

def State.right (s : State) (l : Link) : RightsParams := s.active.right l

/-- Whether the train is in the link's train set. -/
def State.inSet (s : State) (l : Link) (k : Train) : Bool := inTrains (s.right l).trains k

/-! Hand-offs (assumption 2). -/

/-- A hand-off leaves its sender: it joins the tail. -/
def State.handOn (s : State) (x : Handoff) : State := s.setHandoffs (s.handoffs ++ [x])

/-- The oldest hand-off of a kind, and the state without it. -/
def State.takeHandoff (s : State) (p : Handoff → Bool) : Option (Handoff × State) :=
  match s.handoffs.find? p with
  | none => none
  | some x => some (x, s.setHandoffs (s.handoffs.eraseP p))

/-- The sender of an occasion of the Drive Stage (R133). -/
def Occasion.source : Occasion → DriveSource
  | .record => .criterionBank
  | .demand => .demandTable
  | .bases _ | .lockoutStart | .lockoutExpiry _ | .holdValues => .sequencer
  | .grant _ => .allocator
  | .leader => .leader

/-- The sender of what the Shaft Allocator is handed. -/
def ShaftNews.source : ShaftNews → ShaftSource
  | .basis .. => .sequencer
  | .request _ => .driveStage

def Handoff.isDecision (k : Train) (src : DecisionSource) : Handoff → Bool
  | .decision j src' => j = k ∧ src' = src
  | _ => false

def Handoff.isWheelZero (k : Train) : Handoff → Bool
  | .wheelZero j => j = k
  | _ => false

/-- A posture's start or end on its way to the Train Sequencer. -/
def Handoff.isPostureNews (k : Train) : Handoff → Bool
  | .postureBegins j | .postureEnds j => j = k
  | _ => false

def Handoff.isPosture (k : Train) : Handoff → Bool
  | .posture j _ => j = k
  | _ => false

/-- A change of an effective posture on its way to either block (R154). -/
def Handoff.ofPosture : Handoff → Bool
  | .postureBegins _ | .postureEnds _ | .posture _ _ => true
  | _ => false

def Handoff.isDrive (k : Train) (src : DriveSource) : Handoff → Bool
  | .drive j o => j = k ∧ o.source = src
  | _ => false

def Handoff.isShaft (k : Train) (src : ShaftSource) : Handoff → Bool
  | .shaft j n => j = k ∧ n.source = src
  | _ => false

/-- A wheel-zero event of the train that the Train Sequencer has not taken, or its answer that the Drive Stage has not taken
(R135). -/
def Handoff.awaitsAnswer (k : Train) : Handoff → Bool
  | .wheelZero j => j = k
  | .drive j .lockoutStart => j = k
  | .drive j (.lockoutExpiry true) => j = k
  | _ => false

/-! The states a train can be in. -/

/-- The steady mode a train is in, if it is in one. -/
def TrainState.steady? : TrainState → Option Mode
  | .steady m => some m
  | _ => none

/-- The states in which a train's shaft allocates flow to it (R123). -/
def TrainState.allocated : TrainState → Bool
  | .steady .offline | .safe | .held _ => false
  | .steady _ | .changeover _ => true

/-- The bases of a steady mode (R92). -/
def Mode.bases : Mode → Bases
  | .offline => ⟨.zero, .closed, .zero⟩
  | .bypass => ⟨.zero, .opened, .min⟩
  | .freeCool => ⟨.zero, .opened, .econ⟩
  | .recoverHeat | .recoverCool => ⟨.recover, .closed, .min⟩

/-! The second (R173, section 1.9). -/

/-- One whole second off every timer that counts in seconds (assumption 3). -/
def ChannelRec.tick (r : ChannelRec) : ChannelRec := { r with age := tickTimer r.age }
def BankRec.tick (r : BankRec) : BankRec := { r with evalTimer := r.evalTimer - 1 }
def DemandEntry.tick (e : DemandEntry) : DemandEntry := { e with age := e.age - 1 }
def TrainState.tick : TrainState → TrainState
  | .changeover r => .changeover { r with timer := tickTimer r.timer }
  | st => st
def TrainRec.tick (r : TrainRec) : TrainRec :=
  { r with state := r.state.tick, dwell := tickTimer r.dwell, lockout := tickTimer r.lockout }
def DriveRec.tick (r : DriveRec) : DriveRec := { r with ramp := tickTimer r.ramp }
def LineRec.tick (r : LineRec) : LineRec := { r with delay := tickTimer r.delay }

/-- Every seconds timer of the part has one whole second less to run. -/
def State.tickTimers (s : State) : State :=
  { s with
    channels := s.channels.map ChannelRec.tick
    banks := s.banks.map BankRec.tick
    demands := s.demands.map (List.map DemandEntry.tick)
    trains := s.trains.map TrainRec.tick
    drives := s.drives.map DriveRec.tick
    lines := s.lines.map LineRec.tick }

/-! The outcome of a command. -/

/-- While RESET_N is held low the part takes no event (assumption 4); otherwise the operation is carried out. -/
def whenLive (f : State → State) (s : State) : Host.Outcome State Fault Refusal :=
  if s.resetLow then .next s else .next (f s)

end Sys2Proof.Machine
end

