-- ==== Sys2Proof/Machine/Allocation.lean ====
section
/-! DEFINITION. The Shaft Allocator's outdoor-air allocation (sections 7.3 and 7.4). Its changeover slots are in
Sequencer.lean. -/

namespace Sys2Proof.Machine

/-- The members of a shaft under a parameter set, in train-index order (R117). -/
def membersOf (p : Params) (h : Shaft) : List Train := allTrains.filter fun k => (p.train k).shaft = h

/-- The allocated members of a shaft: the members whose train was in an allocated state when its bases were last handed on
(R123, assumption 8). -/
def State.allocatedMembers (s : State) (h : Shaft) : List Train :=
  (membersOf s.active h).filter fun k => (s.share k).allocated

/-- The min of an allocated member (R123). HOLD and POSTURE cannot belong to one. -/
def memberMin (basis : OaBasis) (oaMin : Nat) : Nat :=
  match basis with
  | .min | .econ => oaMin
  | .zero | .hold | .posture => 0

/-- The req of an allocated member (R123): an ECON member asks for the larger of its stored request and OA_min. -/
def memberReq (basis : OaBasis) (oaMin request : Nat) : Nat :=
  match basis with
  | .min => oaMin
  | .econ => max request oaMin
  | .zero | .hold | .posture => 0

/-- A member's min, req and nominal flow as a recomputation reads them. -/
structure Ask where
  train : Train
  min : Nat
  req : Nat
  q : Nat
  deriving DecidableEq, Repr

/-- What a member asks for. -/
def State.ask (s : State) (k : Train) : Ask :=
  let e := s.share k
  let p := s.params k
  ⟨k, memberMin e.basis p.oaMin, memberReq e.basis p.oaMin e.request, p.q⟩

/-- The figures of a recomputation (R125). -/
structure Figures where
  sumMin : Nat
  sumReq : Nat
  avail : Int
  excess : Nat
  allocCase : AllocCase
  deriving DecidableEq, Repr

/-- Σmin, Σreq, avail, E and the case of R125. -/
def figures (cap : Int) (asks : List Ask) : Figures :=
  let sumReq := (asks.map fun a => a.req * a.q).sum
  let sumMin := (asks.map fun a => a.min * a.q).sum
  let excess := (asks.map fun a => (a.req - a.min) * a.q).sum
  let avail := cap - sumMin
  let allocCase : AllocCase :=
    if (sumReq : Int) ≤ cap then .unconstrained else if avail ≤ 0 ∨ excess = 0 then .minimum else .proportional
  ⟨sumMin, sumReq, avail, excess, allocCase⟩

/-- The grant of a member (R125): req, min, or min + floor((req − min) × avail / E). -/
def grantOf (f : Figures) (a : Ask) : Nat :=
  match f.allocCase with
  | .unconstrained => a.req
  | .minimum => a.min
  | .proportional => a.min + ((a.req - a.min) * f.avail.toNat) / f.excess

/-- The grant of a member set, and handed to the Drive Stage where it has changed or the member has just become allocated
(R126). -/
def State.setGrant (f : Figures) (a : Ask) (s : State) : State :=
  let e := s.share a.train
  let g := grantOf f a
  let s' := s.setShare a.train { e with share := some ⟨a.min, a.req, g⟩ }
  if e.share.map (·.grant) = some g then s' else s'.handOn (.drive a.train (.grant g))

/-- A shaft's figures stored. -/
def State.setFigures (s : State) (h : Shaft) (f : Figures) : State :=
  s.setShaft h { s.shaft h with
    sumMin := f.sumMin, sumReq := f.sumReq, avail := f.avail, excess := f.excess, allocCase := f.allocCase }

/-- A shaft recomputed (R125, R126). -/
def State.recomputeShaft (s : State) (h : Shaft) : State :=
  let asks := (s.allocatedMembers h).map s.ask
  let f := figures (capF s.active h) asks
  forEach asks (State.setGrant f) (s.setFigures h f)

/-- A basis hand-off at the allocator (R123, R126): the basis is stored, a member out of the allocated set loses its min, req and
grant, and the shaft is recomputed. -/
def State.takeBasis (s : State) (k : Train) (b : OaBasis) (allocated : Bool) : State :=
  let e := s.share k
  (s.setShare k { e with allocated := allocated, basis := b, share := if allocated then e.share else none }).recomputeShaft
    (s.shaftOf k)

/-- An economizer request at the allocator (R124): stored, and the shaft recomputed for an allocated member whose basis is
ECON. -/
def State.takeRequest (s : State) (k : Train) (v : Nat) : State :=
  let e := s.share k
  let s' := s.setShare k { e with request := v }
  if e.allocated && e.basis = .econ then s'.recomputeShaft (s.shaftOf k) else s'

end Sys2Proof.Machine
end

