-- ==== Sys2Proof/Machine/Flags.lean ====
section
/-! DEFINITION. The status flags and notices: pending sets, the held list and the attention lines (chapter 12), the
dropped-since-read flag (R167, R168) and the parameters-pending flags (R163). -/

namespace Sys2Proof.Machine

/-! Conditions and classes (R176). -/

def Condition.cls : Condition → NoticeClass
  | .safe _ => .safe
  | .referenceLost => .referenceLost
  | .stationDiscredited _ => .stationDiscredited
  | .demandExpired _ => .demandExpired
  | .channelStale _ => .channelStale
  | .reportRefused _ => .reportRefused
  | .modeChanged _ => .modeChanged
  | .criterionChanged _ => .criterionChanged

/-- The subject's index, absent for REFERENCE_LOST. -/
def Condition.subject : Condition → Option Nat
  | .referenceLost => none
  | .safe k | .demandExpired k | .modeChanged k | .criterionChanged k => some k.val
  | .stationDiscredited st => some st.val
  | .channelStale c | .reportRefused c => some c.val

/-- The number of a class, 1 the highest priority. -/
def NoticeClass.number (c : NoticeClass) : Nat := (classIndex c).val + 1

/-- The level classes: SAFE and REFERENCE_LOST. -/
def NoticeClass.level : NoticeClass → Bool
  | .safe | .referenceLost => true
  | _ => false

/-- The place of a condition in the order of a pending set: by class number, then by subject index (R177). -/
def Condition.key (c : Condition) : Nat := c.cls.number * 64 + c.subject.getD 0

/-! Pending sets as ordered lists (R177). -/

/-- A pending set with an entry for `c` put in its place: `again` says what becomes of an entry the set holds already. -/
def fileWith (again : NoticeEntry → NoticeEntry) (c : Condition) : List NoticeEntry → List NoticeEntry
  | [] => [⟨c, 1, false⟩]
  | e :: es =>
    if c.key < e.cond.key then ⟨c, 1, false⟩ :: e :: es
    else if e.cond = c then again e :: es
    else e :: fileWith again c es

/-- An edge raise: a new entry with count 1, or one more occurrence, at most 255 (R177). -/
def fileEdge (c : Condition) : List NoticeEntry → List NoticeEntry :=
  fileWith (fun e => { e with count := min (e.count + 1) 255 }) c

/-- The beginning of a level condition: an entry with count 1, not taken (R177). -/
def fileLevel (c : Condition) : List NoticeEntry → List NoticeEntry := fileWith (fun _ => ⟨c, 1, false⟩) c

/-- A pending set without the entry for `c`. -/
def removeCondition (c : Condition) (es : List NoticeEntry) : List NoticeEntry := es.filter (·.cond ≠ c)

/-- The held list with a condition in its place. -/
def holdCondition (c : Condition) : List Condition → List Condition
  | [] => [c]
  | x :: xs => if c.key < x.key then c :: x :: xs else if x = c then x :: xs else x :: holdCondition c xs

/-- Whether an attention line is asserted by a pending set: it holds an entry that is not taken (R179). -/
def asksAttention (es : List NoticeEntry) : Bool := es.any (fun e => !e.taken)

/-- The one place where a pending set changes; the attention line follows it (R179). -/
def State.setEntries (s : State) (l : Link) (es : List NoticeEntry) : State := s.setNotice l ⟨es, asksAttention es⟩

/-- Whether a set of links holds a link: bit 0 for A, 1 for B, 2 for C (R182). -/
def inLinks (set : BitVec 3) (l : Link) : Bool := set.getLsbD (linkIndex l).val

/-- Whether a class is routed to a link by a parameter set. -/
def Params.routes (p : Params) (c : NoticeClass) (l : Link) : Bool := inLinks (p.routing.get (classIndex c)) l

/-- One change of the pending set of every link that the condition's class is routed to, by the routing active at the event
(R176, R177). -/
def State.onRouted (s : State) (c : Condition) (f : List NoticeEntry → List NoticeEntry) : State :=
  forEach allLinks (fun l s => if s.active.routes c.cls l then s.setEntries l (f (s.notice l).entries) else s) s

/-- The condition a raise names. -/
def Raise.condition : Raise → Condition
  | .edge c | .begins c | .ends c => c

/-- A notice event (R177): an edge raise is filed or counted; a level condition that begins joins the held list and is filed; one that ends
leaves the held list and its entries are removed. -/
def State.fileRaise (s : State) (x : Raise) : State :=
  match x with
  | .edge c => s.onRouted c (fileEdge c)
  | .begins c => (s.setHeld (holdCondition c s.held)).onRouted c (fileLevel c)
  | .ends c => (s.setHeld (s.held.filter (· ≠ c))).onRouted c (removeCondition c)

/-! The two ends of a notice: a block tells the Notice Table, which handles each in an event of its own (R176, assumption 32). -/

/-- An edge condition is raised. -/
def State.raise (s : State) (c : Condition) : State := s.setRaised (s.raised ++ [.edge c])

/-- A level condition begins. -/
def State.beginLevel (s : State) (c : Condition) : State := s.setRaised (s.raised ++ [.begins c])

/-- A level condition ends. -/
def State.endLevel (s : State) (c : Condition) : State := s.setRaised (s.raised ++ [.ends c])

/-- The Notice Table's own event: it handles the oldest of what it has been told. -/
def State.handleNotice (s : State) : State :=
  match s.raised with
  | [] => s
  | x :: rest => (s.setRaised rest).fileRaise x

/-! Link Port flags. -/

/-- The receiver at rest: HUNTING, the buffer empty, the inter-byte timer stopped (R167). -/
def LinkPort.hunt (p : LinkPort) : LinkPort := { p with phase := .hunting, buffer := [], interByte := false }

/-- A frame is dropped: the buffer empties, the receiver hunts and the dropped-since-read flag is set (R167). -/
def State.dropFrame (s : State) (l : Link) : State := s.setPort l { (s.port l).hunt with dropped := true }

end Sys2Proof.Machine
end

