-- ==== Sys2Proof/Machine/Operands.lean ====
section
/-! DEFINITION. The operand forms of a request: the layouts and codes of its payload (R183, section 13.4), the response
it gets (R169, R184) and the frame of a response (R182). -/

namespace Sys2Proof.Machine

/-! Codes of section 13.4. -/

def allStatuses : List Status :=
  [.ok, .badKind, .badLength, .badIndex, .noRight, .outOfRange, .locked, .invalidSet, .slotsInUse, .trainBusy, .empty,
    .notLatched]

/-- The code of a status. -/
def Status.byte (x : Status) : Byte := Machine.byte (codeIn allStatuses x)

/-- The code of a mode or candidate. -/
def Mode.code (m : Mode) : Nat := codeIn allModes m

/-- The code of a train state. -/
def TrainState.code : TrainState → Nat
  | .steady m => m.code
  | .changeover _ => 5
  | .safe => 6
  | .held _ => 7

/-- The request kinds. -/
def kindReport : Byte := 0x01
def kindDemand : Byte := 0x02
def kindWithdraw : Byte := 0x03
def kindHold : Byte := 0x04
def kindRelease : Byte := 0x05
def kindStage : Byte := 0x06
def kindApply : Byte := 0x07
def kindDiscard : Byte := 0x08
def kindLock : Byte := 0x09
def kindRestart : Byte := 0x0A
def kindRead : Byte := 0x0B
def kindLatch : Byte := 0x0C
def kindReadLatched : Byte := 0x0D
def kindTake : Byte := 0x0E
def kindPeek : Byte := 0x0F
def kindAck : Byte := 0x10

/-! Fields of a payload. -/

/-- An unsigned 16-bit field, low byte first. -/
def unsigned16 (lo hi : Byte) : Nat := (word16 lo hi).toNat

/-- A signed 16-bit field, low byte first. -/
def signed16 (lo hi : Byte) : Int := (word16 lo hi).toInt

/-- A one-byte flag: 0 or 1, any other value does not fit the layout (R183). -/
def flag? (b : Byte) : Option Bool := if b = 0 then some false else if b = 1 then some true else none

/-- An index byte below a bound. -/
def indexByte? (n : Nat) (b : Byte) : Option (Fin n) := index? n b.toNat

/-- A REPORT pair: a channel index and a signed value (R183). -/
structure ReportPair where
  index : Byte
  value : Int
  deriving DecidableEq, Repr

/-- The pairs of a REPORT payload; none where its length is no whole number of pairs. -/
def pairs? : List Byte → Option (List ReportPair)
  | [] => some []
  | i :: lo :: hi :: rest => (pairs? rest).map (⟨i, signed16 lo hi⟩ :: ·)
  | _ => none

/-- The fields of a DEMAND payload (R183). -/
structure DemandFields where
  train : Byte
  fan : Bool
  d : Int
  request : Byte
  forced : Byte
  fixedSpeed : Option Nat
  deriving DecidableEq, Repr

/-- A DEMAND payload of 8 bytes with a fan flag of 0 or 1; a fixed speed of 0xFFFF is absent. -/
def demandFields? : List Byte → Option DemandFields
  | [t, f, dl, dh, r, m, sl, sh] =>
    (flag? f).map fun fan =>
      ⟨t, fan, signed16 dl dh, r, m, if word16 sl sh = 0xFFFF then none else some (unsigned16 sl sh)⟩
  | _ => none

/-- The modes a FORCE may name: codes 1..4 (R74, R183). -/
def forcedMode? (b : Byte) : Option Mode := if 1 ≤ b.toNat ∧ b.toNat ≤ 4 then allModes[b.toNat]? else none

/-- A HOLD payload of 7 bytes: a train index and three unsigned values, each clamped to 0..1000 (R87). -/
def holdFields? : List Byte → Option (Byte × OutputValues)
  | [t, wl, wh, bl, bh, ol, oh] =>
    some (t, ⟨clampPermille (unsigned16 wl wh), clampPermille (unsigned16 bl bh), clampPermille (unsigned16 ol oh)⟩)
  | _ => none

/-- The condition an ACK names: a class of 1..8 and a subject in the range its class gives, 0xFF for REFERENCE_LOST
(R178, R183). -/
def condition? (cls subject : Byte) : Option Condition :=
  match cls.toNat with
  | 1 => (indexByte? 8 subject).map .safe
  | 2 => if subject = 0xFF then some .referenceLost else none
  | 3 => (indexByte? 4 subject).map .stationDiscredited
  | 4 => (indexByte? 8 subject).map .demandExpired
  | 5 => (indexByte? 32 subject).map .channelStale
  | 6 => (indexByte? 32 subject).map .reportRefused
  | 7 => (indexByte? 8 subject).map .modeChanged
  | 8 => (indexByte? 8 subject).map .criterionChanged
  | _ => none

/-! Requests and responses. -/

/-- What a request's rule answers: a status and, with it, the data after the status byte (R184). -/
structure Reply where
  status : Status
  data : List Byte
  deriving DecidableEq, Repr

/-- A refusal by status: no data. -/
def Reply.refuse (x : Status) : Reply := ⟨x, []⟩

/-- OK with data. -/
def Reply.ok (data : List Byte) : Reply := ⟨.ok, data⟩

/-- The meaning of a request: its effect and its reply. -/
abbrev RequestMeaning := State → State × Reply

/-- A request refused by one status changes nothing (R169). -/
def refuse (x : Status) : RequestMeaning := fun s => (s, .refuse x)

/-- A completed frame that passes its check is taken as a request (R168, R169): busy, it is dropped; otherwise the receiver
returns to HUNTING, the request is carried out, and the transmitter begins to send the response, which echoes the kind with its
top bit set and the tag. -/
def State.answer (s : State) (l : Link) (kind tag : Byte) (f : RequestMeaning) : State :=
  match (s.port l).sending with
  | some _ => s.dropFrame l
  | none =>
    let r := f (s.setPort l (s.port l).hunt)
    r.1.setPort l { r.1.port l with sending := some ⟨kind ||| 0x80, tag, r.2.status, r.2.data⟩ }

/-- The payload of a response: the status byte, then the data (R182). -/
def Response.payload (r : Response) : List Byte := r.status.byte :: r.data

/-- The bytes a response's check covers: kind, tag, length and payload (R168). -/
def Response.checked (r : Response) : List Byte := [r.kind, r.tag, byte r.payload.length] ++ r.payload

/-- The frame of a response as the transmitter sends it (R182). -/
def Response.frame (r : Response) : List Byte := Config.startByte :: r.checked ++ bytes16 (crc16 r.checked)

/-- A check of a request's payload that must be empty (R183). -/
def whenEmpty (payload : List Byte) (f : RequestMeaning) : RequestMeaning :=
  match payload with
  | [] => f
  | _ => refuse .badLength

/-- A check of the config right (R170). -/
def whenConfig (l : Link) (f : RequestMeaning) : RequestMeaning := fun s =>
  if (s.right l).config then f s else refuse .noRight s

end Sys2Proof.Machine
end

