-- ==== Sys2Proof/Machine/Demand.lean ====
section
/-! DEFINITION. The Demand Table (chapter 5): entries, the effective entry, DEMAND, WITHDRAW and expiry. -/

namespace Sys2Proof.Machine

/-- The neutral demand of a train with no entries (R78). -/
def neutralDemand : Effective := ⟨true, 0, .auto, none⟩

/-- Whether an entry's request is FORCE. -/
def DemandEntry.forces (e : DemandEntry) : Bool :=
  match e.fields.request with
  | .force _ => true
  | .auto => false

/-- The effective entry of a table (R77): the FORCE entry of highest priority, otherwise the entry at the head. -/
def effectiveEntry? (table : List DemandEntry) : Option DemandEntry :=
  match table.find? DemandEntry.forces with
  | some e => some e
  | none => table.head?

/-- The five fields a table gives to the other blocks (R77, R78). -/
def effectiveOf (table : List DemandEntry) : Effective :=
  match effectiveEntry? table with
  | some e => e.fields
  | none => neutralDemand

/-- The effective demand of a train. -/
def State.effective (s : State) (k : Train) : Effective := effectiveOf (s.demand k)

/-- The mode a FORCE names. -/
def Request.forced? : Request → Option Mode
  | .force m => some m
  | .auto => none

/-- A table with an entry put in by its link's priority, the highest at the head (R73). -/
def insertEntry (priority : Link → Nat) (e : DemandEntry) : List DemandEntry → List DemandEntry
  | [] => [e]
  | x :: xs => if priority x.link < priority e.link then e :: x :: xs else x :: insertEntry priority e xs

/-- The priorities of a parameter set. -/
def Params.priority (p : Params) (l : Link) : Nat := (p.right l).priority

/-- A table without a link's entry. -/
def withoutLink (l : Link) (table : List DemandEntry) : List DemandEntry := table.filter (·.link ≠ l)

/-- A table in the order of the priorities (R73, R84). -/
def orderTable (priority : Link → Nat) (table : List DemandEntry) : List DemandEntry :=
  table.foldr (insertEntry priority) []

/-- A change of the effective entry handed on (R79): to the Train Sequencer where the fan flag or the request (with its
forced mode) reads differently, for only then does it take a decision (R94), and to the Drive Stage in every case. -/
def State.handOnEffective (s : State) (k : Train) (before : Effective) : State :=
  let now := s.effective k
  let s' := if now.fan ≠ before.fan ∨ now.request ≠ before.request then s.handOn (.decision k .demandTable) else s
  if now ≠ before then s'.handOn (.drive k .demand) else s'

/-- A train's table replaced, the effective entry re-selected and a change handed on (R77, R79). -/
def State.changeTable (s : State) (k : Train) (table : List DemandEntry) : State :=
  (s.setDemand k table).handOnEffective k (s.effective k)

/-- The fields an accepted DEMAND stores (R75): D clamped to −100..+100, a fixed speed to 0..1000, the rest as received. -/
def storedFields (f : DemandFields) (r : Request) : Effective :=
  ⟨f.fan, clamp (-100) 100 f.d, r, f.fixedSpeed.map clampPermille⟩

/-- An accepted DEMAND (R76): the link's entry is made or replaced and its timer started, and the effective entry is
re-selected. -/
def State.acceptDemand (s : State) (l : Link) (k : Train) (fields : Effective) : State :=
  s.changeTable k (insertEntry s.active.priority ⟨l, fields, s.active.demandTimeout⟩ (withoutLink l (s.demand k)))

/-- Whether a link's entry is the effective entry of a train. -/
def State.isEffective (s : State) (l : Link) (k : Train) : Bool :=
  match effectiveEntry? (s.demand k) with
  | some e => e.link = l
  | none => false

/-- The request a DEMAND spells (R74, checks 4 to 6), under the link's force right. -/
def demandRequest (forceRight : Bool) (f : DemandFields) : Except Status Request :=
  match f.request.toNat with
  | 0 => .ok .auto
  | 1 =>
    if !forceRight then .error .noRight
    else match forcedMode? f.forced with
      | some m => .ok (.force m)
      | none => .error .outOfRange
  | _ => .error .outOfRange

/-- The meaning of a DEMAND (R74 to R76): its checks in order, then the entry; the response carries the stored D, the stored
fixed speed and whether the link's entry is effective. -/
def requestDemand (l : Link) (payload : List Byte) : RequestMeaning := fun s =>
  match demandFields? payload with
  | none => refuse .badLength s
  | some f =>
    match indexByte? 8 f.train with
    | none => refuse .badIndex s
    | some k =>
      if !s.inSet l k then refuse .noRight s
      else match demandRequest (s.right l).force f with
        | .error x => refuse x s
        | .ok r =>
          let fields := storedFields f r
          let s' := s.acceptDemand l k fields
          (s', .ok (s16 fields.d ++ u16? fields.fixedSpeed ++ [flagByte (s'.isEffective l k)]))

/-- An entry's age timer expires (R80): the entry is removed, DEMAND_EXPIRED is raised, and a change is handed on. -/
def State.expireDemand (s : State) (k : Train) (l : Link) : State :=
  (s.raise (.demandExpired k)).changeTable k (withoutLink l (s.demand k))

/-- The meaning of a WITHDRAW (R82). -/
def requestWithdraw (l : Link) (payload : List Byte) : RequestMeaning := fun s =>
  match payload with
  | [t] =>
    match indexByte? 8 t with
    | none => refuse .badIndex s
    | some k =>
      if !s.inSet l k then refuse .noRight s
      else if (s.demand k).any (·.link = l) then (s.changeTable k (withoutLink l (s.demand k)), .ok [])
      else (s, .ok [])
  | _ => refuse .badLength s

end Sys2Proof.Machine
end

