-- ==== Sys2Proof/Machine/Reference.lean ====
section
/-! DEFINITION. The Outdoor Reference Unit (chapter 2): reduced temperatures, the credit test, the re-decision of the
reference. -/

namespace Sys2Proof.Machine

/-- The published value of a channel while it is FRESH (R3). -/
def State.freshValue (s : State) (c : Channel) : Option Int :=
  match (s.channel c).state with
  | .fresh => (s.channel c).published
  | _ => none

/-- The reduced temperature of a station for a T value: t − round(lapse·z/1000), with the height and lapse rate of the active
set (R20). -/
def State.reduced (s : State) (st : Station) (t : Int) : Int :=
  t - lapseCorrection s.active.station.lapse (s.active.station.heights.get st)

/-- A station is usable when it is CREDITED and its T channel is FRESH (R27). -/
def State.isUsable (s : State) (st : Station) : Bool :=
  (s.station st).credit = .credited ∧ (s.freshValue (stationTChannel st)).isSome

/-- The reduced temperature of a usable station, from its current published value (R20). -/
def State.usableReduced (s : State) (st : Station) : Option Int :=
  if (s.station st).credit = .credited then (s.freshValue (stationTChannel st)).map (s.reduced st) else none

/-- The reduced temperatures of the others of a station's credit test: the other stations that are CREDITED with a FRESH T
channel (R21). -/
def State.others (s : State) (st : Station) : List Int :=
  (allStations.filter (· ≠ st)).filterMap s.usableReduced

/-- The counting of a test result (R23, R24): the new record, and whether the station is discredited by it. -/
def countCredit (p : StationParams) (r : StationRec) (agrees : Bool) : StationRec × Bool :=
  match r.credit, agrees with
  | .credited, true => ({ r with counter := 0 }, false)
  | .credited, false =>
    if r.counter + 1 = p.discredit then ({ r with credit := .discredited, counter := 0 }, true)
    else ({ r with counter := r.counter + 1 }, false)
  | .discredited, false => ({ r with counter := 0 }, false)
  | .discredited, true =>
    if r.counter + 1 = p.recredit then ({ r with credit := .credited, counter := 0 }, false)
    else ({ r with counter := r.counter + 1 }, false)

/-- The credit test of a station at a publication `t` of its T channel (R21 to R24): its last reduced temperature is stored;
with others, the deviation from their lower-middle median is stored and counted, and without, the deviation becomes absent. -/
def State.creditTest (s : State) (st : Station) (t : Int) : State :=
  let reduced := s.reduced st t
  let r := { s.station st with lastReduced := some reduced }
  match lowerMedian (s.others st) with
  | none => s.setStation st { r with lastDeviation := none }
  | some m =>
    let deviation : Int := |reduced - m|
    let counted := countCredit s.active.station { r with lastDeviation := some deviation }
      (decide (deviation ≤ s.active.station.tolerance))
    let s' := s.setStation st counted.1
    if counted.2 then s'.raise (.stationDiscredited st) else s'

/-- The reference record of a re-decision (R27 to R29), with the lost-since-read flag set when the reference becomes LOST. -/
def State.decidedReference (s : State) : ReferenceRec :=
  let usable := allStations.filter s.isUsable
  let wOA := lowerMedian (allStations.filterMap fun st => s.freshValue (stationWChannel st))
  let lost := usable.isEmpty || wOA.isNone
  { lost := lost
    lostSinceRead := s.reference.lostSinceRead || (lost && !s.reference.lost)
    usable := usable
    median := lowerMedian (allStations.filterMap s.usableReduced)
    wOA := wOA }

/-- A re-decision of the reference (R30): REFERENCE_LOST begins or ends as the lost flag changes. -/
def State.redecide (s : State) : State :=
  let r := s.decidedReference
  let s' := s.setReference r
  if r.lost && !s.reference.lost then s'.beginLevel .referenceLost
  else if !r.lost && s.reference.lost then s'.endLevel .referenceLost
  else s'

/-- A publication of a station channel reaches the unit (R12): a T channel's runs the credit test, and either re-decides the
reference. -/
def State.stationPublished (s : State) (c : Channel) (v : Int) : State :=
  match channelKind c with
  | .stationT => (s.creditTest (channelStation c) v).redecide
  | .stationW => s.redecide
  | _ => s

/-- A stale event of a station channel reaches the unit and re-decides the reference (R12, R30). -/
def State.stationStale (s : State) (c : Channel) : State := if c.val < 8 then s.redecide else s

end Sys2Proof.Machine
end

