-- ==== Sys2Proof/Machine/Observation.lean ====
section
/-! DEFINITION. The Observation Table (chapter 1): reports, publication, ageing and usable values. -/

namespace Sys2Proof.Machine

/-- The usable value of a channel, with whether it stands in (R13): its own FRESH value, or for a train channel the FRESH value
of its stand-in, whose own stand-in is not followed. -/
def State.usableValue (s : State) (c : Channel) : Option (Int × Bool) :=
  match s.freshValue c with
  | some v => some (v, false)
  | none =>
    if c.val < 8 then none
    else match (s.active.channel c).standIn with
      | none => none
      | some d => (s.freshValue d).map fun v => (v, true)

/-- The link may report the channel (R5): a station channel with the report-stations right, a train channel with its train in
the link's train set. -/
def State.mayReport (s : State) (l : Link) (c : Channel) : Bool :=
  if c.val < 8 then (s.right l).reportStations else s.inSet l (channelTrain c)

/-- A value within the channel's plausibility limits (R6). -/
def State.plausible (s : State) (c : Channel) (v : Int) : Bool :=
  decide ((s.active.channel c).low ≤ v ∧ v ≤ (s.active.channel c).high)

/-- The accumulator with nothing in it. -/
def ChannelRec.emptied (r : ChannelRec) : ChannelRec := { r with sum := 0, count := 0 }

/-- The channel after a publication (R8): the rounded mean, FRESH, the age timer started, the accumulator empty. -/
def State.publishedRec (s : State) (l : Link) (c : Channel) (v : Int) : ChannelRec where
  state := .fresh
  published := some (roundDiv ((s.channel c).sum + v) (s.active.channel c).target)
  sum := 0
  count := 0
  age := startTimer (s.active.channel c).stale
  lastLink := some l

/-- A publication (R8), handed to the Outdoor Reference Unit for a station channel (R12). -/
def State.publish (s : State) (l : Link) (c : Channel) (v : Int) : State :=
  let r := s.publishedRec l c v
  (s.setChannel c r).stationPublished c (r.published.getD 0)

/-- A value accepted and added without a publication (R7). -/
def State.accumulate (s : State) (c : Channel) (v : Int) : State :=
  let r := s.channel c
  s.setChannel c { r with sum := r.sum + v, count := r.count + 1 }

/-- The result bytes of a judged pair (R4, R184): the refusing status, or 0x00 accumulated, 0x80 published. -/
def resultAccumulated : Byte := 0x00
def resultPublished : Byte := 0x80

/-- One pair of a REPORT judged for index, rights and plausibility, then added or published (R4 to R8). -/
def State.judgePair (s : State) (l : Link) (pair : ReportPair) : State × Byte :=
  match indexByte? 32 pair.index with
  | none => (s, Status.badIndex.byte)
  | some c =>
    if !s.mayReport l c then (s, Status.noRight.byte)
    else if !s.plausible c pair.value then (s.raise (.reportRefused c), Status.outOfRange.byte)
    else if (s.channel c).count + 1 < (s.active.channel c).target then (s.accumulate c pair.value, resultAccumulated)
    else (s.publish l c pair.value, resultPublished)

/-- The pairs judged one after another, each complete before the next (R4). -/
def State.judgePairs (s : State) (l : Link) : List ReportPair → State × List Byte
  | [] => (s, [])
  | pair :: rest =>
    let one := s.judgePair l pair
    let more := one.1.judgePairs l rest
    (more.1, one.2 :: more.2)

/-- The meaning of a REPORT: BAD_LENGTH unless the payload holds one to eight whole pairs, otherwise OK with one result per
pair (R4). -/
def requestReport (l : Link) (payload : List Byte) : RequestMeaning := fun s =>
  match pairs? payload with
  | none => refuse .badLength s
  | some pairs =>
    if pairs.isEmpty || 8 < pairs.length then refuse .badLength s
    else
      let r := s.judgePairs l pairs
      (r.1, .ok r.2)

/-- The age timer of a channel expires (R10): STALE, the accumulator emptied, CHANNEL_STALE raised, and a station channel's
stale event handed on. -/
def State.goStale (s : State) (c : Channel) : State :=
  let r := s.channel c
  let s' := s.setChannel c { r.emptied with state := .stale, age := none }
  (s'.raise (.channelStale c)).stationStale c

end Sys2Proof.Machine
end

