-- ==== Sys2Proof/Machine/Intake.lean ====
section
/-! DEFINITION. Intake air-state arithmetic (chapter 3): the intake temperature, the enthalpies and the ten quantities. -/

namespace Sys2Proof.Machine

/-- A usable station as the intake computation reads it: its height and the published value of its T channel (R38). -/
structure StationPoint where
  station : Station
  height : Int
  t : Int
  deriving DecidableEq, Repr

/-- The usable stations of the reference, in index order (R32). -/
def State.points (s : State) : List StationPoint :=
  s.reference.usable.filterMap fun st =>
    (s.channel (stationTChannel st)).published.map fun t => ⟨st, s.active.station.heights.get st, t⟩

/-- The first of a list that no other is preferred to: `better x b` says that `x` displaces the `b` found before it. -/
def pickBest (better : StationPoint → StationPoint → Bool) (ok : StationPoint → Bool) (ps : List StationPoint) :
    Option StationPoint :=
  ps.foldl (fun best x => if ok x then (match best with | none => some x | some b => if better x b then some x else some b)
    else best) none

/-- LO: the usable station with the greatest height not above `z`, the lowest index of equals (R40). -/
def pickLo (z : Int) (ps : List StationPoint) : Option StationPoint :=
  pickBest (fun x b => decide (b.height < x.height)) (fun x => decide (x.height ≤ z)) ps

/-- HI: the usable station with the smallest height not below `z`, the lowest index of equals (R40). -/
def pickHi (z : Int) (ps : List StationPoint) : Option StationPoint :=
  pickBest (fun x b => decide (x.height < b.height)) (fun x => decide (z ≤ x.height)) ps

/-- The extrapolated temperature from one station (R41). -/
def extrapolate (lapse z : Int) (n : StationPoint) : Int := n.t + lapseCorrection lapse (z - n.height)

/-- The interpolated temperature between two stations (R41). -/
def interpolate (z : Int) (lo hi : StationPoint) : Int :=
  lo.t + roundDiv ((hi.t - lo.t) * (z - lo.height)) (hi.height - lo.height)

/-- The temperature of R41 before the clamp, and the selection of R50. -/
def intakeForm (lapse z : Int) (ps : List StationPoint) : Option Int × Selection :=
  match pickLo z ps, pickHi z ps with
  | none, none => (none, .nothing)
  | some n, none => (some (extrapolate lapse z n), .extrapolated n.station .below)
  | none, some n => (some (extrapolate lapse z n), .extrapolated n.station .above)
  | some lo, some hi =>
    if lo.height = z then (some lo.t, .exact lo.station)
    else (some (interpolate z lo hi), .interpolated lo.station hi.station)

/-- The intake temperature T_OA, clamped to −500..600, with its selection (R41 to R43). -/
def intakeTemperature (lapse z : Int) (ps : List StationPoint) : Option Int × Selection :=
  let r := intakeForm lapse z ps
  (r.1.map (clamp (-500) 600), r.2)

/-- An enthalpy, UNAVAILABLE when either input is (R47). -/
def enthalpy? (t w : Option Int) : Option Int := do return enthalpy (← t) (← w)

/-- The results of the intake computation of a train (R51), with the demand D it read. -/
structure Intake where
  tOA : Option Int
  wOA : Option Int
  hOA : Option Int
  tRA : Option Int
  wRA : Option Int
  hRA : Option Int
  tEXL : Option Int
  selection : Selection
  standInT : Bool
  standInW : Bool
  standInE : Bool
  d : Int
  deriving DecidableEq, Repr

/-- Whether a resolved role stands in. -/
def standsIn (v : Option (Int × Bool)) : Bool := match v with | some (_, b) => b | none => false

/-- The intake computation of a train (R38): T_OA, W_OA, the return and exhaust roles, and the enthalpies. -/
def State.intake (s : State) (k : Train) (d : Int) : Intake :=
  let t := intakeTemperature s.active.station.lapse (s.params k).height s.points
  let rT := s.usableValue (returnTChannel k)
  let rW := s.usableValue (returnWChannel k)
  let rE := s.usableValue (exhaustTChannel k)
  { tOA := t.1
    wOA := s.reference.wOA
    hOA := enthalpy? t.1 s.reference.wOA
    tRA := rT.map Prod.fst
    wRA := rW.map Prod.fst
    hRA := enthalpy? (rT.map Prod.fst) (rW.map Prod.fst)
    tEXL := rE.map Prod.fst
    selection := t.2
    standInT := standsIn rT
    standInW := standsIn rW
    standInE := standsIn rE
    d := d }

/-- A difference, UNAVAILABLE when either value is. -/
def difference? (x y : Option Int) : Option Int := do return (← x) - (← y)

/-- The ten quantities (R48): DT = T_RA − T_OA and DH = H_RA − H_OA, each absent where an input is. -/
def Intake.quantity (i : Intake) : Quantity → Option Int
  | .tOA => i.tOA
  | .wOA => i.wOA
  | .hOA => i.hOA
  | .tRA => i.tRA
  | .hRA => i.hRA
  | .dt => difference? i.tRA i.tOA
  | .dh => difference? i.hRA i.hOA
  | .d => some i.d
  | .tEXL => i.tEXL
  | .wRA => i.wRA

end Sys2Proof.Machine
end

