-- ==== Sys2Proof/Machine/Criteria.lean ====
section
/-! DEFINITION. The Criterion Bank (chapter 4): the area test, qualification, permits, lockout, candidate and the evaluation
event. -/

namespace Sys2Proof.Machine

/-- The three areas of the number line (R58). -/
inductive Area where
  | one | two | three
  deriving DecidableEq, Repr

/-- The area of a value under two boundary values, in either order (R58). -/
def areaOf (a b v : Int) : Area := if v < min a b then .one else if max a b < v then .three else .two

/-- Whether an area code reads the quantity (R59). -/
def AreaCode.reads : AreaCode → Bool
  | .never | .always => false
  | _ => true

/-- The truth of an area code in an area (R59). -/
def AreaCode.test : AreaCode → Area → Bool
  | .never, _ => false
  | .notI, x => x ≠ .one
  | .notII, x => x ≠ .two
  | .notIII, x => x ≠ .three
  | .always, _ => true
  | .inI, x => x = .one
  | .inII, x => x = .two
  | .inIII, x => x = .three

/-- A truth as a raw result. -/
def rawOf (b : Bool) : Raw := if b then .isTrue else .isFalse

/-- The raw result of a slot (R59, R60): UNAVAILABLE where the code reads a quantity that is UNAVAILABLE. -/
def rawResult (p : SlotParams) (pool : Vec 16 Int) (v : Option Int) : Raw :=
  if !p.area.reads then rawOf (p.area.test .two)
  else match v with
    | none => .unavailable
    | some v => rawOf (p.area.test (areaOf (pool.get p.boundA) (pool.get p.boundB) v))

/-- The count at which a slot in a state flips (R61). -/
def SlotParams.count (p : SlotParams) (asserted : Bool) : Nat := if asserted then p.offCount else p.onCount

/-- The qualification of a slot by a raw result (R60, R61): the new record, and whether its state flipped. -/
def qualify (p : SlotParams) (r : SlotRec) (raw : Raw) : SlotRec × Bool :=
  match raw with
  | .unavailable => ({ r with lastRaw := raw }, false)
  | _ =>
    if decide (raw = .isTrue) = r.asserted then ({ r with counter := 0, lastRaw := raw }, false)
    else if r.counter + 1 = p.count r.asserted then (⟨!r.asserted, 0, raw⟩, true)
    else ({ r with counter := r.counter + 1, lastRaw := raw }, false)

/-- A filter over the criterion vector (R64). -/
def FilterParams.holds (f : FilterParams) (vector : Vec 8 Bool) : Bool :=
  !f.enable || (List.finRange 8).all fun c => !f.mask.getLsbD c.val || vector.get c == f.pattern.getLsbD c.val

/-- The combination of two filter results (R65). -/
def Logic.combine : Logic → Bool → Bool → Bool
  | .and, x, y => x && y
  | .or, x, y => x || y
  | .nand, x, y => !(x && y)
  | .nor, x, y => !(x || y)

/-- A permit over the criterion vector (R65). -/
def PermitParams.holds (p : PermitParams) (vector : Vec 8 Bool) : Bool :=
  p.logic.combine (p.filter1.holds vector) (p.filter2.holds vector)

/-- The candidate (R66, R67): the first of FREE_COOL, RECOVER_COOL, RECOVER_HEAT that is permitted and not locked out,
otherwise BYPASS. -/
def candidateOf (lockout freeCool recoverCool recoverHeat : Bool) : Mode :=
  if freeCool && !lockout then .freeCool
  else if recoverCool && !lockout then .recoverCool
  else if recoverHeat then .recoverHeat
  else .bypass

/-- The raw results of a train's slots from its quantities (R53, step 2). -/
def State.rawResults (s : State) (k : Train) (i : Intake) : Vec 8 Raw :=
  .ofFn fun c =>
    let p := (s.active.slots.get k).get c
    rawResult p s.active.pool (i.quantity p.quantity)

/-- The qualified slots of a train, each with whether it flipped. -/
def State.qualified (s : State) (k : Train) (raws : Vec 8 Raw) : Vec 8 (SlotRec × Bool) :=
  .ofFn fun c => qualify ((s.active.slots.get k).get c) ((s.bank k).slots.get c) (raws.get c)

/-- The decision record of an evaluation (R68), from the intake results, the raw results and the qualified slots. -/
def State.decision (s : State) (k : Train) (i : Intake) (raws : Vec 8 Raw) (slots : Vec 8 SlotRec) : Decision :=
  let vector := slots.map (·.asserted)
  let permits := (s.active.permits.get k).map (·.holds vector)
  { uptime := s.uptime
    tOA := i.tOA
    wOA := i.wOA
    hOA := i.hOA
    tRA := i.tRA
    wRA := i.wRA
    hRA := i.hRA
    tEXL := i.tEXL
    selection := i.selection
    standInT := i.standInT
    standInW := i.standInW
    standInE := i.standInE
    vector := vector
    raws := raws
    permits := permits
    lockout := s.reference.lost
    candidate := candidateOf s.reference.lost (permits.get 0) (permits.get 1) (permits.get 2) }

/-- One CRITERION_CHANGED for each slot that flipped (R61). -/
def State.raiseFlips (s : State) (k : Train) (qs : Vec 8 (SlotRec × Bool)) : State :=
  forEach (List.finRange 8) (fun c s => if (qs.get c).2 then s.raise (.criterionChanged k) else s) s

/-- The evaluation event of a train (R53): the intake computation, the qualification, the vector, the permits, the lockout and
the candidate, the new decision record, the parameters-pending flag cleared, the timer reloaded (R52), and the record handed on
to the Train Sequencer and the Drive Stage (R54). -/
def State.evaluate (s : State) (k : Train) : State :=
  let i := s.intake k (s.effective k).d
  let raws := s.rawResults k i
  let qs := s.qualified k raws
  let slots := qs.map Prod.fst
  let s' := (s.raiseFlips k qs).setBank k ⟨slots, (s.params k).period, some (s.decision k i raws slots)⟩
  let s' := { s' with paramsPending := s'.paramsPending.set k false }
  (s'.handOn (.decision k .criterionBank)).handOn (.drive k .record)

end Sys2Proof.Machine
end

