-- ==== Sys2Proof/Machine/Drive.lean ====
section
/-! DEFINITION. The Drive Stage (chapter 8): commands, wheel sources, the frost cap, the economizer request, the wheel ramp,
postures and the PWM lines. -/

namespace Sys2Proof.Machine

/-! The wheel command (R134 to R140). -/

/-- Whether the Drive Stage keeps a held lockout hold (R135): the restart-lockout timer runs, or a wheel-zero event of the train
has not been answered. -/
def State.keepsHold (s : State) (k : Train) : Bool :=
  (s.train k).lockout.isSome || s.handoffs.any (Handoff.awaitsAnswer k)

/-- The COMPUTED source: WS_min + round((WS_max − WS_min)·|D|/100) (R136). -/
def computedSpeed (p : TrainParams) (d : Int) : Nat :=
  (p.wsMin + roundDiv (((p.wsMax : Int) - p.wsMin) * |d|) 100).toNat

/-- The band level after a recomputation (R137). -/
def judgeBand (low high : Int) (v : Option Int) (level : Option BandLevel) : Option BandLevel :=
  match v with
  | none => level
  | some v => if high < v then some .high else if v < low then some .low else level

/-- The band level of a train as a recomputation leaves it: re-judged only while the source is BAND and the wheel basis is
RECOVER (R137). -/
def State.bandAfter (s : State) (k : Train) : Option BandLevel :=
  let d := s.drive k
  let p := s.params k
  if p.wheelSource = .band ∧ d.bases.wheel = .recover then
    judgeBand (s.active.pool.get p.bandLow) (s.active.pool.get p.bandHigh) ((s.usableValue p.bandChannel).map Prod.fst) d.band
  else d.band

/-- The value of a train's wheel source (R136 to R139), with the band level after this recomputation. -/
def State.sourceValue (s : State) (k : Train) (band : Option BandLevel) : Nat :=
  let p := s.params k
  match p.wheelSource with
  | .computed => computedSpeed p (s.effective k).d
  | .band => if band = some .high then p.wsMax else p.wsMin
  | .fixed => (s.effective k).fixedSpeed.getD p.wsMin
  | .follow => (s.drive p.leader).wheel.command

/-- The frost cap for an exhaust-leaving temperature (R140). -/
def frostCapOf (p : TrainParams) (tEXL : Option Int) : Nat :=
  match tEXL with
  | none => p.wsFloor
  | some t =>
    let l := p.tFrost - p.frostSpan
    if p.tFrost ≤ t then 1000
    else if t ≤ l then p.wsFloor
    else (p.wsFloor + roundDiv ((1000 - (p.wsFloor : Int)) * (t - l)) p.frostSpan).toNat

/-- The frost cap of a train while it is in RECOVER_HEAT, from its latest decision record (R140). -/
def State.frostCap (s : State) (k : Train) : Option Nat :=
  match (s.train k).state with
  | .steady .recoverHeat => some (frostCapOf (s.params k) ((s.bank k).decision.bind (·.tEXL)))
  | _ => none

/-- The hold values a HOLD basis takes: the train's, or a free value of 0..1000 for each output while the Train Sequencer holds
none (assumption 9). -/
def State.holdValues (s : State) (k : Train) : OutputValues :=
  match (s.train k).state with
  | .held h => h
  | _ =>
    let n := 3 * s.staleReads
    ⟨clampPermille (Config.staleHoldValue n), clampPermille (Config.staleHoldValue (n + 1)),
      clampPermille (Config.staleHoldValue (n + 2))⟩

/-- The wheel command of a train and the frost cap it applied (R134, R140): the first line that applies, from the posture down to
the wheel source. -/
def State.wheelCommand (s : State) (k : Train) (hold : Bool) (band : Option BandLevel) : Nat × Option Nat :=
  let d := s.drive k
  match d.posture with
  | some v => (v.ws, none)
  | none =>
    if hold then (0, none)
    else match d.bases.wheel with
      | .zero => (0, none)
      | .posture => (d.wheel.command, none)
      | .hold => ((s.holdValues k).ws, none)
      | .recover =>
        match s.frostCap k with
        | some cap => (min (s.sourceValue k band) cap, some cap)
        | none => (s.sourceValue k band, none)

/-- The bypass command (R141). -/
def State.bypassCommand (s : State) (k : Train) : Nat :=
  let d := s.drive k
  match d.posture with
  | some v => v.bp
  | none =>
    match d.bases.bypass with
    | .closed => 0
    | .opened => 1000
    | .hold => (s.holdValues k).bp
    | .posture => d.bypass.command

/-- The outdoor-air command (R141). -/
def State.oaCommand (s : State) (k : Train) : Nat :=
  let d := s.drive k
  match d.posture with
  | some v => v.oa
  | none =>
    match d.bases.oa with
    | .zero => 0
    | .min | .econ => d.grant.getD d.oa.command
    | .hold => (s.holdValues k).oa
    | .posture => d.oa.command

/-! Commands and effective values (R143). -/

/-- A damper output with a new command: the effective value becomes it (R143). -/
def OutputRec.jump (c : Nat) : OutputRec := ⟨c, c⟩

/-- The ramp timer after a recomputation (R143): stopped when the wheel is at its command, started with 1 s when it is not and the
timer was stopped. -/
def rampAfter (ramp : Timer) (w : OutputRec) : Timer :=
  if w.effective = w.command then none else match ramp with | none => some 1 | some t => some t

/-- A change of a train's wheel command handed to every train that follows it (R139). -/
def State.handToFollowers (s : State) (k : Train) (before : Nat) : State :=
  if (s.drive k).wheel.command = before then s
  else
    forEach (allTrains.filter fun j => (s.params j).wheelSource = .follow ∧ (s.params j).leader = k)
      (fun j s => s.handOn (.drive j .leader)) s

/-- Whether the bases last handed on include a HOLD basis for which the Train Sequencer holds no values. -/
def State.readsStaleHold (s : State) (k : Train) : Bool :=
  let d := s.drive k
  match (s.train k).state with
  | .held _ => false
  | _ => d.posture.isNone && (d.bases.wheel = .hold || d.bases.bypass = .hold || d.bases.oa = .hold)

/-- The three commands of a train recomputed (R133 to R141), the lockout hold re-tested (R135), and the outputs moved (R143). -/
def State.recompute (s : State) (k : Train) : State :=
  let d := s.drive k
  let hold := d.lockoutHold && s.keepsHold k
  let band := s.bandAfter k
  let w := s.wheelCommand k hold band
  let wheel : OutputRec := { d.wheel with command := w.1 }
  let s' := s.setDrive k { d with
    wheel := wheel
    bypass := .jump (s.bypassCommand k)
    oa := .jump (s.oaCommand k)
    ramp := rampAfter d.ramp wheel
    band := band
    lockoutHold := hold
    frostCap := w.2 }
  let s' := { s' with staleReads := s'.staleReads + (if s.readsStaleHold k then 1 else 0) }
  s'.handToFollowers k d.wheel.command

/-! The economizer request (R142). -/

/-- OA_econ = OA_min + round((1000 − OA_min)·max(0, −D)/100) (R142). -/
def economizerRequest (oaMin : Nat) (d : Int) : Nat :=
  (oaMin + roundDiv ((1000 - (oaMin : Int)) * max 0 (-d)) 100).toNat

/-- The economizer request formed, and handed to the train's shaft and stored where it differs from the last (R142). -/
def State.formRequest (s : State) (k : Train) : State :=
  let v := economizerRequest (s.params k).oaMin (s.effective k).d
  if v = (s.drive k).lastRequest then s
  else (s.setDrive k { s.drive k with lastRequest := v }).handOn (.shaft k (.request v))

/-! Occasions (R133). -/

/-- The grant a basis hand-off leaves stored: absent where the outdoor-air basis is ZERO, HOLD or POSTURE (R141). -/
def grantAfter (b : OaBasis) (g : Option Nat) : Option Nat :=
  match b with
  | .min | .econ => g
  | .zero | .hold | .posture => none

/-- What an occasion leaves stored at the Drive Stage before the commands are recomputed: the bases handed on, the grant, and the
economizer request formed on a change of the effective entry (R133, R141, R142). -/
def State.store (s : State) (k : Train) : Occasion → State
  | .bases b => s.setDrive k { s.drive k with bases := b, grant := grantAfter b.oa (s.drive k).grant }
  | .grant g => s.setDrive k { s.drive k with grant := some g }
  | .demand => s.formRequest k
  | .record | .lockoutStart | .lockoutExpiry _ | .holdValues | .leader => s

/-! The ramp and the wheel at rest (R143, R144). -/

/-- One ramp step: the effective value reaches the command when it is within RAMP, otherwise it moves by RAMP toward it. -/
def rampStep (ramp : Nat) (w : OutputRec) : Nat :=
  if w.effective ≤ w.command then min w.command (w.effective + ramp) else max w.command (w.effective - ramp)

/-- A wheel whose effective value has become 0 from a non-zero value (R144): a wheel-zero event is issued, and the lockout hold is
set. -/
def State.wheelZero (s : State) (k : Train) (before : Nat) : State :=
  if before ≠ 0 ∧ (s.drive k).wheel.effective = 0 then
    (s.setDrive k { s.drive k with lockoutHold := true }).handOn (.wheelZero k)
  else s

/-- A ramp step of a train's wheel (R143): the timer starts again while the wheel is not at its command. -/
def State.ramp (s : State) (k : Train) : State :=
  let d := s.drive k
  let wheel : OutputRec := { d.wheel with effective := rampStep s.active.ramp d.wheel }
  (s.setDrive k { d with wheel := wheel, ramp := if wheel.effective = wheel.command then none else some 1 }).wheelZero k
    d.wheel.effective

/-! Postures (R145). -/

/-- The wheel of a posture: its effective value is at the command at once, and the ramp stops (R145). -/
def State.stopRamp (s : State) (k : Train) : State :=
  let d := s.drive k
  s.setDrive k { d with wheel := .jump d.wheel.command, ramp := none }

/-- A posture begins or changes at the Drive Stage (R145), an occasion of R133: the commands are recomputed, and are the posture's; the
effective values are at them at once; and a wheel brought to rest issues a wheel-zero event. -/
def State.applyPosture (s : State) (k : Train) (v : OutputValues) : State :=
  let d := s.drive k
  (((s.setDrive k { d with posture := some v }).recompute k).stopRamp k).wheelZero k d.wheel.effective

/-- A posture ends at the Drive Stage (R145): the commands are recomputed from the bases. -/
def State.endPosture (s : State) (k : Train) : State :=
  (s.setDrive k { s.drive k with posture := none }).recompute k

/-! The PWM lines (R146). -/

/-- The output record of an output index: output 3k is the wheel, 3k + 1 the bypass, 3k + 2 the outdoor-air damper of train k
(R131). -/
def State.output (s : State) (o : Fin 24) : OutputRec :=
  let d := s.drive ⟨o.val / 3, by omega⟩
  match o.val % 3 with
  | 0 => d.wheel
  | 1 => d.bypass
  | _ => d.oa

/-- The counts, of 1000, for which a line is driven high from the start of a period (R146). -/
def highCounts (p : Polarity) (v : Nat) : Nat :=
  match p with
  | .normal => v
  | .inverted => 1000 - v

/-- A period boundary: every line takes its effective value and its polarity (R146). -/
def State.beginPeriod (s : State) : State :=
  { s with pwm := .ofFn fun o => highCounts (s.active.polarity.get o) (s.output o).effective }

end Sys2Proof.Machine
end

