-- ==== Sys2Proof/Machine/Sequencer.lean ====
section
/-! DEFINITION. The Train Sequencer (chapter 6) and the changeover slots it asks the Shaft Allocator for (section 7.2):
target decisions, changeovers, aborts, HELD and SAFE. -/

namespace Sys2Proof.Machine

/-! A train's state, bases and timers. -/

/-- A train's bases set, with a mark where a basis changes (R92). -/
def State.setBases (s : State) (k : Train) (b : Bases) : State :=
  let t := s.train k
  s.setTrain k { t with
    bases := b
    touched := { t.touched with bases := t.touched.bases || b != t.bases, oa := t.touched.oa || b.oa != t.bases.oa } }

/-- A change of a train's state: MODE_CHANGED is raised (R93), and a step into or out of the allocated states is marked
(R92). -/
def State.enterState (s : State) (k : Train) (st : TrainState) : State :=
  let t := s.train k
  (s.setTrain k { t with
    state := st
    touched := { t.touched with standing := t.touched.standing || st.allocated != t.state.allocated } }).raise (.modeChanged k)

/-- A train's dwell timer set. -/
def State.setDwell (s : State) (k : Train) (t : Timer) : State := s.setTrain k { s.train k with dwell := t }

/-- The dwell timer started with the train's dwell (R97). -/
def State.startDwell (s : State) (k : Train) : State := s.setDwell k (startTimer (s.params k).dwell)

/-- A train's waiting target set. -/
def State.setWaiting (s : State) (k : Train) (w : Option Mode) : State := s.setTrain k { s.train k with waiting := w }

/-- A train's pending-force flag set. -/
def State.setPendingForce (s : State) (k : Train) (b : Bool) : State := s.setTrain k { s.train k with pendingForce := b }

/-- The changeover record of a train replaced; the train stays in CHANGEOVER, so this is no change of state. -/
def State.setRecord (s : State) (k : Train) (r : Changeover) : State := s.setTrain k { s.train k with state := .changeover r }

/-- A train enters a steady mode: the state, its bases, the dwell started (R96, R97, R107, R110, R112). -/
def State.enterSteady (s : State) (k : Train) (m : Mode) : State := ((s.enterState k (.steady m)).setBases k m.bases).startDwell k

/-! Wait lists (R119, R120). -/

/-- A train taken out of its shaft's wait list; the entries behind it move up. -/
def State.leaveWaitList (s : State) (k : Train) : State :=
  let h := s.shaftOf k
  s.setShaft h { s.shaft h with waitList := (s.shaft h).waitList.filter (·.train ≠ k) }

/-- A waiting target dropped, and the train out of the wait list (R95 to R98, R109, R111). -/
def State.dropWaiting (s : State) (k : Train) : State := (s.setWaiting k none).leaveWaitList k

/-- A waiting target replaced in place, in the train record and in the wait-list entry (R99, R119). -/
def State.replaceWaiting (s : State) (k : Train) (m : Mode) : State :=
  let h := s.shaftOf k
  (s.setWaiting k (some m)).setShaft h
    { s.shaft h with waitList := (s.shaft h).waitList.map fun e => if e.train = k then ⟨k, m⟩ else e }

/-- A train queued at the tail of its shaft's wait list (R99, R118). -/
def State.joinWaitList (s : State) (k : Train) (m : Mode) : State :=
  let h := s.shaftOf k
  (s.setWaiting k (some m)).setShaft h { s.shaft h with waitList := (s.shaft h).waitList ++ [⟨k, m⟩] }

/-! Changeovers (R101 to R104). -/

/-- The step list of a changeover (R103); the pairs that need no changeover have none. -/
def stepList : Mode → Mode → List Step
  | .recoverHeat, .bypass | .recoverCool, .bypass => [.wheelDown, .bypassOpen]
  | .recoverHeat, .freeCool | .recoverCool, .freeCool => [.wheelDown, .bypassOpen, .oaSet]
  | .bypass, .freeCool | .freeCool, .bypass => [.oaSet]
  | .bypass, .recoverHeat | .bypass, .recoverCool => [.bypassClose, .wheelUp]
  | .freeCool, .recoverHeat | .freeCool, .recoverCool => [.oaSet, .bypassClose, .wheelUp]
  | .offline, .bypass | .offline, .freeCool => [.wheelDown, .bypassOpen, .oaSet]
  | .offline, .recoverHeat | .offline, .recoverCool => [.oaSet, .wheelUp]
  | _, _ => []

/-- The basis a step sets at its beginning (R102); WHEEL_UP sets its own when it completes. -/
def beginBasis (target : Mode) (b : Bases) : Step → Bases
  | .wheelDown => { b with wheel := .zero }
  | .bypassOpen => { b with bypass := .opened }
  | .bypassClose => { b with bypass := .closed }
  | .oaSet => { b with oa := target.bases.oa }
  | .wheelUp => b

/-- The duration of a step's TIMING phase (R102). -/
def stepDuration (p : TrainParams) : Step → Nat
  | .wheelDown => p.spinDown
  | _ => p.stroke

/-- How far a run of steps came in one event: through to the end, or to a step that waits. -/
inductive StepOutcome where
  | done
  | waits (index : Nat) (phase : StepPhase) (timer : Timer)
  deriving DecidableEq, Repr

/-- The steps of a changeover begun one after another in one event, until one waits or the last completes (R102, R104). A TIMING
phase of 0 s completes at once. A WHEEL_DOWN looks at the effective value alone, whether or not the wheel-zero event of a wheel at rest has
been taken (assumption 31). -/
def State.runSteps (k : Train) (target : Mode) : List Step → Nat → State → State × StepOutcome
  | [], _, s => (s, .done)
  | st :: rest, i, s =>
    let s := s.setBases k (beginBasis target (s.train k).bases st)
    match st with
    | .wheelUp =>
      if (s.train k).lockout.isSome then (s, .waits i .waitLockout none)
      else State.runSteps k target rest (i + 1) (s.setBases k { (s.train k).bases with wheel := .recover })
    | .wheelDown =>
      if (s.drive k).wheel.effective ≠ 0 then (s, .waits i .waitWheelZero none)
      else match startTimer (stepDuration (s.params k) .wheelDown) with
        | none => State.runSteps k target rest (i + 1) s
        | some d => (s, .waits i .timing (some d))
    | st =>
      match startTimer (stepDuration (s.params k) st) with
      | none => State.runSteps k target rest (i + 1) s
      | some d => (s, .waits i .timing (some d))

/-- The steps of a changeover record from an index on. The answer says whether the last step has completed. -/
def State.proceed (s : State) (k : Train) (r : Changeover) (from' : Nat) : State × Bool :=
  let ran := State.runSteps k r.target (r.steps.drop (from' - 1)) from' s
  match ran.2 with
  | .done => (ran.1, true)
  | .waits i phase timer => (ran.1.setRecord k { r with index := i, phase := phase, timer := timer }, false)

/-- A changeover starts (R101): the record is built, the state becomes CHANGEOVER, the pending-force flag is clear, the dwell
stops, and the first step begins. The answer says whether it completed in this event. -/
def State.startChangeover (s : State) (k : Train) (source target : Mode) : State × Bool :=
  let r : Changeover := ⟨source, target, stepList source target, 1, .timing, none⟩
  ((((s.enterState k (.changeover r)).setPendingForce k false).setDwell k none)).proceed k r 1

/-! Slots (R118, R121). -/

/-- The holders of a shaft with a train added at the tail. -/
def State.addHolder (s : State) (h : Shaft) (k : Train) : State :=
  s.setShaft h { s.shaft h with holders := (s.shaft h).holders ++ [k] }

/-- The holders of a shaft without a train. -/
def State.dropHolder (s : State) (h : Shaft) (k : Train) : State :=
  s.setShaft h { s.shaft h with holders := (s.shaft h).holders.filter (· ≠ k) }

/-- The head of a wait list is granted a slot (R100, R121): it leaves the list, joins the holders, and its changeover toward its
waiting target starts. The answer says whether the changeover completed in this event; it then has entered its to-mode and
released the slot (R107). -/
def State.grantHead (s : State) (h : Shaft) (e : WaitEntry) (rest : List WaitEntry) : State × Bool :=
  let s := ((s.setShaft h { s.shaft h with waitList := rest }).addHolder h e.train).setWaiting e.train none
  match (s.train e.train).state.steady? with
  | none => (s, false)
  | some m =>
    let started := s.startChangeover e.train m e.target
    if started.2 then ((started.1.enterSteady e.train e.target).dropHolder h e.train, true) else (started.1, false)

/-- A freed slot handed to the head of the wait list, and on to the next head as long as a granted changeover completes at
once (R121). The first argument bounds the turns by the length of the list. -/
def State.grantChain : Nat → Shaft → State → State
  | 0, _, s => s
  | n + 1, h, s =>
    match (s.shaft h).waitList with
    | [] => s
    | e :: rest =>
      let g := s.grantHead h e rest
      if g.2 then State.grantChain n h g.1 else g.1

/-- A train's slot is released and granted on (R121). -/
def State.releaseSlot (s : State) (k : Train) : State :=
  let h := s.shaftOf k
  State.grantChain (s.shaft h).waitList.length h (s.dropHolder h k)

/-! Completion (R107). -/

/-- A changeover that was running completes (R107): the to-mode is entered; a pending force that still governs and names another
mode is followed at once, by the immediate transition or by a new changeover under the same slot; otherwise the slot is
released. -/
def State.complete (s : State) (k : Train) (target : Mode) : State :=
  let pending := (s.train k).pendingForce
  let s := (s.enterSteady k target).setPendingForce k false
  match pending, (s.effective k).request.forced? with
  | true, some m =>
    if m = target then s.releaseSlot k
    else if m.recovers && target.recovers then (s.enterSteady k m).releaseSlot k
    else
      let started := s.startChangeover k target m
      if started.2 then (started.1.enterSteady k m).releaseSlot k else started.1
  | _, _ => s.releaseSlot k

/-- The current step of a running changeover completes: the next step begins, and the changeover completes with the last
(R104). -/
def State.completeStep (s : State) (k : Train) (r : Changeover) : State :=
  let p := s.proceed k r (r.index + 1)
  if p.2 then p.1.complete k r.target else p.1

/-! The end of an event of the Train Sequencer (R92). -/

/-- A train's bases handed on where the event changed one, to the Drive Stage, and where it changed the outdoor-air basis or the
train's standing, to the Shaft Allocator; the marks are cleared. -/
def State.handOnBases (k : Train) (s : State) : State :=
  let t := s.train k
  let s' := if t.touched.bases then s.handOn (.drive k (.bases t.bases)) else s
  let s' := if t.touched.oa || t.touched.standing then s'.handOn (.shaft k (.basis t.bases.oa t.state.allocated)) else s'
  s'.setTrain k { t with touched := .clear }

/-- The bases of every train the event touched, handed on as they stand at its end (R92). -/
def State.endEvent (s : State) : State := forEach allTrains State.handOnBases s

/-! Target decisions (R94 to R99, R106). -/

/-- The target of a train and whether it comes from a force (R94); none before the first decision record. -/
def State.target? (s : State) (k : Train) : Option (Mode × Bool) :=
  let e := s.effective k
  if !e.fan then some (.offline, false)
  else match e.request with
    | .force m => some (m, true)
    | .auto => (s.bank k).decision.map fun d => (d.candidate, false)

/-- A slot is asked for (R99, R118): granted, the changeover starts; with every slot taken, the train queues. A train in the wait
list already asks for nothing, and a new target replaces its waiting target. -/
def State.requestSlot (s : State) (k : Train) (m target : Mode) : State :=
  let h := s.shaftOf k
  match (s.train k).waiting with
  | some w => if w = target then s else s.replaceWaiting k target
  | none =>
    if (s.shaft h).holders.length < (s.active.shafts.get h).slotLimit then
      let started := (s.addHolder h k).startChangeover k m target
      if started.2 then (started.1.enterSteady k target).releaseSlot k else started.1
    else s.joinWaitList k target

/-- A target decision in a steady mode (R95 to R99). -/
def State.decideSteady (s : State) (k : Train) (m target : Mode) (force : Bool) : State :=
  let t := s.train k
  if target = m then (if t.waiting.isSome then s.dropWaiting k else s)
  else if target = .offline then ((s.dropWaiting k).enterSteady k .offline)
  else if !force && t.dwell.isSome then (if t.waiting.isSome then s.dropWaiting k else s)
  else if target.recovers && m.recovers then (s.dropWaiting k).enterSteady k target
  else s.requestSlot k m target

/-- A target decision in CHANGEOVER (R106): a fan-off aborts to OFFLINE (R108), a force for another mode sets the pending-force
flag, anything else changes nothing. -/
def State.decideChangeover (s : State) (k : Train) (r : Changeover) (target : Mode) (force : Bool) : State :=
  if target = .offline then ((s.enterSteady k .offline).setPendingForce k false).releaseSlot k
  else if force && target ≠ r.target then s.setPendingForce k true
  else s

/-- The target decision of a train (R94), by its state; SAFE and HELD ignore it. -/
def State.decideTarget (s : State) (k : Train) : State :=
  match s.target? k with
  | none => s
  | some (target, force) =>
    match (s.train k).state with
    | .steady m => s.decideSteady k m target force
    | .changeover r => s.decideChangeover k r target force
    | .safe | .held _ => s

/-- The step timer of a train expires (R104), where it runs and has run out. -/
def State.expireStep (s : State) (k : Train) : State :=
  match (s.train k).state with
  | .changeover r =>
    if r.phase = .timing && timeIsUp r.timer then (s.completeStep k r).endEvent else s
  | _ => s

/-! The wheel and its restart lockout (R105). -/

/-- The step of a changeover in progress. -/
def Changeover.step? (r : Changeover) : Option Step := r.steps[r.index - 1]?

/-- The restart lockout starts, and the start is handed on as the answer to the wheel-zero event; a lockout of 0 s does not run,
and an expiry is handed on in place of the start (R105, R135). -/
def State.startLockout (s : State) (k : Train) : State :=
  let t := startTimer (s.params k).restartLockout
  (s.setTrain k { s.train k with lockout := t }).handOn
    (.drive k (if t.isSome then .lockoutStart else .lockoutExpiry true))

/-- A WHEEL_DOWN that waits for the wheel moves to TIMING with the spin-down time, and completes at once where that is 0 (R105,
step 2). -/
def State.wheelAtRest (s : State) (k : Train) : State :=
  match (s.train k).state with
  | .changeover r =>
    if r.step? = some .wheelDown ∧ r.phase = .waitWheelZero then
      match startTimer (s.params k).spinDown with
      | none => s.completeStep k r
      | some d => s.setRecord k { r with phase := .timing, timer := some d }
    else s
  | _ => s

/-- The restart lockout of a train ends (R105): the timer stops, the Drive Stage is told, and a WHEEL_UP that waits for it
completes. -/
def State.endLockout (s : State) (k : Train) : State :=
  let s := (s.setTrain k { s.train k with lockout := none }).handOn (.drive k (.lockoutExpiry false))
  match (s.train k).state with
  | .changeover r =>
    if r.step? = some .wheelUp ∧ r.phase = .waitLockout then
      (s.setBases k { (s.train k).bases with wheel := .recover }).completeStep k r
    else s
  | _ => s

/-! HELD and SAFE (R108 to R112). -/

/-- A train leaves what it was doing: a changeover is discarded, its pending-force flag cleared and its slot released (R108); a
steady train leaves its wait list and its dwell stops (R109, R111). The new state is entered first. -/
def State.takeOver (s : State) (k : Train) (st : TrainState) (b : Bases) : State :=
  let entered := fun s : State => ((s.enterState k st).setBases k b).setDwell k none
  match (s.train k).state with
  | .changeover _ => ((entered s).setPendingForce k false).releaseSlot k
  | .steady _ => entered (s.dropWaiting k)
  | .safe | .held _ => entered s

/-- The HOLD bases and the POSTURE bases (R92). -/
def holdBases : Bases := ⟨.hold, .hold, .hold⟩
def postureBases : Bases := ⟨.posture, .posture, .posture⟩

/-- A HOLD at the Train Sequencer (R109). A train already HELD takes the new values, which are handed to the Drive Stage (R133);
MODE_CHANGED is not raised again (R93). -/
def State.enterHeld (s : State) (k : Train) (h : OutputValues) : State :=
  match (s.train k).state with
  | .held _ => ((s.setTrain k { s.train k with state := .held h }).setBases k holdBases).handOn (.drive k .holdValues)
  | _ => s.takeOver k (.held h) holdBases

/-- The beginning of a train's effective posture at the Train Sequencer (R111), from any state but SAFE. -/
def State.enterSafe (s : State) (k : Train) : State :=
  match (s.train k).state with
  | .safe => s
  | _ => (s.takeOver k .safe postureBases).beginLevel (.safe k)

/-- The end of a train's effective posture at the Train Sequencer (R112). -/
def State.leaveSafe (s : State) (k : Train) : State :=
  match (s.train k).state with
  | .safe => (s.enterSteady k .bypass).endLevel (.safe k)
  | _ => s

/-- Whether a train is in SAFE. -/
def State.inSafe (s : State) (k : Train) : Bool :=
  match (s.train k).state with
  | .safe => true
  | _ => false

/-- The meaning of a HOLD (R87, R109): its checks in order, the clamped values in the response. -/
def requestHold (l : Link) (payload : List Byte) : RequestMeaning := fun s =>
  match holdFields? payload with
  | none => refuse .badLength s
  | some (t, h) =>
    match indexByte? 8 t with
    | none => refuse .badIndex s
    | some k =>
      if !((s.right l).maintenance && s.inSet l k) then refuse .noRight s
      else if s.inSafe k then refuse .trainBusy s
      else ((s.enterHeld k h).endEvent, .ok (u16 h.ws ++ u16 h.bp ++ u16 h.oa))

/-- A RELEASE at the Train Sequencer (R110): only a HELD train is moved, to BYPASS. -/
def State.leaveHeld (s : State) (k : Train) : State :=
  match (s.train k).state with
  | .held _ => s.enterSteady k .bypass
  | _ => s

/-- The meaning of a RELEASE (R88, R110). -/
def requestRelease (l : Link) (payload : List Byte) : RequestMeaning := fun s =>
  match payload with
  | [t] =>
    match indexByte? 8 t with
    | none => refuse .badIndex s
    | some k =>
      if !((s.right l).maintenance && s.inSet l k) then refuse .noRight s
      else ((s.leaveHeld k).endEvent, .ok [])
  | _ => refuse .badLength s

end Sys2Proof.Machine
end

