-- ==== Sys2Proof/Machine/LifeSafety.lean ====
section
/-! DEFINITION. The Life-Safety Interface (chapter 9): the line events, the effective postures and the sampling after a
reset. -/

namespace Sys2Proof.Machine

/-- Whether a line governs a train under the active map and counts as asserted (R154). -/
def State.governs (s : State) (k : Train) (n : Line) : Bool :=
  (s.line n).asserted && inTrains (s.active.lines.get n).trains k

/-- The effective line and posture code of a train, as a decision finds them (R154, R155): the lowest-numbered line that counts as
asserted and maps the train. -/
def State.decidedPosture (s : State) (k : Train) : Option EffectivePosture :=
  (allLines.find? (s.governs k)).map fun n => ⟨n, (s.active.lines.get n).code⟩

/-- The output values of a posture code: the wheel value is 0 (R151). -/
def Params.postureValues (p : Params) (c : PostureCode) : OutputValues := ⟨0, (p.posture c).bp, (p.posture c).oa⟩

/-- A train's effective posture decided again, and a change handed on (R154). `old` is the set that was active at the decision
before, which an APPLY replaces. -/
def State.decideTrainPosture (old : Params) (k : Train) (s : State) : State :=
  let after := s.decidedPosture k
  let s' := s.setPosture k after
  match s.posture k, after with
  | none, none => s'
  | none, some a => (s'.handOn (.postureBegins k)).handOn (.posture k (some (s.active.postureValues a.code)))
  | some b, some a =>
    if a.code = b.code ∧ s.active.postureValues a.code = old.postureValues b.code then s'
    else s'.handOn (.posture k (some (s.active.postureValues a.code)))
  | some _, none => (s'.handOn (.postureEnds k)).handOn (.posture k none)

/-- Every train's effective posture decided again (R154). -/
def State.decidePostures (s : State) (old : Params) : State := forEach allTrains (State.decideTrainPosture old) s

/-- A line is sensed low (R152): its release delay stops, and a line not yet counted as asserted becomes so. -/
def State.senseLow (s : State) (n : Line) : State :=
  let s' := s.setLine n ⟨.low, true, none⟩
  if (s.line n).asserted then s' else s'.decidePostures s.active

/-- A line is sensed high (R153): its release delay starts, or with a delay of 0 its assertion ends. -/
def State.senseHigh (s : State) (n : Line) : State :=
  let r := s.line n
  if !r.asserted then s.setLine n { r with level := .high }
  else match startTimer (s.active.lines.get n).delay with
    | some d => s.setLine n ⟨.high, true, some d⟩
    | none => (s.setLine n ⟨.high, false, none⟩).decidePostures s.active

/-- The release delay of a line expires (R153): the timer stops and the assertion ends. -/
def State.endAssertion (s : State) (n : Line) : State :=
  (s.setLine n { s.line n with asserted := false, delay := none }).decidePostures s.active

/-! The end of the event (R154). -/

/-- A change of an effective posture taken by the block it was handed to (R111, R112, R145). -/
def State.takePosture (x : Handoff) (s : State) : State :=
  match x with
  | .postureBegins k => (s.enterSafe k).endEvent
  | .postureEnds k => (s.leaveSafe k).endEvent
  | .posture k (some v) => s.applyPosture k v
  | .posture k none => s.endPosture k
  | _ => s

/-- The event of the last posture change brought to its end: it is complete when both blocks have taken their hand-off for every train it
touches (R154). What is still in flight is taken in the order it was handed on (assumption 33). -/
def State.completePostures (s : State) : State :=
  forEach (s.handoffs.filter Handoff.ofPosture) State.takePosture (s.setHandoffs (s.handoffs.filter fun x => !x.ofPosture))

/-! The sampling after a reset (R157). -/

/-- A train whose posture is found at the sampling enters SAFE and takes the posture's values, in the event of the reset
(assumption 7). -/
def State.samplePosture (k : Train) (s : State) : State :=
  let found := s.decidedPosture k
  let s' := s.setPosture k found
  match found with
  | none => s'
  | some a => (s'.enterSafe k).applyPosture k (s.active.postureValues a.code)

/-- The four lines sampled once at the end of a reset (R157). -/
def State.sampleLines (s : State) (levels : Vec 4 Level) : State :=
  (forEach allTrains State.samplePosture { s with lines := levels.map LineRec.sampled }).endEvent

end Sys2Proof.Machine
end

