-- ==== Sys2Proof/Machine/Apply.lean ====
section
/-! DEFINITION. The Parameter Store (chapter 10): STAGE, the checks of an APPLY, what each block takes up at an accepted APPLY,
DISCARD and LOCK. -/

namespace Sys2Proof.Machine

/-! STAGE (R160). -/

/-- The meaning of a STAGE: its checks in order, then the value in the staged set. -/
def requestStage (l : Link) (payload : List Byte) : RequestMeaning := fun s =>
  match payload with
  | [g, i, f, lo, hi] =>
    if !(s.right l).config then refuse .noRight s
    else match itemOfBytes? g i f with
      | none => refuse .badIndex s
      | some item =>
        if s.locked && item.locked then refuse .locked s
        else match s.staged.stage? item (word16 lo hi) with
          | none => refuse .outOfRange s
          | some p => ({ s with staged := p }, .ok [])
  | _ => refuse .badLength s

/-! The checks of an APPLY (R161). -/

/-- Whether the chain of FOLLOW leaders from a train ends within a number of trains (R132): a train whose source is not FOLLOW ends
it. -/
def Params.followEnds (p : Params) : Nat → Train → Bool
  | 0, _ => false
  | n + 1, k => (p.train k).wheelSource ≠ .follow || p.followEnds n (p.train k).leader

/-- Whether a stand-in is a channel of the same kind of another train (R14). -/
def standInFits (c d : Channel) : Bool :=
  decide (8 ≤ c.val ∧ channelKind d = channelKind c ∧ channelTrain d ≠ channelTrain c)

/-- Whether a link's priority equals that of a link before it (check 7). -/
def Params.repeatsPriority (p : Params) (l : Link) : Bool :=
  match l with
  | .a => false
  | .b => p.priority .b = p.priority .a
  | .c => p.priority .c = p.priority .a || p.priority .c = p.priority .b

/-- The checks 1 to 7, which read the set alone: the item named by the first that fails. -/
def Params.relationFault? (p : Params) : Option Item :=
  ((allTrains.find? fun k => (p.train k).wsMax < (p.train k).wsMin).map (.train · .wsMin))
  <|> ((allTrains.find? fun k => (p.train k).wsMax < (p.train k).wsFloor).map (.train · .wsFloor))
  <|> ((allTrains.find? fun k => (p.train k).wheelSource = .band ∧
        p.pool.get (p.train k).bandHigh < p.pool.get (p.train k).bandLow).map (.train · .bandLow))
  <|> ((allTrains.find? fun k => !p.followEnds 9 k).map (.train · .leader))
  <|> ((allChannels.find? fun c => !((p.channel c).standIn.all (standInFits c))).map (.channel · .standIn))
  <|> ((allChannels.find? fun c => (p.channel c).high < (p.channel c).low).map (.channel · .low))
  <|> ((allLinks.find? p.repeatsPriority).map (.rights · .priority))

/-- Whether a train holds a slot or stands in a wait list (R127). -/
def State.busyTrain (s : State) (k : Train) : Bool :=
  allShafts.any fun h => (s.shaft h).holders.contains k || (s.shaft h).waitList.any (·.train = k)

/-- The judgment of the staged set (R161): the status and the item of the first check that fails. -/
def State.applyFault? (s : State) : Option (Status × Item) :=
  (s.staged.relationFault?.map fun i => (.invalidSet, i))
  <|> ((allShafts.find? fun h => (s.staged.shafts.get h).slotLimit < (s.shaft h).holders.length).map fun h =>
        (.slotsInUse, .shaft h .slotLimit))
  <|> ((allTrains.find? fun k => (s.staged.train k).shaft ≠ (s.active.train k).shaft ∧ s.busyTrain k).map fun k =>
        (.trainBusy, .train k .shaft))

/-! What the blocks take up at an accepted APPLY. `old` is the set replaced; `s.active` is the new one. -/

/-- The pool boundaries a train's slots and band name in a set. -/
def Params.boundaries (p : Params) (k : Train) : List (Fin 16) :=
  (p.slots.get k).toList.flatMap (fun x => [x.boundA, x.boundB]) ++ [(p.train k).bandLow, (p.train k).bandHigh]

/-- Whether a train's items differ between two sets (R163). -/
def Params.itemsDiffer (old new : Params) (k : Train) : Bool :=
  old.train k != new.train k || old.slots.get k != new.slots.get k || old.permits.get k != new.permits.get k
  || [returnTChannel k, returnWChannel k, exhaustTChannel k].any (fun c => old.channel c != new.channel c)
  || (old.boundaries k ++ new.boundaries k).any (fun b => old.pool.get b != new.pool.get b)
  || old.station.heights != new.station.heights || old.station.lapse != new.station.lapse

/-- The parameters-pending flags of the trains whose items changed (R163). -/
def State.markPending (old : Params) (s : State) : State :=
  { s with paramsPending := .ofFn fun k => s.paramsPending.get k || old.itemsDiffer s.active k }

/-- A link's pending set under a routing change (R180): the entries of a lost class are removed, and for a gained level class each
condition held is filed. -/
def State.rerouteClass (old : Params) (l : Link) (c : NoticeClass) (s : State) : State :=
  if old.routes c l && !s.active.routes c l then
    s.setEntries l ((s.notice l).entries.filter (·.cond.cls ≠ c))
  else if !old.routes c l && s.active.routes c l && c.level then
    s.setEntries l ((s.held.filter (·.cls = c)).foldl (fun es x => fileLevel x es) (s.notice l).entries)
  else s

/-- The Notice Table (R180). -/
def State.reroute (old : Params) (s : State) : State :=
  forEach allLinks (fun l => forEach allClasses (State.rerouteClass old l)) s

/-- The Observation Table (R15): the accumulator is emptied where N or a plausibility limit changed. -/
def State.applyChannel (old : Params) (c : Channel) (s : State) : State :=
  let p := old.channel c
  let q := s.active.channel c
  if p.target ≠ q.target ∨ p.low ≠ q.low ∨ p.high ≠ q.high then s.setChannel c (s.channel c).emptied else s

/-- The Outdoor Reference Unit (R33): the counters are cleared where a station parameter changed, and the reference is
re-decided. -/
def State.applyStations (old : Params) (s : State) : State :=
  (if old.station ≠ s.active.station then { s with stations := s.stations.map fun r => { r with counter := 0 } } else s).redecide

/-- The Criterion Bank (R69): a slot whose items changed is reset. -/
def State.applySlots (old : Params) (k : Train) (s : State) : State :=
  s.setBank k { s.bank k with
    slots := .ofFn fun c =>
      if (old.slots.get k).get c = (s.active.slots.get k).get c then (s.bank k).slots.get c else .reset }

/-- Whether an entry of a train's table survives a change of the rights table (R84). -/
def DemandEntry.survives (old new : Params) (k : Train) (e : DemandEntry) : Bool :=
  !(inTrains (old.right e.link).trains k && !inTrains (new.right e.link).trains k)
  && !((old.right e.link).force && !(new.right e.link).force && e.forces)

/-- The Demand Table (R84): entries whose right is lost are removed, the table is put in the order of new priorities, and the
effective entry is re-selected. -/
def State.applyDemands (old : Params) (k : Train) (s : State) : State :=
  let kept := (s.demand k).filter (DemandEntry.survives old s.active k)
  s.changeTable k (if allLinks.all (fun l => old.priority l = s.active.priority l) then kept else orderTable s.active.priority kept)

/-- The head of a wait list granted a slot, and the next, while a slot is free (R128, step 2). The first argument bounds the turns by
the length of the list. -/
def State.handOut : Nat → Shaft → State → State
  | 0, _, s => s
  | n + 1, h, s =>
    match (s.shaft h).waitList with
    | [] => s
    | e :: rest =>
      if (s.shaft h).holders.length < (s.active.shafts.get h).slotLimit then State.handOut n h (s.grantHead h e rest).1 else s

/-- The slots of a shaft whose limit rose (R128, step 2). -/
def State.applyLimit (old : Params) (h : Shaft) (s : State) : State :=
  if (old.shafts.get h).slotLimit < (s.active.shafts.get h).slotLimit then State.handOut (s.shaft h).waitList.length h s else s

/-- Whether a shaft is recomputed at an APPLY (R128, step 3). -/
def Params.shaftDiffers (old new : Params) (h : Shaft) : Bool :=
  decide ((old.shafts.get h).capacity ≠ (new.shafts.get h).capacity) || decide (membersOf old h ≠ membersOf new h)
  || (membersOf new h).any fun k => (old.train k).q ≠ (new.train k).q ∨ (old.train k).oaMin ≠ (new.train k).oaMin

/-- The Shaft Allocator's recomputation (R128, step 3). -/
def State.applyShaft (old : Params) (h : Shaft) (s : State) : State :=
  if old.shaftDiffers s.active h then s.recomputeShaft h else s

/-- Whether a train's band level is made absent (R147). -/
def Params.bandDiffers (old new : Params) (k : Train) : Bool :=
  let p := old.train k
  let q := new.train k
  decide (p.wheelSource ≠ q.wheelSource ∨ p.bandChannel ≠ q.bandChannel ∨ p.bandLow ≠ q.bandLow ∨ p.bandHigh ≠ q.bandHigh ∨
    old.pool.get q.bandLow ≠ new.pool.get q.bandLow ∨ old.pool.get q.bandHigh ≠ new.pool.get q.bandHigh)

/-- Whether a train's commands are recomputed for another item of the Drive Stage (R133, R147; OA_min by assumption 18). -/
def TrainParams.driveDiffers (p q : TrainParams) : Bool :=
  decide (p.wsMin ≠ q.wsMin ∨ p.wsMax ≠ q.wsMax ∨ p.wsFloor ≠ q.wsFloor ∨ p.tFrost ≠ q.tFrost ∨ p.frostSpan ≠ q.frostSpan ∨
    p.leader ≠ q.leader ∨ p.oaMin ≠ q.oaMin)

/-- The Drive Stage (R147). The trains are taken in index order, a leader and its follower too, which R139 leaves open (assumption 17). -/
def State.applyDrive (old : Params) (k : Train) (s : State) : State :=
  let s1 := if (old.train k).oaMin ≠ (s.params k).oaMin then s.formRequest k else s
  let s2 := if old.bandDiffers s.active k then s1.setDrive k { s1.drive k with band := none } else s1
  if old.bandDiffers s.active k || (old.train k).driveDiffers (s.params k) then s2.recompute k else s2

/-- An accepted APPLY (R162): the staged set is copied into the active set, and each block takes up what it reads
(assumption 17 for the order among the blocks, and among the trains, shafts and channels of one block). -/
def State.applyStaged (s : State) : State :=
  let old := s.active
  let s := State.reroute old (State.markPending old { s with active := s.staged })
  let s := State.applyStations old (forEach allChannels (State.applyChannel old) s)
  let s := forEach allTrains (State.applyDemands old) (forEach allTrains (State.applySlots old) s)
  let s := (forEach allShafts (State.applyLimit old) s).endEvent
  let s := forEach allTrains (State.applyDrive old) (forEach allShafts (State.applyShaft old) s)
  s.decidePostures old

/-- The judgment and the copy of an APPLY (R161, R162). A refused APPLY answers the item it names. -/
def State.judgeApply (s : State) : State × Reply :=
  match s.applyFault? with
  | some (x, item) => (s, ⟨x, item.bytes⟩)
  | none => (s.applyStaged, .ok [])

/-- The meaning of an APPLY (R161). -/
def requestApply (l : Link) (payload : List Byte) : RequestMeaning := whenEmpty payload (whenConfig l State.judgeApply)

/-! DISCARD and LOCK. -/

/-- The meaning of a DISCARD (R164). -/
def requestDiscard (l : Link) (payload : List Byte) : RequestMeaning :=
  whenEmpty payload (whenConfig l fun s => ({ s with staged := s.active }, .ok []))

/-- A set with every locked item as another set has it (R165): the port rights table and the life-safety map. -/
def Params.withLockedOf (p q : Params) : Params := { p with rights := q.rights, lines := q.lines, postures := q.postures }

/-- The lock is set (R165); a lock already set stays and changes nothing. -/
def State.setLock (s : State) : State :=
  if s.locked then s else { s with locked := true, staged := s.staged.withLockedOf s.active }

/-- The meaning of a LOCK (R165). -/
def requestLock (l : Link) (payload : List Byte) : RequestMeaning :=
  whenEmpty payload (whenConfig l fun s => (s.setLock, .ok []))

end Sys2Proof.Machine
end

