-- ==== Sys2Proof/Machine/Records.lean ====
section
/-! DEFINITION. The records that cross a link, as their bytes (R184, section 13.3), with the codes of section 13.4. -/

namespace Sys2Proof.Machine

/-! Codes of section 13.4. -/

def linkCode (l : Link) : Nat := (linkIndex l).val
def ChannelKind.code (x : ChannelKind) : Nat := codeIn allKinds x
def ChannelState.code (x : ChannelState) : Nat := codeIn [.empty, .fresh, .stale] x
def Credit.code (x : Credit) : Nat := codeIn [.credited, .discredited] x
def Raw.code (x : Raw) : Nat := codeIn [.isFalse, .isTrue, .unavailable] x
def Side.code (x : Side) : Nat := codeIn [.below, .above] x
def Step.code (x : Step) : Nat := codeIn [.wheelDown, .bypassOpen, .bypassClose, .oaSet, .wheelUp] x
def StepPhase.code (x : StepPhase) : Nat := codeIn [.waitWheelZero, .timing, .waitLockout] x
def AllocCase.code (x : AllocCase) : Nat := codeIn [.unconstrained, .proportional, .minimum] x
def BandLevel.code (x : BandLevel) : Nat := codeIn [.low, .high] x
def ResetCause.code (x : ResetCause) : Nat := codeIn [.powerOn, .resetLine, .restart] x
def WheelSource.code (x : WheelSource) : Nat := codeIn allWheelSources x
def Polarity.code (x : Polarity) : Nat := codeIn allPolarities x
def PostureCode.code (x : PostureCode) : Nat := codeIn allPostureCodes x

def levelCode : Level → Nat
  | .low => 0
  | .high => 1

/-- The basis codes: ZERO 0, OPEN 1, CLOSED 2, MIN 3, ECON 4, RECOVER 5, HOLD 6, POSTURE 7. -/
def WheelBasis.code : WheelBasis → Nat
  | .zero => 0
  | .recover => 5
  | .hold => 6
  | .posture => 7

def BypassBasis.code : BypassBasis → Nat
  | .opened => 1
  | .closed => 2
  | .hold => 6
  | .posture => 7

def OaBasis.code : OaBasis → Nat
  | .zero => 0
  | .min => 3
  | .econ => 4
  | .hold => 6
  | .posture => 7

/-- The request codes: AUTO 0, FORCE 1. -/
def Request.code : Request → Nat
  | .auto => 0
  | .force _ => 1

/-- A set of eight as a byte: bit n for element n (R182). -/
def bitsByte (f : Fin 8 → Bool) : Byte :=
  (List.finRange 8).foldl (fun b i => b ||| (if f i then 1#8 <<< i.val else 0)) 0

/-! IDENTITY, LINK_STATUS (R172). -/

def State.identityRecord (s : State) : List Byte :=
  u16 Config.partNumber ++ [byte Config.familyMember, byte Config.layoutVersion, 3, 8, 4, 32, 4, 24] ++ uptimeBytes s.uptime
    ++ [flagByte s.locked, byte s.resetCause.code]

/-- A latch's presence and its uptime; for a latch not held the uptime is a free value (assumption 10). -/
def latchBytes {n : Nat} (x : Option (Latch n)) : List Byte :=
  match x with
  | some h => 1 :: uptimeBytes h.uptime
  | none => 0 :: bytes32 Config.absentLatchUptime

def State.linkStatusRecord (s : State) (l : Link) : List Byte :=
  let r := s.right l
  let p := s.port l
  [byte (linkCode l), r.trains, flagByte r.reportStations, flagByte r.force, flagByte r.maintenance, flagByte r.config,
      byte r.priority, flagByte p.dropped]
    ++ latchBytes p.latchTrains ++ latchBytes p.latchReference ++ latchBytes p.latchShafts
    ++ [flagByte p.sending.isSome, flagByte (s.notice l).attention]

/-! CHANNEL (R17), STATION and REFERENCE (R35). -/

/-- A value of a channel: a humidity ratio is unsigned, a temperature signed (R182). -/
def channelValue (c : Channel) (v : Option Int) : List Byte :=
  if isHumidity c then u16? (v.map Int.toNat) else s16? v

def State.channelRecord (s : State) (c : Channel) : List Byte :=
  let r := s.channel c
  let p := s.active.channel c
  [byte c.val, byte (channelKind c).code, byte (channelSubject c), byte r.state.code] ++ channelValue c r.published
    ++ s16 r.sum ++ [byte r.count] ++ u16? r.age ++ [byte? (r.lastLink.map linkCode), byte p.target]
    ++ channelValue c (some p.low) ++ channelValue c (some p.high) ++ u16 p.stale ++ [byte? (p.standIn.map (·.val))]

def State.stationRecord (s : State) (st : Station) : List Byte :=
  let r := s.station st
  [byte st.val, byte (stationTChannel st).val, byte (stationWChannel st).val] ++ u16 (s.active.station.heights.get st)
    ++ [byte r.credit.code, byte r.counter] ++ s16? r.lastReduced ++ s16? r.lastDeviation
    ++ [flagByte (s.reference.usable.contains st)]

def State.referenceRecord (s : State) : List Byte :=
  let r := s.reference
  [flagByte r.lost, flagByte r.lostSinceRead, byte r.usable.length] ++ padded 4 (r.usable.map fun st => byte st.val)
    ++ s16? r.median ++ u16? (r.wOA.map Int.toNat)

/-! DEMANDS (R86). -/

/-- The fields of a demand that a record shows: fan, D, request, forced mode and fixed speed. -/
def Effective.bytes (e : Effective) : List Byte :=
  [flagByte e.fan] ++ s16 e.d ++ [byte e.request.code, byte? (e.request.forced?.map Mode.code)] ++ u16? e.fixedSpeed

def DemandEntry.bytes (e : DemandEntry) : List Byte := [byte (linkCode e.link)] ++ e.fields.bytes ++ u16 e.age

/-- The link of the effective entry of a train, absent for the neutral demand. -/
def State.effectiveLink (s : State) (k : Train) : Option Link := (effectiveEntry? (s.demand k)).map (·.link)

def State.demandsRecord (s : State) (k : Train) : List Byte :=
  [byte (s.demand k).length] ++ padded 30 ((s.demand k).flatMap DemandEntry.bytes)
    ++ [byte? ((s.effectiveLink k).map linkCode)] ++ u16 s.active.demandTimeout

/-! TRAIN (R71, R78, R114, R149, R158). -/

/-- The three bytes of a selection: its form, the first station, the second station or side. -/
def Selection.bytes : Selection → List Byte
  | .exact st => [0, byte st.val, 0xFF]
  | .interpolated lo hi => [1, byte lo.val, byte hi.val]
  | .extrapolated st side => [2, byte st.val, byte side.code]
  | .nothing => [3, 0xFF, 0xFF]

/-- Section 0: the decision record. An absent record's fields are absent markers, its uptime a free value
(assumptions 10 and 13). -/
def decisionBytes : Option Decision → List Byte
  | some d =>
    [1] ++ uptimeBytes d.uptime ++ s16? d.tOA ++ u16? (d.wOA.map Int.toNat) ++ s16? d.hOA ++ s16? d.tRA
      ++ u16? (d.wRA.map Int.toNat) ++ s16? d.hRA ++ s16? d.tEXL ++ d.selection.bytes
      ++ [bitsByte (fun i => [d.standInT, d.standInW, d.standInE].getD i.val false), bitsByte d.vector.get]
      ++ d.raws.toList.map (fun r => byte r.code)
      ++ [bitsByte (fun i => d.permits.toList.getD i.val false), flagByte d.lockout, byte d.candidate.code]
  | none =>
    [0] ++ bytes32 Config.absentEvaluationUptime ++ s16? none ++ u16? none ++ s16? none ++ s16? none ++ u16? none ++ s16? none
      ++ s16? none ++ List.replicate 16 0xFF

/-- Section 1: the slots, the evaluation remainder and the parameters-pending flag. -/
def State.bankBytes (s : State) (k : Train) : List Byte :=
  (s.bank k).slots.toList.flatMap (fun r => [flagByte r.asserted, byte r.counter, byte r.lastRaw.code])
    ++ u16 (s.bank k).evalTimer ++ [flagByte (s.paramsPending.get k)]

/-- The changeover record of a state. -/
def TrainState.changeover? : TrainState → Option Changeover
  | .changeover r => some r
  | _ => none

/-- The hold values of a state. -/
def TrainState.hold? : TrainState → Option OutputValues
  | .held h => some h
  | _ => none

/-- The fields of a changeover record, all absent while there is none. -/
def changeoverBytes : Option Changeover → List Byte
  | some r =>
    [byte r.source.code, byte r.target.code] ++ padded 3 (r.steps.map fun x => byte x.code) ++ [byte r.index, byte r.phase.code]
      ++ u16? r.timer
  | none => List.replicate 9 0xFF

/-- Section 2: the Train Sequencer's fields (R114). -/
def State.sequencerBytes (s : State) (k : Train) : List Byte :=
  let t := s.train k
  let h := t.state.hold?
  [byte t.state.code] ++ changeoverBytes t.state.changeover? ++ [byte? (t.waiting.map Mode.code)] ++ u16? t.dwell
    ++ u16? t.lockout ++ [flagByte t.pendingForce] ++ u16? (h.map (·.ws)) ++ u16? (h.map (·.bp)) ++ u16? (h.map (·.oa))
    ++ [byte t.bases.wheel.code, byte t.bases.bypass.code, byte t.bases.oa.code]

/-- An output's command, effective value and polarity. -/
def State.outputBytes (s : State) (o : Fin 24) : List Byte :=
  u16 (s.output o).command ++ u16 (s.output o).effective ++ [byte (s.active.polarity.get o).code]

/-- A line's level, counted assertion and release remainder. -/
def LineRec.bytes (r : LineRec) : List Byte := [byte (levelCode r.level), flagByte r.asserted] ++ u16? r.delay

/-- The outputs 3k, 3k + 1 and 3k + 2 of a train. -/
def outputsOf (k : Train) : List (Fin 24) := [⟨3 * k.val, by omega⟩, ⟨3 * k.val + 1, by omega⟩, ⟨3 * k.val + 2, by omega⟩]

/-- Section 3: the effective demand (R78), the Drive Stage's fields (R149) and the Life-Safety Interface's (R158). -/
def State.driveBytes (s : State) (k : Train) : List Byte :=
  let d := s.drive k
  (s.effective k).bytes ++ [byte? ((s.effectiveLink k).map linkCode)] ++ (outputsOf k).flatMap s.outputBytes ++ u16? d.ramp
    ++ [byte (s.params k).wheelSource.code, byte? (d.band.map BandLevel.code)] ++ u16? d.frostCap ++ [flagByte d.lockoutHold]
    ++ u16? d.grant ++ u16 d.lastRequest
    ++ [byte? ((s.posture k).map (·.line.val)), byte? ((s.posture k).map (·.code.code))]
    ++ s.lines.toList.flatMap LineRec.bytes

/-- A TRAIN record's section. -/
def State.trainRecord (s : State) (k : Train) (sec : Fin 4) : List Byte :=
  match sec with
  | 0 => decisionBytes (s.bank k).decision
  | 1 => s.bankBytes k
  | 2 => s.sequencerBytes k
  | 3 => s.driveBytes k

/-! SHAFT (R130). -/

/-- Section 0: the shaft's own figures. The unused positions of the holders and of the wait entries are sent as 0xFF, which R184 does not
state for these two fields (assumption 13). -/
def State.shaftBytes (s : State) (h : Shaft) : List Byte :=
  let r := s.shaft h
  let p := s.active.shafts.get h
  [byte h.val] ++ u16 p.capacity ++ [byte p.slotLimit, bitsByte (fun k => decide (s.shaftOf k = h)), byte r.holders.length]
    ++ padded 8 (r.holders.map fun k => byte k.val) ++ [byte r.waitList.length]
    ++ padded 16 (r.waitList.flatMap fun e => [byte e.train.val, byte e.target.code])
    ++ u32 r.sumMin ++ u32 r.sumReq ++ s32 r.avail ++ u32 r.excess ++ [byte r.allocCase.code]

/-- Sections 1 and 2: a train's fields; a non-member's are filled with 0xFF. -/
def State.memberBytes (s : State) (h : Shaft) (k : Train) : List Byte :=
  let e := s.share k
  if s.shaftOf k = h then
    [1, flagByte e.allocated, byte e.basis.code] ++ u16 (s.params k).q ++ u16 e.request ++ u16? (e.share.map (·.min))
      ++ u16? (e.share.map (·.req)) ++ u16? (e.share.map (·.grant))
  else 0 :: List.replicate 12 0xFF

/-- A SHAFT record's section. -/
def State.shaftRecord (s : State) (h : Shaft) (sec : Fin 3) : List Byte :=
  match sec with
  | 0 => s.shaftBytes h
  | 1 => ([0, 1, 2, 3] : List Train).flatMap (s.memberBytes h)
  | 2 => ([4, 5, 6, 7] : List Train).flatMap (s.memberBytes h)

/-! PARAM_ACTIVE and PARAM_STAGED (R166). -/

/-- A parameter answer: the item id, its value, whether it is a locked item, whether the lock is set, and whether the staged value
differs. -/
def State.paramRecord (s : State) (i : Item) (value : BitVec 16) (differs : Bool) : List Byte :=
  i.bytes ++ bytes16 value ++ [flagByte (i.locked), flagByte s.locked, flagByte differs]

end Sys2Proof.Machine
end

