-- ==== Sys2Proof/Machine/Requests.lean ====
section
/-! DEFINITION. The requests that read: READ (R172), LATCH and READ_LATCHED (R174), TAKE, PEEK and ACK (R178). -/

namespace Sys2Proof.Machine

/-! Codes of section 13.4. -/

def recordIdentity : Byte := 0
def recordLinkStatus : Byte := 1
def recordChannel : Byte := 2
def recordStation : Byte := 3
def recordReference : Byte := 4
def recordTrain : Byte := 5
def recordDemands : Byte := 6
def recordShaft : Byte := 7
def recordParamActive : Byte := 8
def recordParamStaged : Byte := 9

def scopeTrains : Byte := 0
def scopeReference : Byte := 1
def scopeShafts : Byte := 2

/-- The link an index byte names. -/
def linkByte? (b : Byte) : Option Link := allLinks[b.toNat]?

/-! READ (R172). `rest` is the payload after the record kind, whose length is judged before the indices (R183). -/

/-- A record read with one index byte, nothing changed by it. -/
def readIndexed {α : Type} (rest : List Byte) (index : Byte → Option α) (record : State → α → List Byte) : RequestMeaning := fun s =>
  match rest with
  | [b] =>
    match index b with
    | none => refuse .badIndex s
    | some x => (s, .ok (record s x))
  | _ => refuse .badLength s

/-- A record read with an index byte and a section byte. -/
def readSection (n m : Nat) (rest : List Byte) (record : State → Fin n → Fin m → List Byte) : RequestMeaning := fun s =>
  match rest with
  | [b, p] =>
    match indexByte? n b, indexByte? m p with
    | some x, some sec => (s, .ok (record s x sec))
    | _, _ => refuse .badIndex s
  | _ => refuse .badLength s

/-- A parameter item read by its id (R166). -/
def readItem (rest : List Byte) (record : State → Item → List Byte) : RequestMeaning := fun s =>
  match rest with
  | [g, i, f] =>
    match itemOfBytes? g i f with
    | none => refuse .badIndex s
    | some item => (s, .ok (record s item))
  | _ => refuse .badLength s

/-- READ of IDENTITY (R172). -/
def requestReadIdentity (rest : List Byte) : RequestMeaning := whenEmpty rest fun s => (s, .ok s.identityRecord)

/-- A link's dropped-since-read flag cleared. -/
def State.clearDropped (s : State) (l : Link) : State := s.setPort l { s.port l with dropped := false }

/-- READ of LINK_STATUS (R172): the answer shows the flag as it stood, and the named link's flag is then clear. -/
def requestReadLinkStatus (rest : List Byte) : RequestMeaning := fun s =>
  match rest with
  | [b] =>
    match linkByte? b with
    | none => refuse .badIndex s
    | some m => (s.clearDropped m, .ok (s.linkStatusRecord m))
  | _ => refuse .badLength s

/-- READ of CHANNEL (R17). -/
def requestReadChannel (rest : List Byte) : RequestMeaning := readIndexed rest (indexByte? 32) State.channelRecord

/-- READ of STATION (R35). -/
def requestReadStation (rest : List Byte) : RequestMeaning := readIndexed rest (indexByte? 4) State.stationRecord

/-- The lost-since-read flag cleared (R31). -/
def State.clearLostSinceRead (s : State) : State := s.setReference { s.reference with lostSinceRead := false }

/-- READ of REFERENCE (R31, R35): the answer shows the lost-since-read flag as it stood, and the flag is then clear. -/
def requestReadReference (rest : List Byte) : RequestMeaning :=
  whenEmpty rest fun s => (s.clearLostSinceRead, .ok s.referenceRecord)

/-- READ of TRAIN (R71). -/
def requestReadTrain (rest : List Byte) : RequestMeaning := readSection 8 4 rest State.trainRecord

/-- READ of DEMANDS (R86). -/
def requestReadDemands (rest : List Byte) : RequestMeaning := readIndexed rest (indexByte? 8) State.demandsRecord

/-- READ of SHAFT (R130). -/
def requestReadShaft (rest : List Byte) : RequestMeaning := readSection 4 3 rest State.shaftRecord

/-- READ of PARAM_ACTIVE (R166). -/
def requestReadParamActive (rest : List Byte) : RequestMeaning :=
  readItem rest fun s item => s.paramRecord item (s.active.wire item) false

/-- READ of PARAM_STAGED (R166). -/
def requestReadParamStaged (rest : List Byte) : RequestMeaning :=
  readItem rest fun s item => s.paramRecord item (s.staged.wire item) (s.staged.wire item != s.active.wire item)

/-! LATCH (R174). -/

/-- The eight TRAIN records: section p of train k at 4k + p. -/
def State.trainsLatch (s : State) : Latch 32 :=
  ⟨s.uptime, .ofFn fun i => s.trainRecord ⟨i.val / 4, by omega⟩ ⟨i.val % 4, by omega⟩⟩

/-- The four STATION records, then the reference record. -/
def State.referenceLatch (s : State) : Latch 5 :=
  ⟨s.uptime, .ofFn fun i => if h : i.val < 4 then s.stationRecord ⟨i.val, h⟩ else s.referenceRecord⟩

/-- The four SHAFT records: section p of shaft h at 3h + p. -/
def State.shaftsLatch (s : State) : Latch 12 :=
  ⟨s.uptime, .ofFn fun i => s.shaftRecord ⟨i.val / 3, by omega⟩ ⟨i.val % 3, by omega⟩⟩

/-- LATCH of TRAINS. -/
def requestLatchTrains (l : Link) (rest : List Byte) : RequestMeaning :=
  whenEmpty rest fun s => (s.setPort l { s.port l with latchTrains := some s.trainsLatch }, .ok (uptimeBytes s.uptime))

/-- LATCH of REFERENCE: the copy shows the lost-since-read flag as it stood, and the live flag is then clear (R31). -/
def requestLatchReference (l : Link) (rest : List Byte) : RequestMeaning :=
  whenEmpty rest fun s =>
    ((s.setPort l { s.port l with latchReference := some s.referenceLatch }).clearLostSinceRead, .ok (uptimeBytes s.uptime))

/-- LATCH of SHAFTS. -/
def requestLatchShafts (l : Link) (rest : List Byte) : RequestMeaning :=
  whenEmpty rest fun s => (s.setPort l { s.port l with latchShafts := some s.shaftsLatch }, .ok (uptimeBytes s.uptime))

/-! READ_LATCHED (R174). -/

/-- A latched record with its latch's uptime, in an order the manual leaves open (assumption 12). -/
def latchedBytes (uptime : Nat) (record : List Byte) : List Byte :=
  if Config.latchedUptimeFirst then uptimeBytes uptime ++ record else record ++ uptimeBytes uptime

/-- The answer for a record of a latch, NOT_LATCHED where the link holds none of the scope. -/
def latchedReply {n : Nat} (latch : Option (Latch n)) (i : Fin n) : Reply :=
  match latch with
  | none => .refuse .notLatched
  | some h => .ok (latchedBytes h.uptime (h.records.get i))

/-- The position of a record of scope REFERENCE: a station, or 0xFF for the reference record (R183). -/
def referencePosition? (b : Byte) : Option (Fin 5) :=
  if b = 0xFF then some 4 else (indexByte? 4 b).map fun st => ⟨st.val, by omega⟩

/-- A READ_LATCHED's position in a scope of `n` records of `m` sections, after the scope byte: the length, then the record and the
section. -/
def latchedPosition (n m : Nat) (rest : List Byte) : Except Status (Fin n × Fin m) :=
  match rest with
  | [r, p] =>
    match indexByte? n r, indexByte? m p with
    | some x, some sec => .ok (x, sec)
    | _, _ => .error .badIndex
  | _ => .error .badLength

/-- The meaning of a READ_LATCHED: the scope first, then the length, the record, and whether the scope is latched (R174, R183). -/
def requestReadLatched (l : Link) (payload : List Byte) : RequestMeaning := fun s =>
  match payload with
  | [] => refuse .badLength s
  | scope :: rest =>
    if scope = scopeTrains then
      match latchedPosition 8 4 rest with
      | .error x => refuse x s
      | .ok (k, p) => (s, latchedReply (s.port l).latchTrains ⟨4 * k.val + p.val, by omega⟩)
    else if scope = scopeReference then
      match rest with
      | [r] =>
        match referencePosition? r with
        | none => refuse .badIndex s
        | some i => (s, latchedReply (s.port l).latchReference i)
      | _ => refuse .badLength s
    else if scope = scopeShafts then
      match latchedPosition 4 3 rest with
      | .error x => refuse x s
      | .ok (h, p) => (s, latchedReply (s.port l).latchShafts ⟨3 * h.val + p.val, by omega⟩)
    else refuse .badIndex s

/-! TAKE, PEEK and ACK (R178). -/

/-- An entry as TAKE and PEEK answer it: class, kind, subject, occurrences. -/
def NoticeEntry.bytes (e : NoticeEntry) : List Byte :=
  [byte e.cond.cls.number, flagByte e.cond.cls.level, byte? e.cond.subject, byte e.count]

/-- The first entry that is not taken. -/
def firstUntaken (es : List NoticeEntry) : Option NoticeEntry := es.find? (fun e => !e.taken)

/-- A pending set after a TAKE of an entry: an edge entry is removed, a level entry is marked taken. -/
def takeEntry (x : NoticeEntry) (es : List NoticeEntry) : List NoticeEntry :=
  if x.cond.cls.level then es.map fun e => if e.cond = x.cond then { e with taken := true } else e
  else removeCondition x.cond es

/-- The meaning of a TAKE (R178). -/
def requestTake (l : Link) (payload : List Byte) : RequestMeaning :=
  whenEmpty payload fun s =>
    match firstUntaken (s.notice l).entries with
    | none => refuse .empty s
    | some e => (s.setEntries l (takeEntry e (s.notice l).entries), .ok e.bytes)

/-- The meaning of a PEEK (R178). -/
def requestPeek (l : Link) (payload : List Byte) : RequestMeaning :=
  whenEmpty payload fun s =>
    match firstUntaken (s.notice l).entries with
    | none => refuse .empty s
    | some e => (s, .ok e.bytes)

/-- A pending set after an ACK: a taken level entry of the condition is pending again. -/
def ackCondition (c : Condition) (es : List NoticeEntry) : List NoticeEntry :=
  es.map fun e => if e.cond = c && c.cls.level then { e with taken := false } else e

/-- The meaning of an ACK (R178). -/
def requestAck (l : Link) (payload : List Byte) : RequestMeaning := fun s =>
  match payload with
  | [cls, subject] =>
    match condition? cls subject with
    | none => refuse .badIndex s
    | some c => (s.setEntries l (ackCondition c (s.notice l).entries), .ok [])
  | _ => refuse .badLength s

end Sys2Proof.Machine
end

