-- ==== Sys2Proof/Machine/Reset.lean ====
section
/-! DEFINITION. The three resets (section 1.9 of 00_scope): power-on, the reset line and RESTART. -/

namespace Sys2Proof.Machine

/-- Every runtime block at its reset state under the active set (R16, R34, R70, R85, R113, R129, R148, R159, R181): the hand-offs
between blocks and what the Notice Table has not handled go with the blocks (assumption 21), and a demand table emptied here hands no change of its effective entry on
(assumption 30). -/
def State.clearRuntime (s : State) (cause : ResetCause) : State :=
  { s with
    resetCause := cause
    paramsPending := .replicate 8 false
    channels := .replicate 32 .reset
    stations := .replicate 4 .reset
    reference := .reset
    banks := .ofFn fun k => .reset (s.params k).period
    demands := .replicate 8 []
    trains := .replicate 8 .reset
    shafts := .ofFn fun h => .reset (capF s.active h)
    shares := .ofFn fun k => .reset (s.params k).oaMin
    drives := .ofFn fun k => .reset (s.params k).oaMin
    postures := .replicate 8 none
    notices := .replicate 3 ⟨[], false⟩
    held := []
    raised := []
    handoffs := [] }

/-- The end of a reset event: REFERENCE_LOST begins and is filed in the same event (R34, R181), and the lines are sampled after every other
block (R157). -/
def State.resetBlocks (s : State) (cause : ResetCause) (levels : Vec 4 Level) : State :=
  ((s.clearRuntime cause).fileRaise (.begins .referenceLost)).sampleLines levels

/-- What power-on and the reset line reset besides: both sets at their defaults, the lock clear (R159), the uptime 0 (R173), the
Link Ports (R167, R168, R174), and the PWM periods begun with effective values 0 (R146). -/
def State.toDefaults (s : State) : State :=
  { s with
    resetLow := false
    uptime := 0
    active := defaultParams
    staged := defaultParams
    locked := false
    ports := .replicate 3 .reset
    pwm := .replicate 24 0 }

/-- A Link Port at a RESTART (R167, R175): its latches and its dropped-since-read flag are cleared and its receiver hunts, a frame
part-received is dropped and sets the flag again, and its transmitter goes on. -/
def LinkPort.restarted (p : LinkPort) : LinkPort :=
  { p.hunt with
    dropped := decide (p.phase = .inFrame)
    latchTrains := none
    latchReference := none
    latchShafts := none }

/-- A RESTART (R175). The sampling finds the levels as last sensed (assumption 6). -/
def State.restart (s : State) : State :=
  ({ s with ports := s.ports.map LinkPort.restarted }).resetBlocks .restart (s.lines.map LineRec.level)

/-- The meaning of a RESTART (R175). -/
def requestRestart (l : Link) (payload : List Byte) : RequestMeaning :=
  whenEmpty payload (whenConfig l fun s => (s.restart, .ok []))

end Sys2Proof.Machine
end

