-- ==== Sys2Proof/WellFormed.lean ====
section
/-! DEFINITION. Which commands can be spelled by a frame at all: the checks of R167 and R169 on a request's envelope. -/

namespace Sys2Proof

/-- Whether a kind byte names a request (R169, the request kinds of section 13.4). -/
def kindNamesRequest (kind : Byte) : Bool := 1 ≤ kind.toNat && kind.toNat ≤ 16

/-- A frame's payload has at most 64 bytes (R167, R182), and a BAD_KIND command carries a kind byte that names no request
(R169). Every other operand is well formed by its type. -/
def Instr.wellFormed (i : Instr) : Bool :=
  decide (i.payload.length ≤ 64) &&
    match i with
    | .badKind _ kind _ _ => !kindNamesRequest kind
    | _ => true

end Sys2Proof
end

