-- ==== Sys2Proof/Machine/LinkPort.lean ====
section
/-! DEFINITION. The Link Port (chapter 11): the receiver, the frame check, the request a completed frame is, and the break. -/

namespace Sys2Proof.Machine

/-! The request a frame carries (R169). -/

/-- A READ by its record kind; an unknown one is BAD_INDEX whatever the length (R183). An empty payload has no record kind and does
not fit the layout (assumption 24). -/
def requestRead (payload : List Byte) : RequestMeaning :=
  match payload with
  | [] => refuse .badLength
  | kind :: rest =>
    match kind.toNat with
    | 0 => requestReadIdentity rest
    | 1 => requestReadLinkStatus rest
    | 2 => requestReadChannel rest
    | 3 => requestReadStation rest
    | 4 => requestReadReference rest
    | 5 => requestReadTrain rest
    | 6 => requestReadDemands rest
    | 7 => requestReadShaft rest
    | 8 => requestReadParamActive rest
    | 9 => requestReadParamStaged rest
    | _ => refuse .badIndex

/-- A LATCH by its scope (R174). -/
def requestLatch (l : Link) (payload : List Byte) : RequestMeaning :=
  match payload with
  | [] => refuse .badLength
  | scope :: rest =>
    match scope.toNat with
    | 0 => requestLatchTrains l rest
    | 1 => requestLatchReference l rest
    | 2 => requestLatchShafts l rest
    | _ => whenEmpty rest (refuse .badIndex)

/-- The meaning of the request a kind byte selects (R169). -/
def requestOf (l : Link) (kind : Byte) (payload : List Byte) : RequestMeaning :=
  match kind.toNat with
  | 0x01 => requestReport l payload
  | 0x02 => requestDemand l payload
  | 0x03 => requestWithdraw l payload
  | 0x04 => requestHold l payload
  | 0x05 => requestRelease l payload
  | 0x06 => requestStage l payload
  | 0x07 => requestApply l payload
  | 0x08 => requestDiscard l payload
  | 0x09 => requestLock l payload
  | 0x0A => requestRestart l payload
  | 0x0B => requestRead payload
  | 0x0C => requestLatch l payload
  | 0x0D => requestReadLatched l payload
  | 0x0E => requestTake l payload
  | 0x0F => requestPeek l payload
  | 0x10 => requestAck l payload
  | _ => refuse .badKind

/-! The receiver (R167). -/

/-- A received frame without its start byte and check. -/
structure Frame where
  kind : Byte
  tag : Byte
  length : Byte
  payload : List Byte
  deriving DecidableEq, Repr

/-- The bytes a frame's check covers (R168). -/
def Frame.checked (f : Frame) : List Byte := [f.kind, f.tag, f.length] ++ f.payload

/-- A completed frame with the check it carries (R168): dropped with a bad check, otherwise answered, or dropped where the
transmitter is busy. -/
def State.completeFrame (s : State) (l : Link) (f : Frame) (check : BitVec 16) : State :=
  if crc16 f.checked ≠ check then s.dropFrame l else s.answer l f.kind f.tag (requestOf l f.kind f.payload)

/-- The buffer with one more byte, the inter-byte timer restarted. -/
def State.bufferBytes (s : State) (l : Link) (bytes : List Byte) : State :=
  s.setPort l { s.port l with phase := .inFrame, buffer := bytes, interByte := true }

/-- What a buffer is after a byte: a length above 64 drops the frame, the second check byte completes it. -/
def State.judgeBuffer (s : State) (l : Link) (bytes : List Byte) : State :=
  match bytes with
  | kind :: tag :: length :: rest =>
    if Config.maxPayload < length.toNat then s.dropFrame l
    else match rest.drop length.toNat with
      | [lo, hi] => s.completeFrame l ⟨kind, tag, length, rest.take length.toNat⟩ (word16 lo hi)
      | _ => s.bufferBytes l bytes
  | _ => s.bufferBytes l bytes

/-- A byte received without a framing error (R167). -/
def State.receiveByte (s : State) (l : Link) (b : Byte) : State :=
  match (s.port l).phase with
  | .hunting => if b = Config.startByte then s.bufferBytes l [] else s
  | .inFrame => s.judgeBuffer l ((s.port l).buffer ++ [b])

/-- A partial frame is dropped; with no frame in progress nothing is. -/
def State.dropPartial (s : State) (l : Link) : State :=
  match (s.port l).phase with
  | .hunting => s
  | .inFrame => s.dropFrame l

/-! The break. -/

/-- A break (R171, R181): the latches are cleared and the pending set is emptied; the receiver hunts (assumption 19). -/
def State.takeBreak (s : State) (l : Link) : State :=
  (s.setPort l { (s.port l).hunt with latchTrains := none, latchReference := none, latchShafts := none }).setEntries l []

end Sys2Proof.Machine
end

