-- ==== Sys2Proof/Machine/Commands.lean ====
section
/-! DEFINITION. The commands: when each can be taken, and the block's operation that is its effect. An event is taken when the one before
it is complete. -/

namespace Sys2Proof.Machine

/-- An event: it is taken after the event of the last posture change is complete (R154). -/
def takeEvent (f : State → State) (s : State) : Host.Outcome State Fault Refusal := whenLive (fun s => f s.completePostures) s

/-- A request event (R169). -/
def answerRequest (l : Link) (kind tag : Byte) (f : RequestMeaning) (s : State) : Host.Outcome State Fault Refusal :=
  takeEvent (fun s => s.answer l kind tag f) s

/-- What the part does on an empty queue: the Notice Table handles the oldest of what it has been told, in an event of its own (R176), and
with nothing to handle the part idles (assumption 32). -/
def idle (s : State) : Host.Outcome State Fault Refusal :=
  match s.raised with
  | [] => .next s
  | _ :: _ => takeEvent State.handleNotice s

/-! Resets (section 1.9 of 00_scope) and the uptime. -/

/-- POWER_ON (R157), whatever the part was doing before. -/
def execPowerOn (levels : Vec 4 Level) (s : State) : Host.Outcome State Fault Refusal :=
  .next (s.toDefaults.resetBlocks .powerOn levels)

/-- RESET_LINE_RELEASED (R157). -/
def execResetLineReleased (levels : Vec 4 Level) (s : State) : Host.Outcome State Fault Refusal :=
  .next (s.toDefaults.resetBlocks .resetLine levels)

/-- RESET_LINE_ASSERTED: while RESET_N is held low every PWM line is driven low (R146) and every attention line is released
(R179). The blocks take their reset values when the line is released (assumption 4). -/
def execResetLineAsserted (s : State) : Host.Outcome State Fault Refusal :=
  .next { s with
    resetLow := true
    pwm := .replicate 24 0
    notices := s.notices.map fun x => { x with attention := false } }

/-- RESTART (R175). -/
def execRestart (l : Link) (tag : Byte) (payload : List Byte) (s : State) : Host.Outcome State Fault Refusal :=
  answerRequest l kindRestart tag (requestRestart l payload) s

/-- UPTIME_TICK (R173): the uptime rises by 1; the seconds timers have one second less to run (assumption 3). -/
def execUptimeTick (s : State) : Host.Outcome State Fault Refusal :=
  takeEvent (fun s => { s.tickTimers with uptime := s.uptime + 1 }) s

/-! Link Ports (sections 11.1 to 11.4). -/

/-- BAD_KIND (R169). A kind byte that names a request is none of this command's. -/
def execBadKind (l : Link) (kind tag : Byte) (payload : List Byte) (s : State) : Host.Outcome State Fault Refusal :=
  takeEvent (fun s => if kindNamesRequest kind then s else s.answer l kind tag (requestOf l kind payload)) s

/-- BYTE_RECEIVED (R167). -/
def execByteReceived (l : Link) (b : Byte) (s : State) : Host.Outcome State Fault Refusal :=
  takeEvent (fun s => s.receiveByte l b) s

/-- FRAME_START (R167): a byte of value 0xC3. Inside a frame it is an ordinary data byte. -/
def execFrameStart (l : Link) (s : State) : Host.Outcome State Fault Refusal :=
  takeEvent (fun s => s.receiveByte l Config.startByte) s

/-- INTER_BYTE_TIMEOUT (R167): the timer runs only IN_FRAME. -/
def execInterByteTimeout (l : Link) (s : State) : Host.Outcome State Fault Refusal := takeEvent (fun s => s.dropPartial l) s

/-- FRAMING_ERROR (R167): in HUNTING the byte is discarded and sets nothing. -/
def execFramingError (l : Link) (s : State) : Host.Outcome State Fault Refusal := takeEvent (fun s => s.dropPartial l) s

/-- FRAME_TOO_LONG (R167): the frame in reception is dropped at its length byte. -/
def execFrameTooLong (l : Link) (s : State) : Host.Outcome State Fault Refusal := takeEvent (fun s => s.dropFrame l) s

/-- FRAME_REJECTED (R168): a completed frame is dropped for a bad check or a busy transmitter. -/
def execFrameRejected (l : Link) (s : State) : Host.Outcome State Fault Refusal := takeEvent (fun s => s.dropFrame l) s

/-- RESPONSE_SENT (R169): the transmitter becomes idle. -/
def execResponseSent (l : Link) (s : State) : Host.Outcome State Fault Refusal :=
  takeEvent (fun s => s.setPort l { s.port l with sending := none }) s

/-- BREAK (R171). -/
def execBreakLine (l : Link) (s : State) : Host.Outcome State Fault Refusal := takeEvent (fun s => s.takeBreak l) s

/-! Observation Table (chapter 1). -/

/-- REPORT (R4). -/
def execReport (l : Link) (tag : Byte) (payload : List Byte) (s : State) : Host.Outcome State Fault Refusal :=
  answerRequest l kindReport tag (requestReport l payload) s

/-- AGE_TIMER_EXPIRY (R10). The timer runs only while the channel is FRESH, and a publication restarts it (R11): until it has run the
event cannot occur. -/
def execAgeTimerExpiry (c : Channel) (s : State) : Host.Outcome State Fault Refusal :=
  takeEvent (fun s => if timeIsUp (s.channel c).age then s.goStale c else s) s

/-! Criterion Bank (chapter 4). -/

/-- EVALUATION (R53). The evaluation timer runs at all times (R52): until it has run the event cannot occur. -/
def execEvaluation (k : Train) (s : State) : Host.Outcome State Fault Refusal :=
  takeEvent (fun s => if (s.bank k).evalTimer = 0 then s.evaluate k else s) s

/-! Demand Table (chapter 5). -/

/-- DEMAND (R76). -/
def execDemand (l : Link) (tag : Byte) (payload : List Byte) (s : State) : Host.Outcome State Fault Refusal :=
  answerRequest l kindDemand tag (requestDemand l payload) s

/-- DEMAND_EXPIRY (R80). The timer runs while the entry exists, and an accepted DEMAND restarts it (R81): until it has run the event cannot
occur. -/
def execDemandExpiry (k : Train) (l : Link) (s : State) : Host.Outcome State Fault Refusal :=
  takeEvent (fun s => if (s.demand k).any (fun e => e.link = l && e.age = 0) then s.expireDemand k l else s) s

/-- WITHDRAW (R82). -/
def execWithdraw (l : Link) (tag : Byte) (payload : List Byte) (s : State) : Host.Outcome State Fault Refusal :=
  answerRequest l kindWithdraw tag (requestWithdraw l payload) s

/-! Train Sequencer (chapter 6). -/

/-- TARGET_DECISION (R94), on a decision record or an effective-entry change handed to the train. -/
def execTargetDecision (k : Train) (src : DecisionSource) (s : State) : Host.Outcome State Fault Refusal :=
  takeEvent (fun s => match s.takeHandoff (Handoff.isDecision k src) with
    | some (_, s) => (s.decideTarget k).endEvent
    | none => s) s

/-- DWELL_EXPIRY (R97): the timer stops and no decision is taken. Until the timer has run the event cannot occur. -/
def execDwellExpiry (k : Train) (s : State) : Host.Outcome State Fault Refusal :=
  takeEvent (fun s => if timeIsUp (s.train k).dwell then s.setDwell k none else s) s

/-- STEP_TIMER_EXPIRY (R104). The timer runs only in TIMING: elsewhere, and until it has run, the event cannot occur. -/
def execStepTimerExpiry (k : Train) (s : State) : Host.Outcome State Fault Refusal := takeEvent (fun s => s.expireStep k) s

/-- WHEEL_ZERO_EVENT (R105), on a wheel-zero event of the Drive Stage. -/
def execWheelZeroEvent (k : Train) (s : State) : Host.Outcome State Fault Refusal :=
  takeEvent (fun s => match s.takeHandoff (Handoff.isWheelZero k) with
    | some (_, s) => ((s.startLockout k).wheelAtRest k).endEvent
    | none => s) s

/-- RESTART_LOCKOUT_EXPIRY (R105). A wheel-zero event restarts the timer: until it has run the event cannot occur. -/
def execRestartLockoutExpiry (k : Train) (s : State) : Host.Outcome State Fault Refusal :=
  takeEvent (fun s => if timeIsUp (s.train k).lockout then (s.endLockout k).endEvent else s) s

/-- HOLD (R87). -/
def execHold (l : Link) (tag : Byte) (payload : List Byte) (s : State) : Host.Outcome State Fault Refusal :=
  answerRequest l kindHold tag (requestHold l payload) s

/-- RELEASE (R88). -/
def execRelease (l : Link) (tag : Byte) (payload : List Byte) (s : State) : Host.Outcome State Fault Refusal :=
  answerRequest l kindRelease tag (requestRelease l payload) s

/-- SAFE_ENTRY (R111), on the beginning of a train's effective posture. It and the next two are parts of the event that changed the posture
(R154), so they come before its end. -/
def execSafeEntry (k : Train) (s : State) : Host.Outcome State Fault Refusal :=
  whenLive (fun s => match s.takeHandoff (Handoff.isPostureNews k) with
    | some (.postureBegins _, s) => (s.enterSafe k).endEvent
    | _ => s) s

/-- SAFE_EXIT (R112), on the end of a train's effective posture. -/
def execSafeExit (k : Train) (s : State) : Host.Outcome State Fault Refusal :=
  whenLive (fun s => match s.takeHandoff (Handoff.isPostureNews k) with
    | some (.postureEnds _, s) => (s.leaveSafe k).endEvent
    | _ => s) s

/-! Shaft Allocator (chapter 7) and Drive Stage (chapter 8). -/

/-- SHAFT_RECOMPUTE (R126), on a basis hand-off or an economizer request of a member. -/
def execShaftRecompute (k : Train) (src : ShaftSource) (s : State) : Host.Outcome State Fault Refusal :=
  takeEvent (fun s => match s.takeHandoff (Handoff.isShaft k src) with
    | some (.shaft _ (.basis b allocated), s) => s.takeBasis k b allocated
    | some (.shaft _ (.request v), s) => s.takeRequest k v
    | _ => s) s

/-- COMMAND_RECOMPUTE (R133), on the oldest hand-off of a sender about the train. -/
def execCommandRecompute (k : Train) (src : DriveSource) (s : State) : Host.Outcome State Fault Refusal :=
  takeEvent (fun s => match s.takeHandoff (Handoff.isDrive k src) with
    | some (.drive _ o, s) => (s.store k o).recompute k
    | _ => s) s

/-- RAMP_STEP (R143). Until the ramp timer has run the event cannot occur. -/
def execRampStep (k : Train) (s : State) : Host.Outcome State Fault Refusal :=
  takeEvent (fun s => if timeIsUp (s.drive k).ramp then s.ramp k else s) s

/-- POSTURE_APPLY (R145), on a start, change or end of the train's posture. -/
def execPostureApply (k : Train) (s : State) : Host.Outcome State Fault Refusal :=
  whenLive (fun s => match s.takeHandoff (Handoff.isPosture k) with
    | some (.posture _ (some v), s) => s.applyPosture k v
    | some (.posture _ none, s) => s.endPosture k
    | _ => s) s

/-- PWM_PERIOD (R146). -/
def execPwmPeriod (s : State) : Host.Outcome State Fault Refusal := takeEvent State.beginPeriod s

/-! Life-Safety Interface (chapter 9). -/

/-- LINE_SENSED_LOW (R152). A line already LOW is not sensed low again (R150, R152). -/
def execLineSensedLow (n : Line) (s : State) : Host.Outcome State Fault Refusal :=
  takeEvent (fun s => if (s.line n).level = .low then s else s.senseLow n) s

/-- LINE_SENSED_HIGH (R153). A line already HIGH is not sensed high again (R150). -/
def execLineSensedHigh (n : Line) (s : State) : Host.Outcome State Fault Refusal :=
  takeEvent (fun s => if (s.line n).level = .high then s else s.senseHigh n) s

/-- RELEASE_DELAY_EXPIRY (R153). Until the timer has run the event cannot occur. -/
def execReleaseDelayExpiry (n : Line) (s : State) : Host.Outcome State Fault Refusal :=
  takeEvent (fun s => if timeIsUp (s.line n).delay then s.endAssertion n else s) s

/-! Parameter Store (chapter 10). -/

/-- STAGE (R160). -/
def execStage (l : Link) (tag : Byte) (payload : List Byte) (s : State) : Host.Outcome State Fault Refusal :=
  answerRequest l kindStage tag (requestStage l payload) s

/-- APPLY (R161). -/
def execApply (l : Link) (tag : Byte) (payload : List Byte) (s : State) : Host.Outcome State Fault Refusal :=
  answerRequest l kindApply tag (requestApply l payload) s

/-- DISCARD (R164). -/
def execDiscard (l : Link) (tag : Byte) (payload : List Byte) (s : State) : Host.Outcome State Fault Refusal :=
  answerRequest l kindDiscard tag (requestDiscard l payload) s

/-- LOCK (R165). -/
def execLock (l : Link) (tag : Byte) (payload : List Byte) (s : State) : Host.Outcome State Fault Refusal :=
  answerRequest l kindLock tag (requestLock l payload) s

/-! Reading (sections 11.5 and 11.6). -/

/-- READ of IDENTITY (R172). -/
def execReadIdentity (l : Link) (tag : Byte) (rest : List Byte) (s : State) : Host.Outcome State Fault Refusal :=
  answerRequest l kindRead tag (requestReadIdentity rest) s

/-- READ of LINK_STATUS (R172). -/
def execReadLinkStatus (l : Link) (tag : Byte) (rest : List Byte) (s : State) : Host.Outcome State Fault Refusal :=
  answerRequest l kindRead tag (requestReadLinkStatus rest) s

/-- READ of CHANNEL (R17). -/
def execReadChannel (l : Link) (tag : Byte) (rest : List Byte) (s : State) : Host.Outcome State Fault Refusal :=
  answerRequest l kindRead tag (requestReadChannel rest) s

/-- READ of STATION (R35). -/
def execReadStation (l : Link) (tag : Byte) (rest : List Byte) (s : State) : Host.Outcome State Fault Refusal :=
  answerRequest l kindRead tag (requestReadStation rest) s

/-- READ of REFERENCE (R35). -/
def execReadReference (l : Link) (tag : Byte) (rest : List Byte) (s : State) : Host.Outcome State Fault Refusal :=
  answerRequest l kindRead tag (requestReadReference rest) s

/-- READ of TRAIN (R71). -/
def execReadTrain (l : Link) (tag : Byte) (rest : List Byte) (s : State) : Host.Outcome State Fault Refusal :=
  answerRequest l kindRead tag (requestReadTrain rest) s

/-- READ of DEMANDS (R86). -/
def execReadDemands (l : Link) (tag : Byte) (rest : List Byte) (s : State) : Host.Outcome State Fault Refusal :=
  answerRequest l kindRead tag (requestReadDemands rest) s

/-- READ of SHAFT (R130). -/
def execReadShaft (l : Link) (tag : Byte) (rest : List Byte) (s : State) : Host.Outcome State Fault Refusal :=
  answerRequest l kindRead tag (requestReadShaft rest) s

/-- READ of PARAM_ACTIVE (R166). -/
def execReadParamActive (l : Link) (tag : Byte) (rest : List Byte) (s : State) : Host.Outcome State Fault Refusal :=
  answerRequest l kindRead tag (requestReadParamActive rest) s

/-- READ of PARAM_STAGED (R166). -/
def execReadParamStaged (l : Link) (tag : Byte) (rest : List Byte) (s : State) : Host.Outcome State Fault Refusal :=
  answerRequest l kindRead tag (requestReadParamStaged rest) s

/-- LATCH of TRAINS (R174). -/
def execLatchTrains (l : Link) (tag : Byte) (rest : List Byte) (s : State) : Host.Outcome State Fault Refusal :=
  answerRequest l kindLatch tag (requestLatchTrains l rest) s

/-- LATCH of REFERENCE (R174). -/
def execLatchReference (l : Link) (tag : Byte) (rest : List Byte) (s : State) : Host.Outcome State Fault Refusal :=
  answerRequest l kindLatch tag (requestLatchReference l rest) s

/-- LATCH of SHAFTS (R174). -/
def execLatchShafts (l : Link) (tag : Byte) (rest : List Byte) (s : State) : Host.Outcome State Fault Refusal :=
  answerRequest l kindLatch tag (requestLatchShafts l rest) s

/-- READ_LATCHED (R174). -/
def execReadLatched (l : Link) (tag : Byte) (payload : List Byte) (s : State) : Host.Outcome State Fault Refusal :=
  answerRequest l kindReadLatched tag (requestReadLatched l payload) s

/-! Notice Table (chapter 12). -/

/-- TAKE (R178). -/
def execTake (l : Link) (tag : Byte) (payload : List Byte) (s : State) : Host.Outcome State Fault Refusal :=
  answerRequest l kindTake tag (requestTake l payload) s

/-- PEEK (R178). -/
def execPeek (l : Link) (tag : Byte) (payload : List Byte) (s : State) : Host.Outcome State Fault Refusal :=
  answerRequest l kindPeek tag (requestPeek l payload) s

/-- ACK (R178). -/
def execAck (l : Link) (tag : Byte) (payload : List Byte) (s : State) : Host.Outcome State Fault Refusal :=
  answerRequest l kindAck tag (requestAck l payload) s

end Sys2Proof.Machine
end

