-- ==== Sys2Proof/Machine/Dispatch.lean ====
section
/-! DEFINITION. Which meaning each command has. -/

namespace Sys2Proof.Machine

def exec (i : Instr) (s : State) : Host.Outcome State Fault Refusal :=
  match i with
  | .powerOn levels => Sys2Proof.Machine.execPowerOn levels s
  | .resetLineAsserted => Sys2Proof.Machine.execResetLineAsserted s
  | .resetLineReleased levels => Sys2Proof.Machine.execResetLineReleased levels s
  | .interByteTimeout l => Sys2Proof.Machine.execInterByteTimeout l s
  | .framingError l => Sys2Proof.Machine.execFramingError l s
  | .frameTooLong l => Sys2Proof.Machine.execFrameTooLong l s
  | .frameRejected l => Sys2Proof.Machine.execFrameRejected l s
  | .breakLine l => Sys2Proof.Machine.execBreakLine l s
  | .badKind l kind tag payload => Sys2Proof.Machine.execBadKind l kind tag payload s
  | .responseSent l => Sys2Proof.Machine.execResponseSent l s
  | .report l tag payload => Sys2Proof.Machine.execReport l tag payload s
  | .ageTimerExpiry c => Sys2Proof.Machine.execAgeTimerExpiry c s
  | .evaluation k => Sys2Proof.Machine.execEvaluation k s
  | .demand l tag payload => Sys2Proof.Machine.execDemand l tag payload s
  | .demandExpiry k l => Sys2Proof.Machine.execDemandExpiry k l s
  | .withdraw l tag payload => Sys2Proof.Machine.execWithdraw l tag payload s
  | .hold l tag payload => Sys2Proof.Machine.execHold l tag payload s
  | .release l tag payload => Sys2Proof.Machine.execRelease l tag payload s
  | .targetDecision k src => Sys2Proof.Machine.execTargetDecision k src s
  | .dwellExpiry k => Sys2Proof.Machine.execDwellExpiry k s
  | .stepTimerExpiry k => Sys2Proof.Machine.execStepTimerExpiry k s
  | .wheelZeroEvent k => Sys2Proof.Machine.execWheelZeroEvent k s
  | .restartLockoutExpiry k => Sys2Proof.Machine.execRestartLockoutExpiry k s
  | .safeEntry k => Sys2Proof.Machine.execSafeEntry k s
  | .safeExit k => Sys2Proof.Machine.execSafeExit k s
  | .shaftRecompute k src => Sys2Proof.Machine.execShaftRecompute k src s
  | .commandRecompute k src => Sys2Proof.Machine.execCommandRecompute k src s
  | .postureApply k => Sys2Proof.Machine.execPostureApply k s
  | .rampStep k => Sys2Proof.Machine.execRampStep k s
  | .pwmPeriod => Sys2Proof.Machine.execPwmPeriod s
  | .uptimeTick => Sys2Proof.Machine.execUptimeTick s
  | .lineSensedLow n => Sys2Proof.Machine.execLineSensedLow n s
  | .lineSensedHigh n => Sys2Proof.Machine.execLineSensedHigh n s
  | .releaseDelayExpiry n => Sys2Proof.Machine.execReleaseDelayExpiry n s
  | .stage l tag payload => Sys2Proof.Machine.execStage l tag payload s
  | .apply l tag payload => Sys2Proof.Machine.execApply l tag payload s
  | .discard l tag payload => Sys2Proof.Machine.execDiscard l tag payload s
  | .lock l tag payload => Sys2Proof.Machine.execLock l tag payload s
  | .restart l tag payload => Sys2Proof.Machine.execRestart l tag payload s
  | .readIdentity l tag rest => Sys2Proof.Machine.execReadIdentity l tag rest s
  | .readLinkStatus l tag rest => Sys2Proof.Machine.execReadLinkStatus l tag rest s
  | .readChannel l tag rest => Sys2Proof.Machine.execReadChannel l tag rest s
  | .readStation l tag rest => Sys2Proof.Machine.execReadStation l tag rest s
  | .readReference l tag rest => Sys2Proof.Machine.execReadReference l tag rest s
  | .readTrain l tag rest => Sys2Proof.Machine.execReadTrain l tag rest s
  | .readDemands l tag rest => Sys2Proof.Machine.execReadDemands l tag rest s
  | .readShaft l tag rest => Sys2Proof.Machine.execReadShaft l tag rest s
  | .readParamActive l tag rest => Sys2Proof.Machine.execReadParamActive l tag rest s
  | .readParamStaged l tag rest => Sys2Proof.Machine.execReadParamStaged l tag rest s
  | .latchTrains l tag rest => Sys2Proof.Machine.execLatchTrains l tag rest s
  | .latchReference l tag rest => Sys2Proof.Machine.execLatchReference l tag rest s
  | .latchShafts l tag rest => Sys2Proof.Machine.execLatchShafts l tag rest s
  | .readLatched l tag payload => Sys2Proof.Machine.execReadLatched l tag payload s
  | .take l tag payload => Sys2Proof.Machine.execTake l tag payload s
  | .peek l tag payload => Sys2Proof.Machine.execPeek l tag payload s
  | .ack l tag payload => Sys2Proof.Machine.execAck l tag payload s
  | .frameStart l => Sys2Proof.Machine.execFrameStart l s
  | .byteReceived l b => Sys2Proof.Machine.execByteReceived l b s

end Sys2Proof.Machine
end

