-- ==== Sys2Proof/Safety.lean ====
section
/-! DEFINITION. What a sound state of the part is: the relations that every command keeps, in the words of the chapters. -/

namespace Sys2Proof.Machine

/-! When a command can be taken. -/

/-- RESET_N is high: the part takes events. -/
abbrev State.awake (s : State) : Prop := s.resetLow = false

/-- The event of the last posture change is complete: both blocks have taken their hand-off for every train it touched (R154). -/
abbrev State.settled (s : State) : Prop := s.handoffs.filter Handoff.ofPosture = []

/-- The part takes a new event: it is awake, and no event is incomplete. -/
abbrev State.live (s : State) : Prop := s.awake ∧ s.settled

/-- A request on the link is taken and not dropped: the part takes events and the link's transmitter is idle (R168). -/
abbrev State.ready (s : State) (l : Link) : Prop := s.live ∧ (s.port l).sending = none

/-- The commands that are events of their own: all but the resets, which break off what they find, and the three that are parts of the event of
a posture change (R154). -/
def beginsEvent : Instr → Bool
  | .powerOn _ | .resetLineAsserted | .resetLineReleased _ | .safeEntry _ | .safeExit _ | .postureApply _ => false
  | _ => true

/-! Requests as frames. -/

/-- The link, kind byte and tag byte of a request command (section 13.4). -/
def requestOf? : Instr → Option (Link × Byte × Byte)
  | .badKind l kind tag _ => some (l, kind, tag)
  | .report l tag _ => some (l, kindReport, tag)
  | .demand l tag _ => some (l, kindDemand, tag)
  | .withdraw l tag _ => some (l, kindWithdraw, tag)
  | .hold l tag _ => some (l, kindHold, tag)
  | .release l tag _ => some (l, kindRelease, tag)
  | .stage l tag _ => some (l, kindStage, tag)
  | .apply l tag _ => some (l, kindApply, tag)
  | .discard l tag _ => some (l, kindDiscard, tag)
  | .lock l tag _ => some (l, kindLock, tag)
  | .restart l tag _ => some (l, kindRestart, tag)
  | .readIdentity l tag _ | .readLinkStatus l tag _ | .readChannel l tag _ | .readStation l tag _ | .readReference l tag _
  | .readTrain l tag _ | .readDemands l tag _ | .readShaft l tag _ | .readParamActive l tag _
  | .readParamStaged l tag _ => some (l, kindRead, tag)
  | .latchTrains l tag _ | .latchReference l tag _ | .latchShafts l tag _ => some (l, kindLatch, tag)
  | .readLatched l tag _ => some (l, kindReadLatched, tag)
  | .take l tag _ => some (l, kindTake, tag)
  | .peek l tag _ => some (l, kindPeek, tag)
  | .ack l tag _ => some (l, kindAck, tag)
  | _ => none

/-- The bytes of a request's frame with a given check (R182). -/
def frameBytes (kind tag : Byte) (payload : List Byte) (check : BitVec 16) : List Byte :=
  [Config.startByte, kind, tag, byte payload.length] ++ payload ++ bytes16 check

/-- The check of a request's frame (R168). -/
def frameCheck (kind tag : Byte) (payload : List Byte) : BitVec 16 := crc16 ([kind, tag, byte payload.length] ++ payload)

/-- Bytes received on a link one after another, each a BYTE_RECEIVED. -/
def receiveAll (l : Link) : List Byte → State → Host.Outcome State Fault Refusal
  | [], s => .next s
  | b :: bs, s =>
    match exec (.byteReceived l b) s with
    | .next t => receiveAll l bs t
    | x => x

/-- The Link Ports after a request of the link was answered, where its effect changes no Link Port: the receiver hunts, and the response is
being sent. -/
def State.repliedPorts (s : State) (l : Link) (kind tag : Byte) (x : Status) (data : List Byte) : Vec 3 LinkPort :=
  s.ports.set (linkIndex l) { (s.port l).hunt with sending := some ⟨kind ||| 0x80, tag, x, data⟩ }

/-- The Link Ports after a frame of the link was dropped (R167). -/
def State.droppedPorts (s : State) (l : Link) : Vec 3 LinkPort :=
  s.ports.set (linkIndex l) { (s.port l).hunt with dropped := true }

/-! Parameter sets (chapter 10). -/

/-- The items of a train within their ranges (R39, R52, R91, R116, R132). -/
abbrev TrainParams.inRange (t : TrainParams) : Prop :=
  t.height ≤ 800 ∧ 2 ≤ t.period ∧ t.period ≤ 60 ∧ t.wsMin ≤ 1000 ∧ t.wsMax ≤ 1000 ∧ t.wsFloor ≤ 1000 ∧ -300 ≤ t.tFrost ∧
  t.tFrost ≤ 300 ∧ 1 ≤ t.frostSpan ∧ t.frostSpan ≤ 200 ∧ t.oaMin ≤ 1000 ∧ 1 ≤ t.q ∧ t.q ≤ 500 ∧ t.dwell ≤ 3600 ∧
  t.spinDown ≤ 300 ∧ t.stroke ≤ 300 ∧ t.restartLockout ≤ 900

/-- The items of a channel within their ranges (R2). -/
abbrev ChannelParams.inRange (p : ChannelParams) (c : Channel) : Prop :=
  1 ≤ p.target ∧ p.target ≤ 4 ∧ hardLow c ≤ p.low ∧ p.low ≤ hardHigh c ∧ hardLow c ≤ p.high ∧ p.high ≤ hardHigh c ∧
  5 ≤ p.stale ∧ p.stale ≤ 900 ∧ ∀ d ∈ p.standIn, 8 ≤ c.val ∧ 8 ≤ d.val

/-- The items of the stations and the reference within their ranges (R19). -/
abbrev StationParams.inRange (p : StationParams) : Prop :=
  (∀ st, p.heights.get st ≤ 800) ∧ -150 ≤ p.lapse ∧ p.lapse ≤ 50 ∧ 5 ≤ p.tolerance ∧ p.tolerance ≤ 100 ∧ 1 ≤ p.discredit ∧
  p.discredit ≤ 15 ∧ 1 ≤ p.recredit ∧ p.recredit ≤ 15

/-- Every item of a set within its range (the tables of R2, R19, R39, R52, R55, R57, R63, R73, R91, R116, R132, R151 and
section 10.1). -/
structure Params.inRange (p : Params) : Prop where
  trains : ∀ k, (p.train k).inRange
  slots : ∀ k c, 1 ≤ ((p.slots.get k).get c).onCount ∧ ((p.slots.get k).get c).onCount ≤ 15 ∧
    1 ≤ ((p.slots.get k).get c).offCount ∧ ((p.slots.get k).get c).offCount ≤ 15
  pool : ∀ b, -4000 ≤ p.pool.get b ∧ p.pool.get b ≤ 4000
  channels : ∀ c, (p.channel c).inRange c
  station : p.station.inRange
  shafts : ∀ h, (p.shafts.get h).capacity ≤ 65535 ∧ 1 ≤ (p.shafts.get h).slotLimit ∧ (p.shafts.get h).slotLimit ≤ 8
  demandTimeout : 5 ≤ p.demandTimeout ∧ p.demandTimeout ≤ 600
  ramp : 1 ≤ p.ramp ∧ p.ramp ≤ 1000
  rights : ∀ l, 1 ≤ p.priority l ∧ p.priority l ≤ 3
  lines : ∀ n, (p.lines.get n).delay ≤ 300
  postures : ∀ c, (p.posture c).bp ≤ 1000 ∧ (p.posture c).oa ≤ 1000

/-- The two sets of a sound state: every item in its range, the active set passes the checks an APPLY makes of a set alone (R159), and
under the lock the locked items of both sets are equal (R165). -/
structure State.paramsSound (s : State) : Prop where
  active : s.active.inRange
  staged : s.staged.inRange
  relations : s.active.relationFault? = none
  frozen : s.locked = true → s.staged.withLockedOf s.active = s.staged

/-! Notices (chapter 12). -/

/-- An entry of a pending set (R177, R178): a count of 1..255, which a level entry never raises, and taken only of a level class. -/
abbrev NoticeEntry.sound (e : NoticeEntry) : Prop :=
  1 ≤ e.count ∧ e.count ≤ 255 ∧ (e.cond.cls.level = true → e.count = 1) ∧ (e.taken = true → e.cond.cls.level = true)

/-- A link's pending set (R177 to R180): in order with at most one entry per class and subject, each of a class routed to the link, a level
entry only while its condition holds; and the attention line is asserted exactly while an entry is not taken, and never while RESET_N
is held low. -/
structure State.pendingSound (s : State) (l : Link) : Prop where
  order : (s.notice l).entries.Pairwise (fun a b => a.cond.key < b.cond.key)
  entries : ∀ e ∈ (s.notice l).entries, e.sound
  routed : ∀ e ∈ (s.notice l).entries, s.active.routes e.cond.cls l = true
  holds : ∀ e ∈ (s.notice l).entries, e.cond.cls.level = true → e.cond ∈ s.held
  attention : (s.notice l).attention = (!s.resetLow && asksAttention (s.notice l).entries)

/-- The pending sets of the three links. -/
def State.noticesSound (s : State) : Prop := ∀ l, s.pendingSound l

/-- Whether the held list will hold a condition once the Notice Table has handled what it has been told. -/
def heldAfter (c : Condition) : List Raise → Bool → Bool
  | [], b => b
  | .edge _ :: xs, b => heldAfter c xs b
  | .begins d :: xs, b => heldAfter c xs (if d = c then true else b)
  | .ends d :: xs, b => heldAfter c xs (if d = c then false else b)

/-- Whether a raise is the beginning or the end of a condition. -/
def Raise.isLevel : Raise → Bool
  | .edge _ => false
  | .begins _ | .ends _ => true

/-- An edge class is raised; a level class begins and ends (R176). -/
abbrev Raise.ofItsKind (x : Raise) : Prop := x.condition.cls.level = x.isLevel

/-- The held list (R176): in order, level conditions once each; as soon as the Notice Table has handled what it has been told, REFERENCE_LOST
while the reference is LOST and SAFE for each train in SAFE. -/
structure State.heldSound (s : State) : Prop where
  order : s.held.Pairwise (fun a b => a.key < b.key)
  level : ∀ c ∈ s.held, c.cls.level = true
  raised : ∀ x ∈ s.raised, x.ofItsKind
  reference : heldAfter .referenceLost s.raised (decide (.referenceLost ∈ s.held)) = s.reference.lost
  safe : ∀ k, heldAfter (.safe k) s.raised (decide (.safe k ∈ s.held)) = s.inSafe k

/-! Channels, stations and the reference (chapters 1 and 2). -/

/-- A channel record (R1, R3, R7 to R10): FRESH exactly while the age timer runs, a published value except while EMPTY, fewer accepted
values than N, and nothing in an accumulator of none. -/
structure State.channelSound (s : State) (c : Channel) : Prop where
  fresh : (s.channel c).state = .fresh ↔ (s.channel c).age.isSome = true
  published : (s.channel c).published = none ↔ (s.channel c).state = .empty
  count : (s.channel c).count < (s.active.channel c).target
  sum : (s.channel c).count = 0 → (s.channel c).sum = 0

/-- The stations and the reference record (R18, R23 to R30): each credit counter is below the count that would flip the station, at least
one station is CREDITED, and the record is what a re-decision would give. -/
structure State.referenceSound (s : State) : Prop where
  counter : ∀ st, (s.station st).counter <
    (match (s.station st).credit with | .credited => s.active.station.discredit | .discredited => s.active.station.recredit)
  credited : ∃ st, (s.station st).credit = .credited
  decided : s.reference = { s.decidedReference with lostSinceRead := s.reference.lostSinceRead }

/-! Demand tables (chapter 5). -/

/-- The fields a stored demand can hold (R72, R75). -/
abbrev Effective.inRange (e : Effective) : Prop :=
  -100 ≤ e.d ∧ e.d ≤ 100 ∧ (∀ v ∈ e.fixedSpeed, v ≤ 1000) ∧ ∀ m ∈ e.request.forced?, m ≠ .offline

/-- A demand table (R73, R74, R84): one entry per link, the higher priority first, each from a link with the train in its set, a FORCE
only from a link with the force right. -/
structure State.demandSound (s : State) (k : Train) : Prop where
  order : (s.demand k).Pairwise (fun a b => s.active.priority b.link < s.active.priority a.link)
  fields : ∀ e ∈ s.demand k, e.fields.inRange
  rights : ∀ e ∈ s.demand k, s.inSet e.link k = true ∧ (e.forces = true → (s.right e.link).force = true)

/-! Trains, slots and wait lists (chapters 6 and 7). -/

/-- A changeover record in progress (R101 to R105). -/
structure Changeover.sound (r : Changeover) : Prop where
  steps : r.steps = stepList r.source r.target
  step : ∃ x, r.step? = some x ∧ (r.phase = .waitWheelZero → x = .wheelDown) ∧ (r.phase = .waitLockout → x = .wheelUp) ∧
    (x = .wheelUp → r.phase = .waitLockout)
  first : 1 ≤ r.index
  timer : r.phase = .timing ↔ r.timer.isSome = true

/-- A train record (R90, R97): the dwell runs and a target waits only in a steady mode, a force is pending only in a changeover. -/
structure TrainRec.sound (t : TrainRec) : Prop where
  record : ∀ r, t.state = .changeover r → r.sound
  dwell : t.dwell.isSome = true → t.state.steady?.isSome = true
  waiting : t.waiting.isSome = true → t.state.steady?.isSome = true
  force : t.pendingForce = true → t.state.changeover?.isSome = true
  marks : t.touched = .clear

/-- The slots (R115, R118, R122): no more holders than the limit, each once and exactly the shaft's trains in CHANGEOVER; the wait list
holds exactly its waiting trains with their targets, each once, and only while every slot is taken. -/
structure State.slotsSound (s : State) (h : Shaft) : Prop where
  limit : (s.shaft h).holders.length ≤ (s.active.shafts.get h).slotLimit
  holdersOnce : (s.shaft h).holders.Nodup
  holders : ∀ k, k ∈ (s.shaft h).holders ↔ s.shaftOf k = h ∧ (s.train k).state.changeover?.isSome = true
  waitOnce : ((s.shaft h).waitList.map (·.train)).Nodup
  waits : ∀ k m, ⟨k, m⟩ ∈ (s.shaft h).waitList ↔ s.shaftOf k = h ∧ (s.train k).waiting = some m
  full : (s.shaft h).waitList ≠ [] → (s.shaft h).holders.length = (s.active.shafts.get h).slotLimit

/-- The Train Sequencer and the slots together. -/
structure State.trainsSound (s : State) : Prop where
  trains : ∀ k, (s.train k).sound
  slots : ∀ h, s.slotsSound h
  limits : ∀ h, 1 ≤ (s.active.shafts.get h).slotLimit

/-- The wait list of a shaft as a release by `k` finds it (R119): each train once, neither `k` nor a holder, and each in a steady mode from
which its target needs a changeover. -/
abbrev State.waitersReady (s : State) (h : Shaft) (k : Train) : Prop :=
  ((s.shaft h).waitList.map (·.train)).Nodup ∧ ∀ e ∈ (s.shaft h).waitList, e.train ≠ k ∧ e.train ∉ (s.shaft h).holders ∧
    ∃ m ∈ (s.train e.train).state.steady?, stepList m e.target ≠ []

/-- The slot of `k` in shaft `h` has passed on between two states (R100, R121): from the head of the wait list on, the changeovers that
complete at once have been made, which takes a stroke time of 0 s; the next head holds the slot in its changeover toward its target; the
entries behind it wait as before, and no other train or shaft has changed. Each change of a waiting train's state has raised MODE_CHANGED
(R93), after the raises `before` and before the raises `after` of the same event. -/
def State.slotPassesOn (s t : State) (h : Shaft) (k : Train) (before after : List Raise) : Prop :=
  ∃ done rest, (s.shaft h).waitList = done ++ rest ∧
    t.shafts = s.shafts.set h { s.shaft h with
      holders := (s.shaft h).holders.filter (· ≠ k) ++ rest.head?.toList.map (·.train), waitList := rest.tail } ∧
    t.raised = s.raised ++ before ++
      (done.flatMap fun e => [.edge (.modeChanged e.train), .edge (.modeChanged e.train)]) ++
      (rest.head?.toList.map fun e => .edge (.modeChanged e.train)) ++ after ∧
    (∀ e ∈ done, (s.params e.train).stroke = 0 ∧ (t.train e.train).state = .steady e.target ∧
      (t.train e.train).bases = e.target.bases ∧ (t.train e.train).waiting = none ∧
      (t.train e.train).dwell = startTimer (s.params e.train).dwell) ∧
    (∀ e ∈ rest.head?, (t.train e.train).waiting = none ∧ (t.train e.train).dwell = none ∧
      (t.train e.train).pendingForce = false ∧ ∃ m r, (s.train e.train).state = .steady m ∧
        (t.train e.train).state = .changeover r ∧ r.source = m ∧ r.target = e.target ∧ r.steps = stepList m e.target) ∧
    (∀ e ∈ rest.tail, t.train e.train = s.train e.train) ∧
    ∀ j, j ≠ k → (∀ e ∈ (s.shaft h).waitList, e.train ≠ j) → t.train j = s.train j

/-- What the end of an event hands on about a train (R92) whose bases have become `b` and whose standing in the set of allocated states has
become `allocated`: the bases to the Drive Stage where one has changed, and the outdoor-air basis with the standing to the Shaft Allocator
where either has changed. -/
def State.basesTold (s : State) (k : Train) (b : Bases) (allocated : Bool) : List Handoff :=
  (if (s.train k).bases = b then [] else [.drive k (.bases b)]) ++
  (if (s.train k).bases.oa = b.oa ∧ (s.train k).state.allocated = allocated then [] else [.shaft k (.basis b.oa allocated)])

/-! Outputs (chapter 8). -/

/-- Output values of 0..1000. -/
abbrev OutputValues.inRange (v : OutputValues) : Prop := v.ws ≤ 1000 ∧ v.bp ≤ 1000 ∧ v.oa ≤ 1000

/-- A train's output records (R131, R143): every value of 0..1000, the dampers at their commands, and the ramp running exactly while the
wheel is not at its command. -/
structure DriveRec.sound (d : DriveRec) : Prop where
  wheel : d.wheel.command ≤ 1000 ∧ d.wheel.effective ≤ 1000
  bypass : d.bypass.command ≤ 1000 ∧ d.bypass.effective = d.bypass.command
  oa : d.oa.command ≤ 1000 ∧ d.oa.effective = d.oa.command
  ramp : d.ramp.isSome = true ↔ d.wheel.effective ≠ d.wheel.command
  grant : ∀ g ∈ d.grant, g ≤ 1000
  posture : ∀ v ∈ d.posture, v.inRange
  request : d.lastRequest ≤ 1000

/-- The values a hand-off carries to the Drive Stage and the Shaft Allocator. -/
abbrev Handoff.inRange : Handoff → Prop
  | .drive _ (.grant g) => g ≤ 1000
  | .posture _ (some v) => v.inRange
  | .shaft _ (.request v) => v ≤ 1000
  | _ => True

/-- Every output of the part (R131, R143, R146), with the stored values the commands are drawn from. -/
structure State.outputsSound (s : State) : Prop where
  drives : ∀ k, (s.drive k).sound
  pwm : ∀ o, s.pwm.get o ≤ 1000
  handoffs : ∀ x ∈ s.handoffs, x.inRange
  shares : ∀ k, (s.share k).request ≤ 1000 ∧ ∀ g ∈ (s.share k).share, g.grant ≤ 1000
  holds : ∀ k h, (s.train k).state = .held h → h.inRange

/-! Life safety (chapter 9). -/

/-- A line record (R150, R152, R153): asserted exactly while LOW or while the release delay runs, and a delay runs only while HIGH. -/
abbrev LineRec.sound (r : LineRec) : Prop :=
  (r.asserted = true ↔ r.level = .low ∨ r.delay.isSome = true) ∧ (r.delay.isSome = true → r.level = .high)

/-- Whether the Train Sequencer will have a train in SAFE once it has taken the posture news in flight. -/
def safeAfter (k : Train) : List Handoff → Bool → Bool
  | [], b => b
  | .postureBegins j :: xs, b => safeAfter k xs (if j = k then true else b)
  | .postureEnds j :: xs, b => safeAfter k xs (if j = k then false else b)
  | _ :: xs, b => safeAfter k xs b

/-- The posture the Drive Stage will hold for a train once it has taken the postures in flight. -/
def postureAfter (k : Train) : List Handoff → Option OutputValues → Option OutputValues
  | [], v => v
  | .posture j w :: xs, v => postureAfter k xs (if j = k then w else v)
  | _ :: xs, v => postureAfter k xs v

/-- The values of a train's effective posture under the active set. -/
def State.postureOf (s : State) (k : Train) : Option OutputValues := (s.posture k).map fun e => s.active.postureValues e.code

/-- The Life-Safety Interface and the two blocks it tells (R154): each train's effective posture is that of its lowest asserted line, the
Train Sequencer has the train in SAFE and the Drive Stage holds the posture's values as soon as each has taken what is in flight for it,
and a posture held is what the outputs show (R145). -/
structure State.lifeSafetySound (s : State) : Prop where
  lines : ∀ n, (s.line n).sound
  decided : ∀ k, s.posture k = s.decidedPosture k
  safe : ∀ k, safeAfter k s.handoffs (s.inSafe k) = (s.posture k).isSome
  posture : ∀ k, postureAfter k s.handoffs (s.drive k).posture = s.postureOf k
  outputs : ∀ k, ∀ v ∈ (s.drive k).posture, (s.drive k).wheel = ⟨v.ws, v.ws⟩ ∧ (s.drive k).bypass = ⟨v.bp, v.bp⟩ ∧
    (s.drive k).oa = ⟨v.oa, v.oa⟩ ∧ (s.drive k).ramp = none

/-! All of it. -/

/-- A sound state: what every command keeps. -/
structure State.sound (s : State) : Prop where
  params : s.paramsSound
  notices : s.noticesSound
  held : s.heldSound
  channels : ∀ c, s.channelSound c
  reference : s.referenceSound
  demands : ∀ k, s.demandSound k
  trains : s.trainsSound
  outputs : s.outputsSound
  lifeSafety : s.lifeSafetySound

end Sys2Proof.Machine
end

