-- ==== Sys2Proof/Certificates/Slice0/Obligations.lean ====
section
/-! DEFINITION. The statements about the model. `s` is the state before a command and `t` the state after it; a frame is written
`t = { s with … }`, which names every part of the state that may differ. -/

open Sys2Proof Sys2Proof.Machine

/-! The queue, the resets and the uptime. -/

/-- The step runs the command at the front of the queue on the state with the queue's rest. On an empty queue the Notice Table handles the
oldest raise it has been told of (R176; the model's choice of the moment, assumption 32; its effect: NoticesTaken), and with none the part
idles. -/
def Obligations.StepTakesFront : Prop :=
  ∀ (c : Instr) (rest : List Instr) (s : State),
    step { s with pending := c :: rest } = exec c { s with pending := rest } ∧
    (s.raised = [] → step { s with pending := [] } = .next { s with pending := [] }) ∧
    (s.live → ∃ t, step { s with pending := [] } = .next t ∧
      t = { s with pending := [], raised := s.raised.tail, held := t.held, notices := t.notices })

/-- Every command in every state answers a next state, and no command touches the queue. -/
def Obligations.EveryCommandCompletes : Prop :=
  ∀ (c : Instr) (s : State), ∃ t, exec c s = .next t ∧ t.pending = s.pending

/-- RESET_LINE_ASSERTED drives every PWM line low and releases every attention line (R146, R179) and changes nothing else, and from then on
only a power-on or the release of the line has an effect (the model's choice, assumption 4). -/
def Obligations.ResetLineHeld : Prop :=
  ∀ s : State, ∃ t, exec .resetLineAsserted s = .next t ∧
    (∀ o, t.pwm.get o = 0) ∧
    (∀ l, t.notice l = ⟨(s.notice l).entries, false⟩) ∧
    t = { s with resetLow := true, pwm := t.pwm, notices := t.notices } ∧
    ∀ c, (∀ v, c ≠ .powerOn v ∧ c ≠ .resetLineReleased v) → exec c t = .next t

/-- POWER_ON with four HIGH lines gives the reset state of the model (its queue and its own count of stale reads kept). With other levels the
lines are as sampled, and as the default map puts every train under every line with ISOLATE, one LOW line has every train in SAFE under the
lowest LOW line with its outputs at 0 (R150, R154, R157). RESET_LINE_RELEASED does the same with its own cause. -/
def Obligations.ResetsSampleLines : Prop :=
  ∀ (v : Vec 4 Level) (s : State), ∃ t,
    exec (.powerOn v) s = .next t ∧
    exec (.resetLineReleased v) s = .next { t with resetCause := .resetLine } ∧
    (v = .replicate 4 .high → t = { State.reset with pending := s.pending, staleReads := s.staleReads }) ∧
    t.active = defaultParams ∧ t.staged = defaultParams ∧ t.locked = false ∧
    (∀ n, t.line n = ⟨v.get n, decide (v.get n = .low), none⟩) ∧
    ∀ k, t.drive k = { DriveRec.reset 200 with posture := (t.posture k).map fun _ => ⟨0, 0, 0⟩ } ∧
      t.posture k = (allLines.find? fun n => decide (v.get n = .low)).map (⟨·, .isolate⟩) ∧
      (t.train k).state = (if allLines.any fun n => decide (v.get n = .low) then .safe else .steady .offline)

/-- An accepted RESTART (R175): the parameter sets, the lock, the uptime and the PWM lines are kept; every other record is at its reset state (R16,
R34, R70, R85, R113, R129, R148, R181), no hand-off and no raise is left of those before, and the held list and the pending sets hold
REFERENCE_LOST; every link's latches are gone, its receiver hunts, a frame in reception on another link is dropped and sets that link's flag, and its
response goes on. The lines are then sampled (R157): a train that an asserted line maps under the active map is in SAFE at the posture's values,
which raises MODE_CHANGED and begins SAFE, and hands its bases on. -/
def Obligations.RestartResets : Prop :=
  ∀ (l : Link) (tag : Byte) (s : State), s.ready l → (s.right l).config = true →
    let line? := fun k : Train =>
      allLines.find? fun n => decide ((s.line n).level = .low) && inTrains (s.active.lines.get n).trains k
    let governed := allTrains.filter fun k => (line? k).isSome
    ∃ t, exec (.restart l tag []) s = .next t ∧
      t.active = s.active ∧ t.staged = s.staged ∧ t.locked = s.locked ∧ t.uptime = s.uptime ∧ t.pwm = s.pwm ∧
      t.resetCause = .restart ∧ t.resetLow = false ∧ t.pending = s.pending ∧ t.staleReads = s.staleReads ∧
      (∀ c, t.channel c = .reset) ∧ (∀ st, t.station st = .reset) ∧ t.reference = .reset ∧
      (∀ k, t.bank k = .reset (s.params k).period ∧ t.demand k = [] ∧ t.paramsPending.get k = false ∧
        t.share k = .reset (s.params k).oaMin) ∧
      (∀ h, t.shaft h = .reset ((s.active.shafts.get h).capacity * 1000)) ∧
      t.port l = { LinkPort.reset with sending := some ⟨kindRestart ||| 0x80, tag, .ok, []⟩ } ∧
      (∀ m, m ≠ l → t.port m =
        { LinkPort.reset with sending := (s.port m).sending, dropped := decide ((s.port m).phase = .inFrame) }) ∧
      (∀ n, t.line n = ⟨(s.line n).level, decide ((s.line n).level = .low), none⟩) ∧
      (∀ k, line? k = none → t.posture k = none ∧ t.train k = .reset ∧ t.drive k = .reset (s.params k).oaMin) ∧
      (∀ k n, line? k = some n →
        let c := (s.active.lines.get n).code
        let v : OutputValues := ⟨0, (s.active.posture c).bp, (s.active.posture c).oa⟩
        t.posture k = some ⟨n, c⟩ ∧ t.train k = { TrainRec.reset with state := .safe, bases := ⟨.posture, .posture, .posture⟩ } ∧
        t.drive k = { DriveRec.reset (s.params k).oaMin with
          bypass := ⟨v.bp, v.bp⟩, oa := ⟨v.oa, v.oa⟩, posture := some v }) ∧
      t.held = [.referenceLost] ∧ t.raised = governed.flatMap (fun k => [.edge (.modeChanged k), .begins (.safe k)]) ∧
      t.handoffs = governed.flatMap (fun k =>
        [.drive k (.bases ⟨.posture, .posture, .posture⟩), .shaft k (.basis .posture false)]) ∧
      ∀ m, t.notice m =
        if s.active.routes .referenceLost m = true then ⟨[⟨.referenceLost, 1, false⟩], true⟩ else ⟨[], false⟩

/-- The uptime counter (R173): 0 at power-on and at the release of the reset line, one more at each tick, and kept by every other command,
RESTART among them. Decision records, latches and the IDENTITY record carry its value at the event that makes them. -/
def Obligations.UptimeCounts : Prop :=
  (∀ v s t, exec (.powerOn v) s = .next t ∨ exec (.resetLineReleased v) s = .next t → t.uptime = 0) ∧
  (∀ s : State, s.live → ∃ t, exec .uptimeTick s = .next t ∧ t.uptime = s.uptime + 1) ∧
  (∀ c s t, c ≠ .uptimeTick → (∀ v, c ≠ .powerOn v ∧ c ≠ .resetLineReleased v) → exec c s = .next t → t.uptime = s.uptime) ∧
  (∀ k s t, s.live → (s.bank k).evalTimer = 0 → exec (.evaluation k) s = .next t → (t.bank k).decision.map (·.uptime) = some s.uptime) ∧
  (∀ l tag s t, s.ready l →
    (exec (.latchTrains l tag []) s = .next t → (t.port l).latchTrains.map (·.uptime) = some s.uptime) ∧
    (exec (.latchReference l tag []) s = .next t → (t.port l).latchReference.map (·.uptime) = some s.uptime) ∧
    (exec (.latchShafts l tag []) s = .next t → (t.port l).latchShafts.map (·.uptime) = some s.uptime) ∧
    (exec (.readIdentity l tag []) s = .next t →
      (t.port l).sending.map (fun r => (r.data.drop 10).take 4) = some (uptimeBytes s.uptime)))

/-! Link Ports. -/

/-- The bytes of a request's frame, received one after another by a HUNTING receiver, leave the part exactly as the request command does:
answered, or dropped where the transmitter is busy (R167, R168, R169, R182). -/
def Obligations.FrameDeliversRequest : Prop :=
  ∀ (i : Instr) (l : Link) (kind tag : Byte) (s : State), requestOf? i = some (l, kind, tag) → i.wellFormed = true →
    s.live → (s.port l).phase = .hunting →
    receiveAll l (frameBytes kind tag i.payload (frameCheck kind tag i.payload)) s = exec i s

/-- The receiver (R167, R168). HUNTING, a byte other than 0xC3 does nothing and 0xC3 starts a frame; IN_FRAME, 0xC3 is an ordinary byte, a
third byte above 64 drops the frame, and a whole frame whose check differs from its CRC is dropped with no answer. -/
def Obligations.ReceiverFollowsBytes : Prop :=
  ∀ (l : Link) (b : Byte) (s : State), s.live →
    ((s.port l).phase = .hunting → b ≠ 0xC3 → exec (.byteReceived l b) s = .next s) ∧
    ((s.port l).phase = .hunting →
      exec (.byteReceived l 0xC3) s = exec (.frameStart l) s ∧
      exec (.frameStart l) s = .next (s.setPort l { s.port l with phase := .inFrame, buffer := [], interByte := true })) ∧
    ((s.port l).phase = .inFrame → (s.port l).buffer.length < 2 →
      exec (.byteReceived l b) s = .next (s.setPort l { s.port l with buffer := (s.port l).buffer ++ [b], interByte := true }) ∧
      exec (.frameStart l) s = .next (s.setPort l { s.port l with buffer := (s.port l).buffer ++ [0xC3], interByte := true })) ∧
    ((s.port l).phase = .inFrame → (s.port l).buffer.length = 2 → 64 < b.toNat →
      exec (.byteReceived l b) s = .next { s with ports := s.droppedPorts l }) ∧
    ∀ (kind tag : Byte) (payload : List Byte) (check : BitVec 16), (s.port l).phase = .hunting → payload.length ≤ 64 →
      check ≠ frameCheck kind tag payload →
      receiveAll l (frameBytes kind tag payload check) s = .next { s with ports := s.droppedPorts l }

/-- A dropped frame (R167, R168) empties the buffer, returns the receiver to HUNTING and sets the dropped-since-read flag, with no answer and no
other change: at the inter-byte timeout and a framing error of a frame in reception, at a length above 64, at a bad check or a busy
transmitter. In HUNTING the timer does not run, and a framing error sets nothing. -/
def Obligations.DroppedFrameSetsFlag : Prop :=
  ∀ (l : Link) (s : State), s.live →
    exec (.frameTooLong l) s = .next { s with ports := s.droppedPorts l } ∧
    exec (.frameRejected l) s = .next { s with ports := s.droppedPorts l } ∧
    ((s.port l).phase = .inFrame →
      exec (.interByteTimeout l) s = .next { s with ports := s.droppedPorts l } ∧
      exec (.framingError l) s = .next { s with ports := s.droppedPorts l }) ∧
    ((s.port l).phase = .hunting → exec (.interByteTimeout l) s = .next s ∧ exec (.framingError l) s = .next s)

/-- A break (R171, R181) clears the link's three latches, empties its pending set and releases its attention line; it leaves the
dropped-since-read flag, the transmitter, the other links, the held list, the demand entries and the parameter sets as they were. -/
def Obligations.BreakClearsLink : Prop :=
  ∀ (l : Link) (s : State), s.live → ∃ t, exec (.breakLine l) s = .next t ∧
    (t.port l).latchTrains = none ∧ (t.port l).latchReference = none ∧ (t.port l).latchShafts = none ∧
    (t.port l).phase = .hunting ∧ (t.port l).dropped = (s.port l).dropped ∧ (t.port l).sending = (s.port l).sending ∧
    t.notice l = ⟨[], false⟩ ∧
    (∀ m, m ≠ l → t.port m = s.port m ∧ t.notice m = s.notice m) ∧
    t = { s with ports := t.ports, notices := t.notices }

/-- A request whose kind byte names no request is answered BAD_KIND with no data and changes nothing else (R169); after the last check byte the
transmitter is idle, and nothing else changes. -/
def Obligations.UnknownKindAndIdleTransmitter : Prop :=
  ∀ (l : Link) (kind tag : Byte) (payload : List Byte) (s : State),
    (s.ready l → kindNamesRequest kind = false →
      exec (.badKind l kind tag payload) s = .next { s with ports := s.repliedPorts l kind tag .badKind [] }) ∧
    (s.live → exec (.responseSent l) s =
      .next { s with ports := s.ports.set (linkIndex l) { s.port l with sending := none } })

/-- A request that arrives while the link's transmitter still sends is dropped, whatever it asks: no block changes and no answer is sent
(R168). -/
def Obligations.BusyRequestDropped : Prop :=
  ∀ (i : Instr) (l : Link) (kind tag : Byte) (s : State), requestOf? i = some (l, kind, tag) → i.wellFormed = true → s.live →
    (s.port l).sending ≠ none → exec i s = .next { s with ports := s.droppedPorts l }

/-- Every request taken is answered on its link with its kind, the top bit set, and its tag; refused, it changes no state and starts no timer
(R169). -/
def Obligations.RefusedRequestChangesNothing : Prop :=
  ∀ (i : Instr) (l : Link) (kind tag : Byte) (s : State), requestOf? i = some (l, kind, tag) → i.wellFormed = true → s.ready l →
    ∃ t r, exec i s = .next t ∧ (t.port l).sending = some r ∧ r.kind = kind ||| 0x80 ∧ r.tag = tag ∧
      (r.status ≠ .ok → t = { s with ports := s.repliedPorts l kind tag r.status r.data })

/-! Reports, channels, stations and the reference. -/

/-- One pair of a REPORT from a link with the right over the channel (R5 to R7): a plausible value that leaves the accumulator short of N is added
and nothing else changes; an implausible one raises REPORT_REFUSED and changes nothing else. The response carries the pair's result. -/
def Obligations.ReportAccumulatesOrRefuses : Prop :=
  ∀ (l : Link) (tag : Byte) (c : Channel) (w : BitVec 16) (s : State), s.ready l → s.mayReport l c = true →
    ((s.active.channel c).low ≤ w.toInt → w.toInt ≤ (s.active.channel c).high → (s.channel c).count + 1 < (s.active.channel c).target →
      exec (.report l tag (byte c.val :: bytes16 w)) s = .next { s with
        ports := s.repliedPorts l kindReport tag .ok [0x00]
        channels := s.channels.set c
          { s.channel c with sum := (s.channel c).sum + w.toInt, count := (s.channel c).count + 1 } }) ∧
    (w.toInt < (s.active.channel c).low ∨ (s.active.channel c).high < w.toInt →
      exec (.report l tag (byte c.val :: bytes16 w)) s = .next { s with
        ports := s.repliedPorts l kindReport tag .ok [0x05]
        raised := s.raised ++ [.edge (.reportRefused c)] })

/-- The pair that brings the count to N publishes (R8): the rounded mean, FRESH, the age timer started with the active stale timeout, an empty
accumulator and the reporting link; no other channel changes. A train channel's publication reaches no other block. A station T channel's runs
the credit test of its station at the published value (R21 to R24; its effect: CreditTestCounts) and then re-decides the reference; a
station W channel's re-decides it (R12, R30). The re-decided record (R27 to R30): the usable stations, CREDITED with a FRESH T channel, in
index order; the medians; LOST with none usable or no W_OA, the lost-since-read flag set as it becomes so; and REFERENCE_LOST begins or ends
as the lost flag changes. -/
def Obligations.ReportPublishesMean : Prop :=
  ∀ (l : Link) (tag : Byte) (c : Channel) (w : BitVec 16) (s : State), s.ready l → s.mayReport l c = true →
    (s.active.channel c).low ≤ w.toInt → w.toInt ≤ (s.active.channel c).high → (s.channel c).count + 1 = (s.active.channel c).target →
    ∃ t, exec (.report l tag (byte c.val :: bytes16 w)) s = .next t ∧
      let x := roundDiv ((s.channel c).sum + w.toInt) (s.active.channel c).target
      let u := { s with channels := s.channels.set c ⟨.fresh, some x, 0, 0, startTimer (s.active.channel c).stale, some l⟩ }
      let fresh := fun d : Channel => if (u.channel d).state = .fresh then (u.channel d).published else none
      let r := t.reference
      t = { s with
        ports := s.repliedPorts l kindReport tag .ok [0x80]
        channels := u.channels, stations := t.stations, reference := t.reference, raised := t.raised } ∧
      (8 ≤ c.val → t.stations = s.stations ∧ t.reference = s.reference ∧ t.raised = s.raised) ∧
      (∀ st, c = stationTChannel st →
        let v := (u.creditTest st x).redecide
        t.stations = (u.creditTest st x).stations ∧ t.reference = v.reference ∧ t.raised = v.raised) ∧
      (∀ st, c = stationWChannel st →
        t.stations = s.stations ∧ t.reference = u.redecide.reference ∧ t.raised = u.redecide.raised) ∧
      (c.val < 8 →
        r.usable = allStations.filter (fun st => (t.station st).credit = .credited ∧ (fresh (stationTChannel st)).isSome) ∧
        r.median = lowerMedian (r.usable.filterMap fun st => (fresh (stationTChannel st)).map fun v =>
          v - lapseCorrection s.active.station.lapse (s.active.station.heights.get st)) ∧
        r.wOA = lowerMedian (allStations.filterMap fun st => fresh (stationWChannel st)) ∧
        (r.lost = true ↔ r.usable = [] ∨ r.wOA = none) ∧
        (r.lostSinceRead = true ↔ s.reference.lostSinceRead = true ∨ r.lost = true ∧ s.reference.lost = false) ∧
        ∃ ys, (ys = [] ∨ ∃ st, c = stationTChannel st ∧ ys = [.edge (.stationDiscredited st)]) ∧
          t.raised = s.raised ++ ys ++ (if r.lost = s.reference.lost then []
            else if r.lost = true then [.begins .referenceLost] else [.ends .referenceLost]))

/-- The credit test of a station at a publication `x` of its T channel (R21 to R24): the reduced temperature is stored; with no others the
deviation becomes absent and nothing is counted; otherwise the deviation from the lower-middle median of the others is stored and counted
against the discredit or the recredit count, and only a station that becomes DISCREDITED raises STATION_DISCREDITED. -/
def Obligations.CreditTestCounts : Prop :=
  ∀ (st : Station) (x : Int) (s : State),
    let r := s.station st
    let p := s.active.station
    let reduced := x - lapseCorrection p.lapse (p.heights.get st)
    (s.others st = [] → s.creditTest st x = s.setStation st { r with lastReduced := some reduced, lastDeviation := none }) ∧
    ∀ m, lowerMedian (s.others st) = some m →
      let r' : StationRec := { r with lastReduced := some reduced, lastDeviation := some |reduced - m| }
      (|reduced - m| ≤ (p.tolerance : Int) →
        (r.credit = .credited → s.creditTest st x = s.setStation st { r' with counter := 0 }) ∧
        (r.credit = .discredited → s.creditTest st x = s.setStation st
          (if r.counter + 1 = p.recredit then { r' with credit := .credited, counter := 0 }
            else { r' with counter := r.counter + 1 }))) ∧
      ((p.tolerance : Int) < |reduced - m| →
        (r.credit = .discredited → s.creditTest st x = s.setStation st { r' with counter := 0 }) ∧
        (r.credit = .credited → s.creditTest st x =
          if r.counter + 1 = p.discredit then
            (s.setStation st { r' with credit := .discredited, counter := 0 }).raise (.stationDiscredited st)
          else s.setStation st { r' with counter := r.counter + 1 }))

/-- The age timer's expiry (R10): the channel is STALE with an empty accumulator, its published value and last link kept, and CHANNEL_STALE is
raised; a train channel's reaches no other block, and a station channel's re-decides the reference, with REFERENCE_LOST begun or ended as the
lost flag changes (R12, R30). Until the timer has run nothing happens, as after a publication that restarts it (R11; the tick is the model's
choice, assumption 3). -/
def Obligations.AgeExpiryMakesStale : Prop :=
  ∀ (c : Channel) (s : State), s.live →
    ((s.channel c).age ≠ some 0 → exec (.ageTimerExpiry c) s = .next s) ∧
    ((s.channel c).age = some 0 → ∃ t, exec (.ageTimerExpiry c) s = .next t ∧
      t.channels = s.channels.set c
        { s.channel c with state := .stale, sum := 0, count := 0, age := none } ∧
      t = { s with channels := t.channels, reference := t.reference, raised := t.raised } ∧
      (8 ≤ c.val → t.reference = s.reference ∧ t.raised = s.raised ++ [.edge (.channelStale c)]) ∧
      (c.val < 8 → t.reference = { s with channels := t.channels }.decidedReference ∧
        t.raised = s.raised ++ [.edge (.channelStale c)] ++ (if t.reference.lost = s.reference.lost then []
          else if t.reference.lost = true then [.begins .referenceLost] else [.ends .referenceLost])))

/-! Evaluation. -/

/-- The evaluation event (R52 to R54, R68), once the evaluation timer has run, and nothing before (the tick is the model's choice,
assumption 3): a new decision record with the intake results and the raw results, vector, permits and lockout of this event, each of the
train's three roles with its own FRESH value or its stand-in's and the flag that tells which (R13), the timer reloaded with the active
period, the parameters-pending flag cleared, and the record handed to the Train Sequencer and the Drive Stage. Beside these only
raises of CRITERION_CHANGED are made, and none where no slot flips. -/
def Obligations.EvaluationMakesRecord : Prop :=
  ∀ (k : Train) (s : State), s.live →
    ((s.bank k).evalTimer ≠ 0 → exec (.evaluation k) s = .next s) ∧
    ((s.bank k).evalTimer = 0 → ∃ t d, exec (.evaluation k) s = .next t ∧
      t.bank k = ⟨(t.bank k).slots, (s.params k).period, some d⟩ ∧
      d.uptime = s.uptime ∧ d.wOA = s.reference.wOA ∧ d.tEXL = (s.usableValue (exhaustTChannel k)).map Prod.fst ∧
      d.tRA = (s.usableValue (returnTChannel k)).map Prod.fst ∧ d.wRA = (s.usableValue (returnWChannel k)).map Prod.fst ∧
      d.hOA = enthalpy? d.tOA d.wOA ∧ d.hRA = enthalpy? d.tRA d.wRA ∧
      (d.tOA, d.selection) = intakeTemperature s.active.station.lapse (s.params k).height s.points ∧
      (∀ c, d.vector.get c = ((t.bank k).slots.get c).asserted) ∧ (∀ c, d.raws.get c = ((t.bank k).slots.get c).lastRaw) ∧
      (∀ c, d.permits.get c = ((s.active.permits.get k).get c).holds d.vector) ∧ d.lockout = s.reference.lost ∧
      (∀ role : Channel × Option Int × Bool, role ∈ [(returnTChannel k, d.tRA, d.standInT), (returnWChannel k, d.wRA, d.standInW),
          (exhaustTChannel k, d.tEXL, d.standInE)] →
        let own := s.channel role.1
        let standIn := (s.active.channel role.1).standIn
        (∀ x, own.state = .fresh → own.published = some x → role.2 = (some x, false)) ∧
        (∀ e x, own.state ≠ .fresh → standIn = some e → (s.channel e).state = .fresh → (s.channel e).published = some x →
          role.2 = (some x, true)) ∧
        (own.state ≠ .fresh → (∀ e, standIn = some e → (s.channel e).state ≠ .fresh) → role.2 = (none, false))) ∧
      t.paramsPending.get k = false ∧
      t.handoffs = s.handoffs ++ [.decision k .criterionBank, .drive k .record] ∧
      (∀ j, j ≠ k → t.bank j = s.bank j ∧ t.paramsPending.get j = s.paramsPending.get j) ∧
      t = { s with banks := t.banks, paramsPending := t.paramsPending, handoffs := t.handoffs, raised := t.raised } ∧
      ((∀ c, ((t.bank k).slots.get c).asserted = ((s.bank k).slots.get c).asserted) → t.raised = s.raised))

/-- The candidate of an evaluation (R66, R67): the first of FREE_COOL, RECOVER_COOL, RECOVER_HEAT whose permit is TRUE and which is not locked out,
otherwise BYPASS, and never OFFLINE. -/
def Obligations.CandidateFollowsPermits : Prop :=
  ∀ (k : Train) (s : State), s.live → (s.bank k).evalTimer = 0 → ∃ t d, exec (.evaluation k) s = .next t ∧ (t.bank k).decision = some d ∧
    d.lockout = s.reference.lost ∧ d.candidate ≠ .offline ∧
    (d.lockout = false → d.permits.get 0 = true → d.candidate = .freeCool) ∧
    (d.lockout = false → d.permits.get 0 = false → d.permits.get 1 = true → d.candidate = .recoverCool) ∧
    (d.lockout = false → d.permits.get 0 = false → d.permits.get 1 = false → d.permits.get 2 = true →
      d.candidate = .recoverHeat) ∧
    (d.lockout = false → d.permits.get 0 = false → d.permits.get 1 = false → d.permits.get 2 = false → d.candidate = .bypass) ∧
    (d.lockout = true → d.permits.get 2 = true → d.candidate = .recoverHeat) ∧
    (d.lockout = true → d.permits.get 2 = false → d.candidate = .bypass)

/-- The qualification of a slot at an evaluation (R60, R61): UNAVAILABLE holds the state and the counter; an agreeing result clears the counter; a
disagreeing one counts, and at the on-count or off-count flips the state. The last raw result is that of this evaluation, and CRITERION_CHANGED
of the train is raised once for each slot that flips; the Notice Table handles each raise in an event of its own (R176; the model's form of
it, assumption 32). -/
def Obligations.EvaluationQualifiesSlots : Prop :=
  ∀ (k : Train) (s : State), s.live → (s.bank k).evalTimer = 0 → ∃ t, exec (.evaluation k) s = .next t ∧
    (∀ c : Fin 8,
      let p := (s.active.slots.get k).get c
      let r := (s.bank k).slots.get c
      let r' := (t.bank k).slots.get c
      r'.lastRaw = (s.rawResults k (s.intake k (s.effective k).d)).get c ∧
      (r'.lastRaw = .unavailable → r'.asserted = r.asserted ∧ r'.counter = r.counter) ∧
      (r'.lastRaw ≠ .unavailable → (r'.lastRaw = .isTrue ↔ r.asserted = true) → r'.asserted = r.asserted ∧ r'.counter = 0) ∧
      (r'.lastRaw ≠ .unavailable → ¬(r'.lastRaw = .isTrue ↔ r.asserted = true) →
        r.counter + 1 = (if r.asserted = true then p.offCount else p.onCount) → r'.asserted = !r.asserted ∧ r'.counter = 0) ∧
      (r'.lastRaw ≠ .unavailable → ¬(r'.lastRaw = .isTrue ↔ r.asserted = true) →
        r.counter + 1 ≠ (if r.asserted = true then p.offCount else p.onCount) →
        r'.asserted = r.asserted ∧ r'.counter = r.counter + 1)) ∧
    let flips := (List.finRange 8).countP fun c =>
      ((t.bank k).slots.get c).asserted != ((s.bank k).slots.get c).asserted
    t.raised = s.raised ++ List.replicate flips (.edge (.criterionChanged k)) ∧ t.held = s.held ∧ t.notices = s.notices

/-- The rounding of the part (R36): the only integer within half a unit of the quotient, an exact half going up; symmetric about zero only where no
half is met. -/
def Obligations.RoundingIsNearest : Prop :=
  ∀ (num den q : Int), 0 < den →
    (roundDiv num den = q ↔ 2 * den * q ≤ 2 * num + den ∧ 2 * num + den < 2 * den * (q + 1)) ∧
    (roundDiv (-num) den = -roundDiv num den ↔ ¬∃ z, 2 * num = den * (2 * z + 1))

/-- The intake temperature of an evaluation (R40 to R43), over the usable stations in index order: the lowest-indexed station at the intake's height,
otherwise the interpolation between the nearest stations below and above it, between their values, otherwise the one nearest station with
the lapse correction; each clamped to −500..600, and with no usable station absent. -/
def Obligations.IntakeTemperatureFormed : Prop :=
  ∀ (k : Train) (s : State), s.live → (s.bank k).evalTimer = 0 → s.points.Pairwise (fun x y => x.station < y.station) →
    ∃ t d, exec (.evaluation k) s = .next t ∧ (t.bank k).decision = some d ∧
      let z : Int := (s.params k).height
      let lapse := s.active.station.lapse
      let inRange := fun v : Int => -500 ≤ v ∧ v ≤ 600
      let nearestBelow := fun x : StationPoint => x ∈ s.points ∧ x.height < z ∧
        ∀ y ∈ s.points, y.height < z → y.height < x.height ∨ (y.height = x.height ∧ x.station ≤ y.station)
      let nearestAbove := fun x : StationPoint => x ∈ s.points ∧ z < x.height ∧
        ∀ y ∈ s.points, z < y.height → x.height < y.height ∨ (y.height = x.height ∧ x.station ≤ y.station)
      let extrapolated := fun (x : StationPoint) (side : Side) =>
        d.tOA = some (clamp (-500) 600 (x.t + roundDiv (lapse * (z - x.height)) 1000)) ∧
        d.selection = .extrapolated x.station side ∧ (lapse = 0 → d.tOA = some (clamp (-500) 600 x.t))
      (s.points = [] → d.tOA = none ∧ d.selection = .nothing) ∧
      (∀ v, d.tOA = some v → inRange v) ∧
      (∀ x ∈ s.points, x.height = z → (∀ y ∈ s.points, y.height = z → x.station ≤ y.station) →
        d.tOA = some (clamp (-500) 600 x.t) ∧ d.selection = .exact x.station) ∧
      (∀ lo hi, nearestBelow lo → nearestAbove hi → (∀ y ∈ s.points, y.height ≠ z) →
        let v := lo.t + roundDiv ((hi.t - lo.t) * (z - lo.height)) (hi.height - lo.height)
        d.tOA = some (clamp (-500) 600 v) ∧ d.selection = .interpolated lo.station hi.station ∧
        min lo.t hi.t ≤ v ∧ v ≤ max lo.t hi.t ∧ (inRange lo.t → inRange hi.t → inRange v)) ∧
      (∀ x, nearestBelow x → (∀ y ∈ s.points, y.height < z) → extrapolated x .below) ∧
      (∀ x, nearestAbove x → (∀ y ∈ s.points, z < y.height) → extrapolated x .above)

/-- The enthalpy formula (R46): the one rounded division of the exact numerator; over the hard ranges the numerator rises with each
argument, the corners are those of the table, and every enthalpy lies in −503..1649. -/
def Obligations.EnthalpyInRange : Prop :=
  ∀ (t w : Int), -500 ≤ t → t ≤ 600 → 0 ≤ w → w ≤ 4000 →
    enthalpy t w = (10060000 * t + w * (2501000 + 186 * t) + 5000000) / 10000000 ∧
    -503 ≤ enthalpy t w ∧ enthalpy t w ≤ 1649 ∧
    enthalpyNumerator t w < enthalpyNumerator (t + 1) w ∧ enthalpyNumerator t w < enthalpyNumerator t (w + 1) ∧
    enthalpyNumerator (-500) 0 = -5030000000 ∧ enthalpy (-500) 0 = -503 ∧
    enthalpyNumerator (-500) 4000 = 4602000000 ∧ enthalpy (-500) 4000 = 460 ∧
    enthalpyNumerator 600 0 = 6036000000 ∧ enthalpy 600 0 = 604 ∧
    enthalpyNumerator 600 4000 = 16486400000 ∧ enthalpy 600 4000 = 1649

/-! Demands. -/

/-- An accepted DEMAND (R74 to R76, R79): the link's entry for the train holds the clamped fields with a fresh timer, the other links'
entries are as they were and keep their order, every other table is unchanged, the effective entry's change alone is handed on, to the Train
Sequencer only where the fan flag, the request or the forced mode reads differently (assumption 26), and the response carries the stored
values and whether the link's entry is effective. -/
def Obligations.DemandStoresEntry : Prop :=
  ∀ (l : Link) (tag : Byte) (payload : List Byte) (f : DemandFields) (k : Train) (r : Request) (s : State), s.ready l →
    demandFields? payload = some f → f.train.toNat = k.val → s.inSet l k = true →
    demandRequest (s.right l).force f = .ok r →
    let fields : Effective := ⟨f.fan, max (-100) (min 100 f.d), r, f.fixedSpeed.map (min · 1000)⟩
    ∃ t, exec (.demand l tag payload) s = .next t ∧
      (t.demand k).filter (·.link = l) = [⟨l, fields, s.active.demandTimeout⟩] ∧
      (t.demand k).filter (·.link ≠ l) = (s.demand k).filter (·.link ≠ l) ∧
      (∀ j, j ≠ k → t.demand j = s.demand j) ∧
      (t.effective k = s.effective k → t.handoffs = s.handoffs) ∧
      (t.effective k ≠ s.effective k → t.handoffs = s.handoffs ++
        (if (t.effective k).fan ≠ (s.effective k).fan ∨ (t.effective k).request ≠ (s.effective k).request then
          [.decision k .demandTable] else []) ++ [.drive k .demand]) ∧
      t = { s with
        ports := s.repliedPorts l kindDemand tag .ok
          (s16 fields.d ++ u16? fields.fixedSpeed ++ [flagByte ((effectiveEntry? (t.demand k)).map (·.link) = some l)])
        demands := t.demands, handoffs := t.handoffs }

/-- An expiry and a WITHDRAW take the link's entry out of the train's table and leave the rest (R80, R82). Both hand on a change of the
effective entry (R79), to the Train Sequencer only where the fan flag, the request or the forced mode reads differently (assumption 26); the
expiry raises DEMAND_EXPIRED, the WITHDRAW raises nothing. Until the entry's timer has run no expiry happens, as after a DEMAND that restarts
it (R81; the tick is the model's choice, assumption 3). -/
def Obligations.DemandRemoved : Prop :=
  ∀ (l : Link) (tag : Byte) (k : Train) (s : State), s.live →
    let removed := fun t : State => t.demands = s.demands.set k ((s.demand k).filter (·.link ≠ l)) ∧
      (t.effective k = s.effective k → t.handoffs = s.handoffs) ∧
      (t.effective k ≠ s.effective k → t.handoffs = s.handoffs ++
        (if (t.effective k).fan ≠ (s.effective k).fan ∨ (t.effective k).request ≠ (s.effective k).request then
          [.decision k .demandTable] else []) ++ [.drive k .demand])
    ((∀ e ∈ s.demand k, e.link = l → e.age ≠ 0) → exec (.demandExpiry k l) s = .next s) ∧
    ((∃ e ∈ s.demand k, e.link = l ∧ e.age = 0) → ∃ t, exec (.demandExpiry k l) s = .next t ∧ removed t ∧
      t = { s with demands := t.demands, handoffs := t.handoffs, raised := s.raised ++ [.edge (.demandExpired k)] }) ∧
    ((∃ e ∈ s.demand k, e.link = l) → (s.port l).sending = none → s.inSet l k = true →
      ∃ t, exec (.withdraw l tag [byte k.val]) s = .next t ∧ removed t ∧
        t = { s with ports := s.repliedPorts l kindWithdraw tag .ok [], demands := t.demands, handoffs := t.handoffs }) ∧
    ((∀ e ∈ s.demand k, e.link ≠ l) → (s.port l).sending = none → s.inSet l k = true →
      exec (.withdraw l tag [byte k.val]) s = .next { s with ports := s.repliedPorts l kindWithdraw tag .ok [] })

/-- The effective entry of an ordered table (R77, R78): a FORCE entry of the highest priority where there is a FORCE entry, otherwise the
entry of the highest priority, and the neutral demand for no entries. -/
def Obligations.EffectiveEntrySelected : Prop :=
  ∀ (k : Train) (s : State), s.demandSound k →
    (s.demand k = [] → s.effective k = ⟨true, 0, .auto, none⟩) ∧
    ((∃ e ∈ s.demand k, e.forces = true) → ∃ e ∈ s.demand k, e.forces = true ∧ s.effective k = e.fields ∧
      ∀ x ∈ s.demand k, x.forces = true → x = e ∨ s.active.priority x.link < s.active.priority e.link) ∧
    (s.demand k ≠ [] → (∀ e ∈ s.demand k, e.forces = false) → ∃ e ∈ s.demand k, s.effective k = e.fields ∧
      ∀ x ∈ s.demand k, x = e ∨ s.active.priority x.link < s.active.priority e.link)

/-! The Train Sequencer. -/

/-- A decision whose fan is off (R94, R96), a decision in CHANGEOVER (R106) and one in HELD or SAFE. A fan-off target takes a steady train to
OFFLINE in the event of the decision, dwell or no dwell: the OFFLINE bases are handed to the Drive Stage and the Shaft Allocator (R92), the
dwell starts, a waiting target is dropped with its place in the list, no slot is asked for, and MODE_CHANGED is raised. In CHANGEOVER it
aborts the changeover to OFFLINE, clears a pending force and passes the slot on (R108, R121); a force for another mode than the to-mode sets
the pending-force flag and changes nothing else; a force for the to-mode and an AUTO target change nothing. A decision in HELD or SAFE
changes nothing. -/
def Obligations.DecisionGoesOffline : Prop :=
  ∀ (k : Train) (src : DecisionSource) (x : Handoff) (s : State), s.live → s.handoffs.find? (Handoff.isDecision k src) = some x →
    (∀ j, (s.train j).touched = .clear) →
    let h := s.shaftOf k
    let rest := s.handoffs.eraseP (Handoff.isDecision k src)
    let told := s.basesTold k ⟨.zero, .closed, .zero⟩ false
    (∀ m, (s.train k).state = .steady m → m ≠ .offline → (s.effective k).fan = false →
      ∃ t, exec (.targetDecision k src) s = .next t ∧
        (t.train k).state = .steady .offline ∧ (t.train k).bases = ⟨.zero, .closed, .zero⟩ ∧
        (t.train k).dwell = startTimer (s.params k).dwell ∧ (t.train k).waiting = none ∧
        (t.train k).lockout = (s.train k).lockout ∧ (∀ j, j ≠ k → t.train j = s.train j) ∧
        t.shafts = s.shafts.set h { s.shaft h with waitList := (s.shaft h).waitList.filter (·.train ≠ k) } ∧
        t = { s with
          trains := t.trains, shafts := t.shafts, handoffs := rest ++ told, raised := s.raised ++ [.edge (.modeChanged k)] }) ∧
    (∀ r, (s.train k).state = .changeover r →
      ((s.effective k).fan = false → s.waitersReady h k →
        ∃ t, exec (.targetDecision k src) s = .next t ∧
          (t.train k).state = .steady .offline ∧ (t.train k).bases = ⟨.zero, .closed, .zero⟩ ∧
          (t.train k).dwell = startTimer (s.params k).dwell ∧ (t.train k).pendingForce = false ∧
          (t.train k).lockout = (s.train k).lockout ∧ s.slotPassesOn t h k [.edge (.modeChanged k)] [] ∧
          (∀ y ∈ told, y ∈ t.handoffs) ∧ ((s.shaft h).waitList = [] → t.handoffs = rest ++ told) ∧
          t = { s with trains := t.trains, shafts := t.shafts, handoffs := t.handoffs, raised := t.raised }) ∧
      (∀ m, (s.effective k).fan = true → (s.effective k).request = .force m → m ≠ .offline → m ≠ r.target →
        exec (.targetDecision k src) s = .next { s with
          handoffs := rest, trains := s.trains.set k { s.train k with pendingForce := true } }) ∧
      (∀ m, (s.effective k).fan = true → (s.effective k).request = .force m → m ≠ .offline → m = r.target →
        exec (.targetDecision k src) s = .next (s.setHandoffs rest)) ∧
      ((s.effective k).fan = true → (s.effective k).request = .auto → (∀ d ∈ (s.bank k).decision, d.candidate ≠ .offline) →
        exec (.targetDecision k src) s = .next (s.setHandoffs rest))) ∧
    ((s.train k).state = .safe ∨ (∃ v, (s.train k).state = .held v) →
      exec (.targetDecision k src) s = .next (s.setHandoffs rest))

/-- A decision of a steady train (R94 to R99). With no target nothing changes. A target equal to the mode, and an AUTO target against a running
dwell, change nothing but to drop a waiting target with its place in the list (R95, R97). A change between RECOVER_HEAT and RECOVER_COOL is
made at once: the dwell restarts and a waiting target is dropped (R98). Any other target needs a changeover (R99, R101, R118, R119): a train
that waits keeps its place with the new target; with every slot of the shaft taken the train joins the tail of the wait list and stays as it
is; with a slot free it joins the tail of the holders and its changeover starts at step 1 with the step list of R103. -/
def Obligations.DecisionAsksForSlot : Prop :=
  ∀ (k : Train) (src : DecisionSource) (x : Handoff) (m : Mode) (s : State), s.live →
    s.handoffs.find? (Handoff.isDecision k src) = some x → (∀ j, (s.train j).touched = .clear) → (s.train k).state = .steady m →
    let h := s.shaftOf k
    let rest := s.handoffs.eraseP (Handoff.isDecision k src)
    let decided := exec (.targetDecision k src) s
    let unchanged := Host.Outcome.next (φ := Fault) (ρ := Refusal) (s.setHandoffs rest)
    let dropped := { s with
      handoffs := rest
      trains := s.trains.set k { s.train k with waiting := none }
      shafts := s.shafts.set h { s.shaft h with waitList := (s.shaft h).waitList.filter (·.train ≠ k) } }
    (s.target? k = none → decided = unchanged) ∧
    ∀ target force, s.target? k = some (target, force) →
      (target = m ∨ target ≠ .offline ∧ force = false ∧ (s.train k).dwell ≠ none →
        ((s.train k).waiting = none → decided = unchanged) ∧ ((s.train k).waiting ≠ none → decided = .next dropped)) ∧
      (target ≠ m → m.recovers = true → target.recovers = true → force = true ∨ (s.train k).dwell = none →
        ∃ t, decided = .next t ∧ (t.train k).state = .steady target ∧ (t.train k).bases = ⟨.recover, .closed, .min⟩ ∧
          (t.train k).dwell = startTimer (s.params k).dwell ∧ (t.train k).waiting = none ∧
          (t.train k).lockout = (s.train k).lockout ∧ (∀ j, j ≠ k → t.train j = s.train j) ∧ t.shafts = dropped.shafts ∧
          t = { s with
            trains := t.trains, shafts := t.shafts, handoffs := rest ++ s.basesTold k ⟨.recover, .closed, .min⟩ true
            raised := s.raised ++ [.edge (.modeChanged k)] }) ∧
      (stepList m target ≠ [] → force = true ∨ (s.train k).dwell = none →
        ((s.train k).waiting = some target → decided = unchanged) ∧
        (∀ w, (s.train k).waiting = some w → w ≠ target → decided = .next { s with
          handoffs := rest
          trains := s.trains.set k { s.train k with waiting := some target }
          shafts := s.shafts.set h { s.shaft h with
            waitList := (s.shaft h).waitList.map fun e => if e.train = k then ⟨k, target⟩ else e } }) ∧
        ((s.train k).waiting = none → (s.active.shafts.get h).slotLimit ≤ (s.shaft h).holders.length →
          decided = .next { s with
            handoffs := rest
            trains := s.trains.set k { s.train k with waiting := some target }
            shafts := s.shafts.set h { s.shaft h with waitList := (s.shaft h).waitList ++ [⟨k, target⟩] } }) ∧
        ((s.train k).waiting = none → (s.shaft h).holders.length < (s.active.shafts.get h).slotLimit →
          0 < (s.params k).stroke → 0 < (s.params k).spinDown →
          ∃ t r, decided = .next t ∧ (t.train k).state = .changeover r ∧
            r.source = m ∧ r.target = target ∧ r.steps = stepList m target ∧ r.index = 1 ∧
            (t.train k).dwell = none ∧ (t.train k).pendingForce = false ∧
            (∀ j, j ≠ k → t.train j = s.train j) ∧
            t.shafts = s.shafts.set h { s.shaft h with holders := (s.shaft h).holders ++ [k] } ∧
            t = { s with
              trains := t.trains, shafts := t.shafts, handoffs := t.handoffs, raised := s.raised ++ [.edge (.modeChanged k)] }))

/-- DWELL_EXPIRY (R97) stops a dwell timer that has run, takes no decision and changes nothing else; until it has run nothing happens.
UPTIME_TICK raises the uptime (R173) and takes one second off the timers that count in seconds (the model's choice, assumption 3), and
changes nothing else. -/
def Obligations.TickAndDwellExpiry : Prop :=
  ∀ (k : Train) (s : State), s.live →
    ((s.train k).dwell = some 0 →
      exec (.dwellExpiry k) s = .next { s with trains := s.trains.set k { s.train k with dwell := none } }) ∧
    ((s.train k).dwell ≠ some 0 → exec (.dwellExpiry k) s = .next s) ∧
    ∃ t, exec .uptimeTick s = .next t ∧
      (∀ c, t.channel c = { s.channel c with age := (s.channel c).age.map (· - 1) }) ∧
      (∀ j, t.bank j = { s.bank j with evalTimer := (s.bank j).evalTimer - 1 } ∧
        t.demand j = (s.demand j).map (fun e => { e with age := e.age - 1 }) ∧
        (t.train j).dwell = (s.train j).dwell.map (· - 1) ∧ (t.train j).lockout = (s.train j).lockout.map (· - 1) ∧
        (∀ r, (s.train j).state = .changeover r → (t.train j).state = .changeover { r with timer := r.timer.map (· - 1) }) ∧
        ((s.train j).state.changeover? = none → (t.train j).state = (s.train j).state) ∧
        t.train j = { s.train j with state := (t.train j).state, dwell := (t.train j).dwell, lockout := (t.train j).lockout } ∧
        t.drive j = { s.drive j with ramp := (s.drive j).ramp.map (· - 1) }) ∧
      (∀ n, t.line n = { s.line n with delay := (s.line n).delay.map (· - 1) }) ∧
      t = { s with
        uptime := s.uptime + 1, channels := t.channels, banks := t.banks, demands := t.demands, trains := t.trains
        drives := t.drives, lines := t.lines }

/-- A step timer's expiry (R104); until the timer has run nothing happens (the tick is the model's choice, assumption 3). With a damper step
next, that step begins: its basis is set, its phase is TIMING with the stroke time, and the train keeps its slot. With WHEEL_UP next (R102)
the train waits in WAIT_LOCKOUT while the restart lockout runs, and else the step completes at once with the wheel basis RECOVER. With no step
left the changeover completes (R107): the to-mode is entered, the dwell started and MODE_CHANGED raised. Without a pending force, or with one
that no longer names another mode, the slot then passes on to the wait list (R121); a force between the two recovery modes is followed at once
and the slot passes on; any other force starts a new changeover under the same slot. -/
def Obligations.StepExpiryMovesOn : Prop :=
  ∀ (k : Train) (r : Changeover) (s : State), s.live → (∀ j, (s.train j).touched = .clear) →
    (s.train k).state = .changeover r → 1 ≤ r.index →
    let h := s.shaftOf k
    let mode := fun e : Train => Raise.edge (.modeChanged e)
    let forced := if (s.train k).pendingForce then (s.effective k).request.forced? else none
    let wheelUpLast := r.steps[r.index]? = some .wheelUp ∧ r.steps.length = r.index + 1 ∧ (s.train k).lockout = none
    let last := r.phase = .timing ∧ r.timer = some 0 ∧ (r.steps.length = r.index ∨ wheelUpLast)
    (r.phase ≠ .timing ∨ r.timer ≠ some 0 → exec (.stepTimerExpiry k) s = .next s) ∧
    (∀ x, r.phase = .timing → r.timer = some 0 → r.steps[r.index]? = some x →
      x = .bypassOpen ∨ x = .bypassClose ∨ x = .oaSet → 0 < (s.params k).stroke →
      ∃ t, exec (.stepTimerExpiry k) s = .next t ∧
        (t.train k).state = .changeover { r with index := r.index + 1, phase := .timing, timer := some (s.params k).stroke } ∧
        (t.train k).bases = (match x with
          | .bypassOpen => { (s.train k).bases with bypass := .opened }
          | .bypassClose => { (s.train k).bases with bypass := .closed }
          | _ => { (s.train k).bases with oa := r.target.bases.oa }) ∧
        (∀ j, j ≠ k → t.train j = s.train j) ∧
        t = { s with trains := t.trains, handoffs := s.handoffs ++ s.basesTold k (t.train k).bases true }) ∧
    (r.phase = .timing → r.timer = some 0 → r.steps[r.index]? = some .wheelUp → (s.train k).lockout ≠ none →
      exec (.stepTimerExpiry k) s = .next { s with trains := s.trains.set k { s.train k with
        state := .changeover { r with index := r.index + 1, phase := .waitLockout, timer := none } } }) ∧
    (last → (s.train k).pendingForce = false → (s.shaft h).waitList = [] →
      ∃ t, exec (.stepTimerExpiry k) s = .next t ∧
        (t.train k).state = .steady r.target ∧ (t.train k).bases = r.target.bases ∧
        (r.target.recovers = true → (t.train k).bases = ⟨.recover, .closed, .min⟩) ∧
        (t.train k).dwell = startTimer (s.params k).dwell ∧ (t.train k).lockout = (s.train k).lockout ∧
        (∀ j, j ≠ k → t.train j = s.train j) ∧
        t.shafts = s.shafts.set h { s.shaft h with holders := (s.shaft h).holders.filter (· ≠ k) } ∧
        (r.target ≠ .offline → r.steps.length = r.index ∨ r.target.recovers = true →
          t.handoffs = s.handoffs ++ s.basesTold k r.target.bases true) ∧
        t = { s with trains := t.trains, shafts := t.shafts, handoffs := t.handoffs, raised := s.raised ++ [mode k] }) ∧
    (last → forced = none ∨ forced = some r.target → s.waitersReady h k →
      ∃ t, exec (.stepTimerExpiry k) s = .next t ∧
        (t.train k).state = .steady r.target ∧ (t.train k).bases = r.target.bases ∧ (t.train k).pendingForce = false ∧
        (t.train k).dwell = startTimer (s.params k).dwell ∧ (t.train k).lockout = (s.train k).lockout ∧
        s.slotPassesOn t h k [mode k] [] ∧
        t = { s with trains := t.trains, shafts := t.shafts, handoffs := t.handoffs, raised := t.raised }) ∧
    (∀ m, last → forced = some m → m ≠ r.target → m.recovers = true → r.target.recovers = true → s.waitersReady h k →
      ∃ t, exec (.stepTimerExpiry k) s = .next t ∧
        (t.train k).state = .steady m ∧ (t.train k).bases = m.bases ∧ (t.train k).pendingForce = false ∧
        (t.train k).dwell = startTimer (s.params k).dwell ∧ (t.train k).lockout = (s.train k).lockout ∧
        s.slotPassesOn t h k [mode k, mode k] [] ∧
        t = { s with trains := t.trains, shafts := t.shafts, handoffs := t.handoffs, raised := t.raised }) ∧
    ∀ m, last → forced = some m → stepList r.target m ≠ [] → 0 < (s.params k).stroke → 0 < (s.params k).spinDown →
      ∃ t r', exec (.stepTimerExpiry k) s = .next t ∧ (t.train k).state = .changeover r' ∧
        r'.source = r.target ∧ r'.target = m ∧ r'.steps = stepList r.target m ∧ r'.index = 1 ∧
        (t.train k).dwell = none ∧ (t.train k).pendingForce = false ∧ (t.train k).lockout = (s.train k).lockout ∧
        (∀ j, j ≠ k → t.train j = s.train j) ∧
        t = { s with trains := t.trains, handoffs := t.handoffs, raised := s.raised ++ [mode k, mode k] }

/-- A wheel-zero event at the Train Sequencer (R105, R135): the restart lockout starts with its active time and is answered to the Drive
Stage (a lockout of 0 s does not run and is answered by an expiry); a WHEEL_DOWN that waits for the wheel moves to TIMING with the spin-down
time, and a train in any other state keeps it. -/
def Obligations.WheelZeroStartsLockout : Prop :=
  ∀ (k : Train) (s : State), s.live → .wheelZero k ∈ s.handoffs → (∀ j, (s.train j).touched = .clear) →
    (∀ r, (s.train k).state = .changeover r → r.step? = some .wheelDown → r.phase = .waitWheelZero → 0 < (s.params k).spinDown) →
    exec (.wheelZeroEvent k) s = .next { s with
      trains := s.trains.set k { s.train k with
        lockout := startTimer (s.params k).restartLockout
        state := match (s.train k).state with
          | .changeover r =>
            if r.step? = some .wheelDown ∧ r.phase = .waitWheelZero then
              .changeover { r with phase := .timing, timer := some (s.params k).spinDown }
            else .changeover r
          | x => x }
      handoffs := s.handoffs.eraseP (Handoff.isWheelZero k) ++
        [.drive k (if (s.params k).restartLockout = 0 then .lockoutExpiry true else .lockoutStart)] }

/-- The restart lockout's expiry (R105), once the timer has run, and nothing before, as after a wheel-zero event that restarts it (the tick
is the model's choice, assumption 3): the timer stops and the Drive Stage is told. A train that does not wait for it changes in nothing
else; a WHEEL_UP that waits for it, the last step of its changeover, completes: with no force pending and nobody waiting the train is in its
to-mode with the wheel basis RECOVER, its bases are handed on too, and MODE_CHANGED is raised. -/
def Obligations.LockoutExpiryReleasesWheel : Prop :=
  ∀ (k : Train) (s : State), s.live → (∀ j, (s.train j).touched = .clear) →
    ((s.train k).lockout ≠ some 0 → exec (.restartLockoutExpiry k) s = .next s) ∧
    ((s.train k).lockout = some 0 → (∀ r, (s.train k).state = .changeover r → r.phase ≠ .waitLockout) →
      exec (.restartLockoutExpiry k) s = .next { s with
        trains := s.trains.set k { s.train k with lockout := none }
        handoffs := s.handoffs ++ [.drive k (.lockoutExpiry false)] }) ∧
    (∀ r, (s.train k).lockout = some 0 → (s.train k).state = .changeover r → r.phase = .waitLockout → r.step? = some .wheelUp →
      r.steps.length = r.index → 1 ≤ r.index → r.target.recovers = true → (s.train k).pendingForce = false →
      (s.shaft (s.shaftOf k)).waitList = [] →
      ∃ t, exec (.restartLockoutExpiry k) s = .next t ∧ (t.train k).state = .steady r.target ∧
        (t.train k).bases = ⟨.recover, .closed, .min⟩ ∧ (t.train k).lockout = none ∧
        (t.train k).dwell = startTimer (s.params k).dwell ∧
        k ∉ (t.shaft (s.shaftOf k)).holders ∧ (∀ j, j ≠ k → t.train j = s.train j) ∧
        t = { s with
          trains := t.trains, shafts := t.shafts, raised := s.raised ++ [.edge (.modeChanged k)]
          handoffs := s.handoffs ++ [.drive k (.lockoutExpiry false)] ++ s.basesTold k ⟨.recover, .closed, .min⟩ true })

/-- An accepted HOLD of a train that is not in SAFE puts it in HELD with the clamped values and the HOLD bases, its dwell stopped and its
place in a wait list given up (R87, R109), and the response carries the stored values; a train HELD already takes the new values, which are
handed to the Drive Stage (R133), and raises nothing (R93). In CHANGEOVER it aborts the changeover, clears a pending force and passes the slot
on (R108, R121); in SAFE it is refused TRAIN_BUSY. An accepted RELEASE returns a HELD train to BYPASS with its dwell started (R88, R110) and
changes nothing for a train in any other state. -/
def Obligations.HoldAndRelease : Prop :=
  ∀ (l : Link) (tag : Byte) (k : Train) (a b c : BitVec 16) (s : State), s.ready l → (s.right l).maintenance = true →
    s.inSet l k = true → (∀ j, (s.train j).touched = .clear) →
    let v : OutputValues := ⟨min a.toNat 1000, min b.toNat 1000, min c.toNat 1000⟩
    let payload := byte k.val :: bytes16 a ++ bytes16 b ++ bytes16 c
    let steady := (s.train k).state.steady?.isSome = true
    let told := s.basesTold k ⟨.hold, .hold, .hold⟩ false
    ((s.train k).state = .safe →
      exec (.hold l tag payload) s = .next { s with ports := s.repliedPorts l kindHold tag .trainBusy [] }) ∧
    ((s.train k).state ≠ .safe → (s.train k).state.changeover? = none →
      ∃ t, exec (.hold l tag payload) s = .next t ∧
        (t.train k).state = .held v ∧ (t.train k).bases = ⟨.hold, .hold, .hold⟩ ∧ (t.train k).lockout = (s.train k).lockout ∧
        (steady → (t.train k).dwell = none ∧ (t.train k).waiting = none) ∧
        t.shafts = (if steady then s.shafts.set (s.shaftOf k)
          { s.shaft (s.shaftOf k) with waitList := (s.shaft (s.shaftOf k)).waitList.filter (·.train ≠ k) } else s.shafts) ∧
        t.raised = (if steady then s.raised ++ [.edge (.modeChanged k)] else s.raised) ∧
        t.handoffs = (if steady then s.handoffs else s.handoffs ++ [.drive k .holdValues]) ++ told ∧
        (∀ j, j ≠ k → t.train j = s.train j) ∧
        t = { s with
          ports := s.repliedPorts l kindHold tag .ok (u16 v.ws ++ u16 v.bp ++ u16 v.oa)
          trains := t.trains, shafts := t.shafts, handoffs := t.handoffs, raised := t.raised }) ∧
    ((s.train k).state.changeover?.isSome = true → s.waitersReady (s.shaftOf k) k →
      ∃ t, exec (.hold l tag payload) s = .next t ∧
        (t.train k).state = .held v ∧ (t.train k).bases = ⟨.hold, .hold, .hold⟩ ∧ (t.train k).lockout = (s.train k).lockout ∧
        (t.train k).dwell = none ∧ (t.train k).pendingForce = false ∧
        s.slotPassesOn t (s.shaftOf k) k [.edge (.modeChanged k)] [] ∧ (∀ y ∈ told, y ∈ t.handoffs) ∧
        t = { s with
          ports := s.repliedPorts l kindHold tag .ok (u16 v.ws ++ u16 v.bp ++ u16 v.oa)
          trains := t.trains, shafts := t.shafts, handoffs := t.handoffs, raised := t.raised }) ∧
    (∀ h, (s.train k).state = .held h →
      ∃ t, exec (.release l tag [byte k.val]) s = .next t ∧
        (t.train k).state = .steady .bypass ∧ (t.train k).bases = ⟨.zero, .opened, .min⟩ ∧
        (t.train k).dwell = startTimer (s.params k).dwell ∧ (∀ j, j ≠ k → t.train j = s.train j) ∧
        t = { s with
          ports := s.repliedPorts l kindRelease tag .ok []
          trains := t.trains, handoffs := s.handoffs ++ s.basesTold k ⟨.zero, .opened, .min⟩ true
          raised := s.raised ++ [.edge (.modeChanged k)] }) ∧
    ((s.train k).state.hold? = none →
      exec (.release l tag [byte k.val]) s = .next { s with ports := s.repliedPorts l kindRelease tag .ok [] })

/-- SAFE_ENTRY (R111) takes a steady or HELD train to SAFE: the POSTURE bases, handed on, the dwell stopped, the waiting target and the place in
the wait list given up, MODE_CHANGED raised and the SAFE condition begun; a train in CHANGEOVER has it aborted, a pending force cleared and
its slot passed on (R108, R121). SAFE_EXIT (R112) takes it to BYPASS with its dwell started, raises MODE_CHANGED and ends the condition. -/
def Obligations.SafeEntryAndExit : Prop :=
  ∀ (k : Train) (s : State), s.awake → (∀ j, (s.train j).touched = .clear) →
    let rest := s.handoffs.eraseP (Handoff.isPostureNews k)
    let told := s.basesTold k ⟨.posture, .posture, .posture⟩ false
    let waitless := { s.shaft (s.shaftOf k) with waitList := (s.shaft (s.shaftOf k)).waitList.filter (·.train ≠ k) }
    (s.handoffs.find? (Handoff.isPostureNews k) = some (.postureBegins k) → (s.train k).state ≠ .safe →
      (s.train k).state.changeover? = none →
      ∃ t, exec (.safeEntry k) s = .next t ∧ (t.train k).state = .safe ∧
        (t.train k).bases = ⟨.posture, .posture, .posture⟩ ∧ (t.train k).dwell = none ∧
        (t.train k).lockout = (s.train k).lockout ∧
        ((s.train k).state.steady?.isSome = true → (t.train k).waiting = none ∧ t.shafts = s.shafts.set (s.shaftOf k) waitless) ∧
        ((s.train k).state.steady? = none → t.shafts = s.shafts) ∧ (∀ j, j ≠ k → t.train j = s.train j) ∧
        t = { s with
          trains := t.trains, shafts := t.shafts, handoffs := rest ++ told
          raised := s.raised ++ [.edge (.modeChanged k), .begins (.safe k)] }) ∧
    (s.handoffs.find? (Handoff.isPostureNews k) = some (.postureBegins k) → (s.train k).state.changeover?.isSome = true →
      s.waitersReady (s.shaftOf k) k →
      ∃ t, exec (.safeEntry k) s = .next t ∧ (t.train k).state = .safe ∧
        (t.train k).bases = ⟨.posture, .posture, .posture⟩ ∧ (t.train k).dwell = none ∧ (t.train k).pendingForce = false ∧
        (t.train k).lockout = (s.train k).lockout ∧
        s.slotPassesOn t (s.shaftOf k) k [.edge (.modeChanged k)] [.begins (.safe k)] ∧ (∀ y ∈ told, y ∈ t.handoffs) ∧
        t = { s with trains := t.trains, shafts := t.shafts, handoffs := t.handoffs, raised := t.raised }) ∧
    (s.handoffs.find? (Handoff.isPostureNews k) = some (.postureEnds k) → (s.train k).state = .safe →
      ∃ t, exec (.safeExit k) s = .next t ∧ (t.train k).state = .steady .bypass ∧
        (t.train k).bases = ⟨.zero, .opened, .min⟩ ∧ (t.train k).dwell = startTimer (s.params k).dwell ∧
        (t.train k).lockout = (s.train k).lockout ∧ (∀ j, j ≠ k → t.train j = s.train j) ∧
        t = { s with
          trains := t.trains, handoffs := rest ++ s.basesTold k ⟨.zero, .opened, .min⟩ true
          raised := s.raised ++ [.edge (.modeChanged k), .ends (.safe k)] })

/-! The Shaft Allocator and the Drive Stage. -/

/-- A hand-off at the allocator (R123 to R126): a basis hand-off stores the member's basis and standing and recomputes its shaft; an
economizer request is stored, and recomputes the shaft of an allocated member whose basis is ECON. The figures are those of R125 over the
shaft's allocated members, each of these has its min, req and grant by the case, and each grant that has changed or is new is handed to the
Drive Stage; a member that is not allocated has none of the three, and other shafts and trains keep theirs. The Drive Stage forms the
request at a change of the effective entry, OA_min + round((1000 − OA_min)·max(0, −D)/100), and hands it on where it differs from the last
(R142). -/
def Obligations.ShaftRecomputed : Prop :=
  ∀ (k : Train) (s : State), s.live →
    let h := s.shaftOf k
    let cap : Int := (s.active.shafts.get h).capacity * 1000
    let recomputed := fun (rest : List Handoff) (t : State) =>
      let asks := (t.allocatedMembers h).map t.ask
      (t.shaft h).sumReq = (asks.map fun x => x.req * x.q).sum ∧ (t.shaft h).sumMin = (asks.map fun x => x.min * x.q).sum ∧
      (t.shaft h).avail = cap - (t.shaft h).sumMin ∧
      (t.shaft h).excess = (asks.map fun x => (x.req - x.min) * x.q).sum ∧
      (t.shaft h).holders = (s.shaft h).holders ∧ (t.shaft h).waitList = (s.shaft h).waitList ∧
      ((t.shaft h).allocCase = .unconstrained ↔ ((t.shaft h).sumReq : Int) ≤ cap) ∧
      (∀ j ∈ t.allocatedMembers h, ∃ x, (t.share j).share = some x ∧ x.min = (t.ask j).min ∧ x.req = (t.ask j).req ∧
        ((t.shaft h).allocCase = .unconstrained → x.grant = x.req) ∧ ((t.shaft h).allocCase = .minimum → x.grant = x.min) ∧
        ((t.shaft h).allocCase = .proportional →
          x.grant = x.min + (x.req - x.min) * (t.shaft h).avail.toNat / (t.shaft h).excess)) ∧
      t.handoffs = rest ++ (t.allocatedMembers h).filterMap (fun j =>
        let g := (t.share j).share.map (·.grant)
        if (s.share j).share.map (·.grant) = g then none else g.map fun x => .drive j (.grant x)) ∧
      (∀ g, g ≠ h → t.shaft g = s.shaft g) ∧ (∀ j, s.shaftOf j ≠ h → t.share j = s.share j) ∧
      t = { s with shafts := t.shafts, shares := t.shares, handoffs := t.handoffs }
    (∀ b a, s.handoffs.find? (Handoff.isShaft k .sequencer) = some (.shaft k (.basis b a)) →
      ∃ t, exec (.shaftRecompute k .sequencer) s = .next t ∧
        (t.share k).basis = b ∧ (t.share k).allocated = a ∧ (t.share k).request = (s.share k).request ∧
        (a = false → (t.share k).share = none) ∧
        recomputed (s.handoffs.eraseP (Handoff.isShaft k .sequencer)) t) ∧
    (∀ v, s.handoffs.find? (Handoff.isShaft k .driveStage) = some (.shaft k (.request v)) →
      let rest := s.handoffs.eraseP (Handoff.isShaft k .driveStage)
      ((s.share k).allocated = true → (s.share k).basis = .econ →
        ∃ t, exec (.shaftRecompute k .driveStage) s = .next t ∧ (t.share k).request = v ∧ (t.share k).basis = .econ ∧
          (t.share k).allocated = true ∧ recomputed rest t) ∧
      ((s.share k).allocated = false ∨ (s.share k).basis ≠ .econ → exec (.shaftRecompute k .driveStage) s =
        .next { s with handoffs := rest, shares := s.shares.set k { s.share k with request := v } })) ∧
    (s.handoffs.find? (Handoff.isDrive k .demandTable) = some (.drive k .demand) →
      ∃ t, exec (.commandRecompute k .demandTable) s = .next t ∧
        let oaMin := (s.params k).oaMin
        let v : Int := oaMin + roundDiv ((1000 - oaMin) * max 0 (-(s.effective k).d)) 100
        (0 ≤ v → ((t.drive k).lastRequest : Int) = v) ∧
        (oaMin ≤ 1000 → -100 ≤ (s.effective k).d → oaMin ≤ v ∧ v ≤ 1000) ∧
        t.handoffs = s.handoffs.eraseP (Handoff.isDrive k .demandTable) ++
          (if (t.drive k).lastRequest = (s.drive k).lastRequest then [] else [.shaft k (.request (t.drive k).lastRequest)]) ++
          (if (t.drive k).wheel.command = (s.drive k).wheel.command then []
            else (allTrains.filter fun j => (s.params j).wheelSource = .follow ∧ (s.params j).leader = k).map (.drive · .leader)) ∧
        (∀ j, j ≠ k → t.drive j = s.drive j) ∧
        t = { s with drives := t.drives, handoffs := t.handoffs, staleReads := t.staleReads })

/-- The recomputation of a shaft (R125): the four figures over its allocated members, the case, and each member's min, req and grant, the
grant between the two. The flows granted together are at most the larger of the capacity and the sum of the minimum flows; with no allocated
member, or with every one at basis ZERO, the case is UNCONSTRAINED. -/
def Obligations.GrantsWithinCapacity : Prop :=
  ∀ (h : Shaft) (s : State),
    let t := s.recomputeShaft h
    let f := t.shaft h
    let members := s.allocatedMembers h
    let cap : Int := (s.active.shafts.get h).capacity * 1000
    let flow := fun v : Train → Nat => (members.map fun k => v k * (s.params k).q).sum
    let grant := fun k : Train => ((t.share k).share.map (·.grant)).getD 0
    f.sumReq = flow (fun k => (s.ask k).req) ∧ f.sumMin = flow (fun k => (s.ask k).min) ∧ f.avail = cap - f.sumMin ∧
    f.excess = flow (fun k => (s.ask k).req - (s.ask k).min) ∧ f.excess + f.sumMin = f.sumReq ∧
    (f.allocCase = .unconstrained ↔ (f.sumReq : Int) ≤ cap) ∧
    (f.allocCase = .minimum ↔ cap < f.sumReq ∧ (f.avail ≤ 0 ∨ f.excess = 0)) ∧
    (f.allocCase = .proportional ↔ cap < f.sumReq ∧ 0 < f.avail ∧ f.excess ≠ 0) ∧
    (f.allocCase = .proportional → f.avail < f.excess) ∧ (f.excess = 0 → cap < f.sumReq → f.avail < 0) ∧
    (∀ k ∈ members, (t.share k).share = some ⟨(s.ask k).min, (s.ask k).req, grant k⟩ ∧
      (s.ask k).min ≤ grant k ∧ grant k ≤ (s.ask k).req ∧ ((s.ask k).req ≤ 1000 → grant k ≤ 1000) ∧
      (f.allocCase = .unconstrained → grant k = (s.ask k).req) ∧ (f.allocCase = .minimum → grant k = (s.ask k).min) ∧
      (f.allocCase = .proportional →
        (grant k : Int) = (s.ask k).min + ((s.ask k).req - (s.ask k).min : Nat) * f.avail / f.excess)) ∧
    (flow grant : Int) ≤ max cap f.sumMin ∧
    (members = [] → f.sumReq = 0 ∧ f.sumMin = 0 ∧ f.excess = 0 ∧ f.avail = cap ∧ f.allocCase = .unconstrained) ∧
    ((∀ k ∈ members, (s.share k).basis = .zero) → f.allocCase = .unconstrained)

/-- The commands of a recomputation (R134, R140, R141) on each occasion that a hand-off makes (R133): a decision record, a basis hand-off, a
grant, a change of the effective entry, a lockout start or expiry, new hold values, a change of the leader's command (a posture and an APPLY:
PostureAppliedAtOnce, ApplyCopiesStagedSet). First the hand-off is stored: the bases, with the stored grant made absent under ZERO, HOLD and
POSTURE; or the grant; the economizer request is formed on a change of the effective entry alone (its value: ShaftRecomputed). Then the wheel
command is that of the first line of the table that applies, the dampers take what their bases give, and the band level is re-judged under
BAND and RECOVER (R137). No effective value of the wheel moves, the dampers are at their commands, the ramp runs exactly while the wheel is
not at its command, and a change of the wheel command is handed to the followers (R139). -/
def Obligations.CommandsFollowBases : Prop :=
  ∀ (k : Train) (o : Occasion) (s : State), s.live → s.handoffs.find? (Handoff.isDrive k o.source) = some (.drive k o) →
    ∃ t, exec (.commandRecompute k o.source) s = .next t ∧
      let d := s.drive k
      let d' := t.drive k
      let p := s.params k
      let rest := s.handoffs.eraseP (Handoff.isDrive k o.source)
      let stored : Bases × Option Nat := match o with
        | .bases b => (b, if b.oa = .min ∨ b.oa = .econ then d.grant else none)
        | .grant g => (d.bases, some g)
        | _ => (d.bases, d.grant)
      let bases := stored.1
      let values := (s.train k).state.hold?
      d'.bases = bases ∧ d'.grant = stored.2 ∧ d'.posture = d.posture ∧ (o ≠ .demand → d'.lastRequest = d.lastRequest) ∧
      d'.lockoutHold = (d.lockoutHold && (decide ((s.train k).lockout ≠ none) || rest.any (Handoff.awaitsAnswer k))) ∧
      (p.wheelSource ≠ .band ∨ bases.wheel ≠ .recover → d'.band = d.band) ∧
      (p.wheelSource = .band → bases.wheel = .recover →
        (s.usableValue p.bandChannel = none → d'.band = d.band) ∧
        ∀ x, s.usableValue p.bandChannel = some x → d'.band =
          if s.active.pool.get p.bandHigh < x.1 then some .high
          else if x.1 < s.active.pool.get p.bandLow then some .low else d.band) ∧
      (∀ v, d.posture = some v → d'.wheel.command = v.ws ∧ d'.bypass.command = v.bp ∧ d'.oa.command = v.oa) ∧
      (d.posture = none → d'.lockoutHold = true → d'.wheel.command = 0) ∧
      (d.posture = none → d'.lockoutHold = false →
        (bases.wheel = .zero → d'.wheel.command = 0) ∧
        (bases.wheel = .posture → d'.wheel.command = d.wheel.command) ∧
        (∀ v, bases.wheel = .hold → values = some v → d'.wheel.command = v.ws) ∧
        (bases.wheel = .recover →
          ((s.train k).state ≠ .steady .recoverHeat → d'.frostCap = none ∧ d'.wheel.command = s.sourceValue k d'.band) ∧
          ((s.train k).state = .steady .recoverHeat →
            let cap := frostCapOf p ((s.bank k).decision.bind (·.tEXL))
            d'.frostCap = some cap ∧ d'.wheel.command = min (s.sourceValue k d'.band) cap))) ∧
      (d.posture ≠ none ∨ d'.lockoutHold = true ∨ bases.wheel ≠ .recover → d'.frostCap = none) ∧
      (d.posture = none →
        (bases.bypass = .closed → d'.bypass.command = 0) ∧
        (bases.bypass = .opened → d'.bypass.command = 1000) ∧
        (bases.bypass = .posture → d'.bypass.command = d.bypass.command) ∧
        (∀ v, bases.bypass = .hold → values = some v → d'.bypass.command = v.bp) ∧
        (bases.oa = .zero → d'.oa.command = 0) ∧
        (bases.oa = .min ∨ bases.oa = .econ → d'.oa.command = stored.2.getD d.oa.command) ∧
        (bases.oa = .posture → d'.oa.command = d.oa.command) ∧
        (∀ v, bases.oa = .hold → values = some v → d'.oa.command = v.oa)) ∧
      d'.wheel.effective = d.wheel.effective ∧ d'.bypass.effective = d'.bypass.command ∧ d'.oa.effective = d'.oa.command ∧
      d'.ramp = (if d.wheel.effective = d'.wheel.command then none else some (d.ramp.getD 1)) ∧
      (∀ j, j ≠ k → t.drive j = s.drive j) ∧
      t = { s with
        drives := t.drives, staleReads := t.staleReads
        handoffs := rest ++ (if d'.lastRequest = d.lastRequest then [] else [.shaft k (.request d'.lastRequest)]) ++
          (if d'.wheel.command = d.wheel.command then []
            else (allTrains.filter fun j => (s.params j).wheelSource = .follow ∧ (s.params j).leader = k).map (.drive · .leader)) }

/-- The four wheel sources and the frost cap. COMPUTED (R136): WS_min + round((WS_max − WS_min)·|D|/100) with the D of the effective entry, in
WS_min..WS_max, WS_min at 0, WS_max at ±100, and the same for demands of equal size. BAND (R137): WS_max at the band level HIGH, WS_min at LOW
and while it is absent. FIXED (R138): the fixed speed of the effective entry, WS_min where it is absent. FOLLOW (R139): the leader's wheel
command. The frost cap (R140): WS_floor without an exhaust-leaving temperature, 1000 from T_frost up, WS_floor from the frost span below it
down, and between them the line from WS_floor to 1000, in WS_floor..1000. -/
def Obligations.ComputedWheelSpeed : Prop :=
  ∀ (k : Train) (band : Option BandLevel) (s : State),
    let p := s.params k
    let value := s.sourceValue k band
    (p.wheelSource = .computed → p.wsMin ≤ p.wsMax → -100 ≤ (s.effective k).d → (s.effective k).d ≤ 100 →
      let D := (s.effective k).d
      (value : Int) = p.wsMin + roundDiv (((p.wsMax : Int) - p.wsMin) * abs D) 100 ∧
      p.wsMin ≤ value ∧ value ≤ p.wsMax ∧ (D = 0 → value = p.wsMin) ∧ (abs D = 100 → value = p.wsMax) ∧
      (∀ (u : State) (b : Option BandLevel), u.params k = p → abs (u.effective k).d = abs D → u.sourceValue k b = value) ∧
      (p.wsMin = 100 → p.wsMax = 1000 → D = 35 → value = 415)) ∧
    (p.wheelSource = .band → value = if band = some .high then p.wsMax else p.wsMin) ∧
    (p.wheelSource = .fixed → (∀ v, (s.effective k).fixedSpeed = some v → value = v) ∧
      ((s.effective k).fixedSpeed = none → value = p.wsMin)) ∧
    (p.wheelSource = .follow → value = (s.drive p.leader).wheel.command) ∧
    frostCapOf p none = p.wsFloor ∧
    (∀ x, p.tFrost ≤ x → frostCapOf p (some x) = 1000) ∧
    (∀ x, x < p.tFrost → x ≤ p.tFrost - p.frostSpan → frostCapOf p (some x) = p.wsFloor) ∧
    (p.wsFloor ≤ 1000 → ∀ x, p.tFrost - p.frostSpan < x → x < p.tFrost → (frostCapOf p (some x) : Int) =
      p.wsFloor + roundDiv ((1000 - (p.wsFloor : Int)) * (x - (p.tFrost - p.frostSpan))) p.frostSpan) ∧
    (p.wsFloor ≤ 1000 → ∀ x, p.wsFloor ≤ frostCapOf p x ∧ frostCapOf p x ≤ 1000)

/-- A ramp step (R143, R144), once the ramp timer has run, and nothing before: the wheel reaches a command within RAMP, otherwise moves RAMP
toward it, and the timer runs on exactly while it is not there. A wheel brought to 0 from a non-zero value issues a wheel-zero event and is
held by the lockout hold; otherwise nothing is handed on. -/
def Obligations.RampStepMovesWheel : Prop :=
  ∀ (k : Train) (s : State), s.live → ((s.drive k).ramp ≠ some 0 → exec (.rampStep k) s = .next s) ∧
    ((s.drive k).ramp = some 0 → ∃ t, exec (.rampStep k) s = .next t ∧
      let c : Int := (s.drive k).wheel.command
      let e : Int := (s.drive k).wheel.effective
      let e' : Int := (t.drive k).wheel.effective
      (|c - e| ≤ s.active.ramp → e' = c) ∧
      ((s.active.ramp : Int) < |c - e| → e < c → e' = e + s.active.ramp) ∧
      ((s.active.ramp : Int) < |c - e| → c < e → e' = e - s.active.ramp) ∧
      (t.drive k).ramp = (if e' = c then none else some 1) ∧
      (e ≠ 0 → e' = 0 → t.handoffs = s.handoffs ++ [.wheelZero k] ∧ (t.drive k).lockoutHold = true) ∧
      (e = 0 ∨ e' ≠ 0 → t.handoffs = s.handoffs ∧ (t.drive k).lockoutHold = (s.drive k).lockoutHold) ∧
      t = { s with handoffs := t.handoffs, drives := s.drives.set k { s.drive k with
        wheel := ⟨(s.drive k).wheel.command, (t.drive k).wheel.effective⟩, ramp := (t.drive k).ramp,
        lockoutHold := (t.drive k).lockoutHold } })

/-- A posture at the Drive Stage (R145). As it begins or changes, the three commands and the three effective values are the posture's at
once and the ramp stops; as an occasion of R133 it leaves no frost cap (R140), re-judges the band level where the wheel source is BAND and
the wheel basis RECOVER (R137; with a posture held too, assumption 16), and re-tests the lockout hold (R135), which a wheel taken from
non-zero to 0 sets anew with its wheel-zero event (R144); a change of the wheel command is handed to the followers (R139). As it ends, the
dampers take what their bases give, and no effective value of the wheel moves. -/
def Obligations.PostureAppliedAtOnce : Prop :=
  ∀ (k : Train) (s : State), s.awake →
    let d := s.drive k
    let p := s.params k
    let rest := s.handoffs.eraseP (Handoff.isPosture k)
    let followers : List Handoff :=
      (allTrains.filter fun j => (s.params j).wheelSource = .follow ∧ (s.params j).leader = k).map (.drive · .leader)
    let held := d.lockoutHold && (decide ((s.train k).lockout ≠ none) || s.handoffs.any (Handoff.awaitsAnswer k))
    (∀ v, s.handoffs.find? (Handoff.isPosture k) = some (.posture k (some v)) →
      ∃ t, exec (.postureApply k) s = .next t ∧
        t.drives = s.drives.set k { d with
          wheel := ⟨v.ws, v.ws⟩, bypass := ⟨v.bp, v.bp⟩, oa := ⟨v.oa, v.oa⟩, ramp := none, posture := some v, frostCap := none
          band := (t.drive k).band
          lockoutHold := decide (d.wheel.effective ≠ 0 ∧ v.ws = 0) || held } ∧
        (p.wheelSource ≠ .band ∨ d.bases.wheel ≠ .recover → (t.drive k).band = d.band) ∧
        (p.wheelSource = .band → d.bases.wheel = .recover →
          (s.usableValue p.bandChannel = none → (t.drive k).band = d.band) ∧
          ∀ x, s.usableValue p.bandChannel = some x → (t.drive k).band =
            if s.active.pool.get p.bandHigh < x.1 then some .high
            else if x.1 < s.active.pool.get p.bandLow then some .low else d.band) ∧
        t.handoffs = rest ++ (if v.ws = d.wheel.command then [] else followers) ++
          (if d.wheel.effective ≠ 0 ∧ v.ws = 0 then [.wheelZero k] else []) ∧
        t = { s with drives := t.drives, handoffs := t.handoffs }) ∧
    (s.handoffs.find? (Handoff.isPosture k) = some (.posture k none) →
      ∃ t, exec (.postureApply k) s = .next t ∧ (t.drive k).posture = none ∧
        (t.drive k).wheel.effective = d.wheel.effective ∧ (t.drive k).lockoutHold = held ∧
        (held = false → d.bases.wheel = .posture → (t.drive k).wheel.command = d.wheel.command) ∧
        (held = true ∨ d.bases.wheel = .zero → (t.drive k).wheel.command = 0) ∧
        (d.bases.wheel ≠ .recover → (t.drive k).frostCap = none) ∧
        (d.bases.bypass = .posture → (t.drive k).bypass.effective = d.bypass.command) ∧
        (d.bases.bypass = .opened → (t.drive k).bypass.effective = 1000) ∧
        (d.bases.bypass = .closed → (t.drive k).bypass.effective = 0) ∧
        (d.bases.oa = .posture → (t.drive k).oa.effective = d.oa.command) ∧
        (d.bases.oa = .zero → (t.drive k).oa.effective = 0) ∧
        t.handoffs = rest ++ (if (t.drive k).wheel.command = d.wheel.command then [] else followers) ∧
        (∀ j, j ≠ k → t.drive j = s.drive j) ∧
        t = { s with drives := t.drives, handoffs := t.handoffs, staleReads := t.staleReads })

/-- A PWM period (R131, R146): each line is high for the first v of 1000 counts under NORMAL and for the first 1000 − v under INVERTED, v
the effective value of its output at the boundary: output 3k the wheel, 3k + 1 the bypass, 3k + 2 the outdoor-air damper of train k. -/
def Obligations.PwmTakesEffectiveValues : Prop :=
  ∀ s : State, s.live → ∃ t, exec .pwmPeriod s = .next t ∧ t = { s with pwm := t.pwm } ∧
    ∀ k : Train, ∀ o : Fin 24,
      let v := if o.val % 3 = 0 then (s.drive k).wheel.effective
        else if o.val % 3 = 1 then (s.drive k).bypass.effective else (s.drive k).oa.effective
      o.val / 3 = k.val →
      (s.active.polarity.get o = .normal → t.pwm.get o = v) ∧ (s.active.polarity.get o = .inverted → t.pwm.get o = 1000 - v)

/-! Life safety. -/

/-- The line events (R152 to R155). A HIGH line sensed low is asserted with no delay running; a LOW line sensed high keeps its assertion
while its release delay runs, and loses it at once for a delay of 0; when the delay has run its expiry ends the assertion, and before that
nothing happens. After each, every train's effective posture is that of its lowest asserted line, and only lines, effective postures and
hand-offs change. -/
def Obligations.LineEventsDecidePostures : Prop :=
  ∀ (n : Line) (s : State), s.live → (∀ m, (s.line m).sound) → (∀ k, s.posture k = s.decidedPosture k) →
    let settled := fun t : State => (∀ m, m ≠ n → t.line m = s.line m) ∧
      (∀ k, (∀ e, t.posture k = some e → (t.line e.line).asserted = true ∧ inTrains (s.active.lines.get e.line).trains k = true ∧
          e.code = (s.active.lines.get e.line).code ∧
          ∀ m, m < e.line → (t.line m).asserted = true → inTrains (s.active.lines.get m).trains k = false) ∧
        (t.posture k = none → ∀ m, (t.line m).asserted = true → inTrains (s.active.lines.get m).trains k = false) ∧
        (t.posture k = none → s.posture k ≠ none → .postureEnds k ∈ t.handoffs ∧ .posture k none ∈ t.handoffs) ∧
        (∀ e, t.posture k = some e → s.posture k = none →
          .postureBegins k ∈ t.handoffs ∧ .posture k (some (s.active.postureValues e.code)) ∈ t.handoffs)) ∧
      t = { s with lines := t.lines, postures := t.postures, handoffs := t.handoffs }
    ((s.line n).level = .high → ∃ t, exec (.lineSensedLow n) s = .next t ∧ t.line n = ⟨.low, true, none⟩ ∧ settled t) ∧
    ((s.line n).level = .low → ∃ t, exec (.lineSensedHigh n) s = .next t ∧ settled t ∧
      (0 < (s.active.lines.get n).delay → t.line n = ⟨.high, true, some (s.active.lines.get n).delay⟩) ∧
      ((s.active.lines.get n).delay = 0 → t.line n = ⟨.high, false, none⟩)) ∧
    ((s.line n).delay ≠ some 0 → exec (.releaseDelayExpiry n) s = .next s) ∧
    ((s.line n).delay = some 0 → ∃ t, exec (.releaseDelayExpiry n) s = .next t ∧ t.line n = ⟨.high, false, none⟩ ∧ settled t)

/-! The Parameter Store. -/

/-- A STAGE (R160, R182, R183), judged in order: its length, the config right, the item id, the lock and the range, each refused with its
status and no change. One that passes is answered OK: the staged item reads back as the value on the wire (a yes/no item takes 0 and 1 only,
assumption 15), every other staged item is as it was, and nothing else changes. -/
def Obligations.StageSetsOneItem : Prop :=
  ∀ (l : Link) (tag : Byte) (payload : List Byte) (g x f : Byte) (w : BitVec 16) (s : State), s.ready l →
    let refused := fun y : Status => Host.Outcome.next (φ := Fault) (ρ := Refusal)
      { s with ports := s.repliedPorts l kindStage tag y [] }
    let staging := exec (.stage l tag ([g, x, f] ++ bytes16 w)) s
    (payload.length ≠ 5 → exec (.stage l tag payload) s = refused .badLength) ∧
    ((s.right l).config = false → staging = refused .noRight) ∧
    ((s.right l).config = true → itemOfBytes? g x f = none → staging = refused .badIndex) ∧
    ∀ i, (s.right l).config = true → itemOfBytes? g x f = some i →
      (s.locked = true → i.locked = true → staging = refused .locked) ∧
      ((s.locked = true → i.locked = false) → s.staged.stage? i w = none → staging = refused .outOfRange) ∧
      ((s.locked = true → i.locked = false) → s.staged.stage? i w ≠ none →
        ∃ p, staging = .next { s with ports := s.repliedPorts l kindStage tag .ok [], staged := p } ∧
          p.wire i = w ∧ ∀ j, j ≠ i → p.wire j = s.staged.wire j)

/-- The item ids (R183): every item's three bytes name that item, and no other three bytes do. -/
def Obligations.ItemIdsRoundTrip : Prop :=
  (∀ i : Item, ∃ g x f, i.bytes = [g, x, f] ∧ itemOfBytes? g x f = some i) ∧
  ∀ (g x f : Byte) (i : Item), itemOfBytes? g x f = some i → i.bytes = [g, x, f]

/-- An APPLY (R161 to R163): refused, it answers the failing status with the item and changes nothing else. The nine checks are made in order,
each in index order, and the first that fails names its item (a FOLLOW circle by the model's reading of the first train on it, assumption
25); a set that passes them all is accepted. Accepted, the staged set is the active set, the flags of the trains whose items changed are set
beside those set already, and the uptime, the lock, the lines, the PWM lines, the latches, the held list, the decision records and every
channel's state, value and age are as they were; a criterion slot whose items changed is reset and the others keep theirs (R69); a band level
whose items or boundary values changed is made absent and judged anew (R147); and each link loses the entries of a class no longer routed to
it, gains an entry for each condition held of a level class newly routed, and keeps the entries of every other class (R179, R180). -/
def Obligations.ApplyCopiesStagedSet : Prop :=
  ∀ (l : Link) (tag : Byte) (s : State), s.ready l → (s.right l).config = true →
    let p := s.staged
    let fails := fun (x : Status) (i : Item) => s.applyFault? = some (x, i)
    let minFits := fun k => (p.train k).wsMin ≤ (p.train k).wsMax
    let floorFits := fun k => (p.train k).wsFloor ≤ (p.train k).wsMax
    let bandFits := fun k => (p.train k).wheelSource = .band → p.pool.get (p.train k).bandLow ≤ p.pool.get (p.train k).bandHigh
    let chainEnds := fun k => ∃ n ≤ 8, (p.train ((fun j => (p.train j).leader)^[n] k)).wheelSource ≠ .follow
    let standInFits := fun c => ∀ d, (p.channel c).standIn = some d →
      8 ≤ c.val ∧ channelKind d = channelKind c ∧ channelTrain d ≠ channelTrain c
    let limitsFit := fun c => (p.channel c).low ≤ (p.channel c).high
    let priorityFits := fun m => ∀ m', (linkIndex m').val < (linkIndex m).val → p.priority m ≠ p.priority m'
    let slotsFit := fun h => (s.shaft h).holders.length ≤ (p.shafts.get h).slotLimit
    let mayMove := fun k => (p.train k).shaft = s.shaftOf k ∨
      ∀ h, k ∉ (s.shaft h).holders ∧ ∀ e ∈ (s.shaft h).waitList, e.train ≠ k
    let bandKept := fun k => let a := s.params k; let b := p.train k
      a.wheelSource = b.wheelSource ∧ a.bandChannel = b.bandChannel ∧ a.bandLow = b.bandLow ∧ a.bandHigh = b.bandHigh ∧
      s.active.pool.get b.bandLow = p.pool.get b.bandLow ∧ s.active.pool.get b.bandHigh = p.pool.get b.bandHigh
    (∀ x i, s.applyFault? = some (x, i) →
      exec (.apply l tag []) s = .next { s with ports := s.repliedPorts l kindApply tag x i.bytes }) ∧
    (∀ k, ¬minFits k → (∀ j < k, minFits j) → fails .invalidSet (.train k .wsMin)) ∧
    ((∀ k, minFits k) →
      (∀ k, ¬floorFits k → (∀ j < k, floorFits j) → fails .invalidSet (.train k .wsFloor)) ∧
      ((∀ k, floorFits k) →
        (∀ k, ¬bandFits k → (∀ j < k, bandFits j) → fails .invalidSet (.train k .bandLow)) ∧
        ((∀ k, bandFits k) →
          (∀ k, ¬chainEnds k → (∀ j < k, chainEnds j) → fails .invalidSet (.train k .leader)) ∧
          ((∀ k, chainEnds k) →
            (∀ c, ¬standInFits c → (∀ d < c, standInFits d) → fails .invalidSet (.channel c .standIn)) ∧
            ((∀ c, standInFits c) →
              (∀ c, ¬limitsFit c → (∀ d < c, limitsFit d) → fails .invalidSet (.channel c .low)) ∧
              ((∀ c, limitsFit c) →
                (∀ m, ¬priorityFits m → (∀ m', (linkIndex m').val < (linkIndex m).val → priorityFits m') →
                  fails .invalidSet (.rights m .priority)) ∧
                ((∀ m, priorityFits m) →
                  (∀ h, ¬slotsFit h → (∀ g < h, slotsFit g) → fails .slotsInUse (.shaft h .slotLimit)) ∧
                  ((∀ h, slotsFit h) →
                    (∀ k, ¬mayMove k → (∀ j < k, mayMove j) → fails .trainBusy (.train k .shaft)) ∧
                    ((∀ k, mayMove k) → s.applyFault? = none))))))))) ∧
    (s.applyFault? = none → ∃ t, exec (.apply l tag []) s = .next t ∧ t.active = p ∧ t.staged = p ∧
      t.ports = s.repliedPorts l kindApply tag .ok [] ∧ t.locked = s.locked ∧ t.uptime = s.uptime ∧ t.lines = s.lines ∧
      t.pwm = s.pwm ∧ t.resetCause = s.resetCause ∧ t.pending = s.pending ∧ t.held = s.held ∧
      (∀ k, t.paramsPending.get k = (s.paramsPending.get k || s.active.itemsDiffer p k)) ∧
      (∀ k, (t.bank k).decision = (s.bank k).decision ∧ (t.bank k).evalTimer = (s.bank k).evalTimer ∧
        ∀ c, (t.bank k).slots.get c =
          if (s.active.slots.get k).get c = (p.slots.get k).get c then (s.bank k).slots.get c else ⟨false, 0, .unavailable⟩) ∧
      (∀ c, (t.channel c).state = (s.channel c).state ∧ (t.channel c).published = (s.channel c).published ∧
        (t.channel c).age = (s.channel c).age ∧ (t.channel c).lastLink = (s.channel c).lastLink) ∧
      (∀ k, ¬bandKept k →
        let b := p.train k
        ((b.wheelSource ≠ .band ∨ (s.drive k).bases.wheel ≠ .recover ∨ t.usableValue b.bandChannel = none) → (t.drive k).band = none) ∧
        (b.wheelSource = .band → (s.drive k).bases.wheel = .recover → ∀ x, t.usableValue b.bandChannel = some x → (t.drive k).band =
          if p.pool.get b.bandHigh < x.1 then some .high else if x.1 < p.pool.get b.bandLow then some .low else none)) ∧
      (∀ m, s.pendingSound m →
        (∀ e, e ∈ (t.notice m).entries ↔ p.routes e.cond.cls m = true ∧
          (e ∈ (s.notice m).entries ∨ s.active.routes e.cond.cls m = false ∧ e.cond.cls.level = true ∧ e.cond ∈ s.held ∧
            e = ⟨e.cond, 1, false⟩)) ∧
        ((t.notice m).attention = true ↔ ∃ e ∈ (t.notice m).entries, e.taken = false)))

/-- An APPLY of a staged set equal to the active set is accepted in a sound state and causes nothing but its answer (R162). -/
def Obligations.ApplyOfNoChange : Prop :=
  ∀ (l : Link) (tag : Byte) (s : State), s.sound → s.ready l → (s.right l).config = true → s.staged = s.active →
    exec (.apply l tag []) s = .next { s with ports := s.repliedPorts l kindApply tag .ok [] }

/-- A DISCARD (R164) carries no payload and needs the config right, is taken under the lock as without it, gives every staged item the value
of the active set, and changes nothing in the active set or in any block. -/
def Obligations.DiscardRestoresStagedSet : Prop :=
  ∀ (l : Link) (tag : Byte) (b : Byte) (payload : List Byte) (s : State), s.ready l →
    exec (.discard l tag (b :: payload)) s = .next { s with ports := s.repliedPorts l kindDiscard tag .badLength [] } ∧
    ((s.right l).config = false →
      exec (.discard l tag []) s = .next { s with ports := s.repliedPorts l kindDiscard tag .noRight [] }) ∧
    ((s.right l).config = true →
      exec (.discard l tag []) s = .next { s with ports := s.repliedPorts l kindDiscard tag .ok [], staged := s.active })

/-- A LOCK (R165): with the lock clear the lock is set and every locked item of the staged set has its active value while every other staged
item keeps its own; with the lock set nothing changes. Under the lock a STAGE of a locked item is refused LOCKED. -/
def Obligations.LockFreezesItems : Prop :=
  ∀ (l : Link) (tag : Byte) (i : Item) (w : BitVec 16) (s : State), s.ready l → (s.right l).config = true →
    (s.locked = true → exec (.lock l tag []) s = .next { s with ports := s.repliedPorts l kindLock tag .ok [] } ∧
      (i.locked = true → exec (.stage l tag (i.bytes ++ bytes16 w)) s =
        .next { s with ports := s.repliedPorts l kindStage tag .locked [] })) ∧
    (s.locked = false → ∃ p, exec (.lock l tag []) s = .next { s with
        ports := s.repliedPorts l kindLock tag .ok [], locked := true, staged := p } ∧
      p.wire i = if i.locked = true then s.active.wire i else s.staged.wire i)

/-! Reading. -/

/-- READ of an index or item in range is answered OK with the record (R17, R35, R71, R86, R130, R166, R172) and changes nothing but the
answer (the item-locked byte of a PARAM record: assumption 13); a READ of LINK_STATUS also clears the named link's dropped-since-read flag,
and a READ of REFERENCE the lost-since-read flag, after the record was made (R31, R172). -/
def Obligations.ReadsAnswerRecords : Prop :=
  ∀ (l m : Link) (tag : Byte) (c : Channel) (st : Station) (k : Train) (h : Shaft) (p : Fin 4) (q : Fin 3) (i : Item) (s : State),
    s.ready l →
    let answered := fun data : List Byte => Host.Outcome.next (φ := Fault) (ρ := Refusal)
      { s with ports := s.repliedPorts l kindRead tag .ok data }
    exec (.readIdentity l tag []) s = answered s.identityRecord ∧
    exec (.readChannel l tag [byte c.val]) s = answered (s.channelRecord c) ∧
    exec (.readStation l tag [byte st.val]) s = answered (s.stationRecord st) ∧
    exec (.readTrain l tag [byte k.val, byte p.val]) s = answered (s.trainRecord k p) ∧
    exec (.readDemands l tag [byte k.val]) s = answered (s.demandsRecord k) ∧
    exec (.readShaft l tag [byte h.val, byte q.val]) s = answered (s.shaftRecord h q) ∧
    exec (.readParamActive l tag i.bytes) s =
      answered (i.bytes ++ bytes16 (s.active.wire i) ++ [flagByte i.locked, flagByte s.locked, 0]) ∧
    exec (.readParamStaged l tag i.bytes) s =
      answered (i.bytes ++ bytes16 (s.staged.wire i) ++
        [flagByte i.locked, flagByte s.locked, flagByte (s.staged.wire i != s.active.wire i)]) ∧
    (∃ t, exec (.readReference l tag []) s = .next t ∧ t = { s with
      ports := s.repliedPorts l kindRead tag .ok s.referenceRecord
      reference := { s.reference with lostSinceRead := false } }) ∧
    ∃ t, exec (.readLinkStatus l tag [byte (linkIndex m).val]) s = .next t ∧ t = { s with ports := t.ports } ∧
      ∀ x, t.port x =
        { (if x = l then { (s.port l).hunt with sending := some ⟨kindRead ||| 0x80, tag, .ok, s.linkStatusRecord m⟩ } else s.port x) with
          dropped := if x = m then false else (s.port x).dropped }

/-- Every record fits a response (R182, R184): its length is that of the layout whatever the state. -/
def Obligations.RecordLengths : Prop :=
  ∀ (s : State) (l : Link) (c : Channel) (st : Station) (k : Train) (h : Shaft) (q : Fin 3),
    s.identityRecord.length = 16 ∧ (s.linkStatusRecord l).length = 25 ∧ (s.channelRecord c).length = 20 ∧
    (s.stationRecord st).length = 12 ∧ s.referenceRecord.length = 11 ∧ (s.demandsRecord k).length = 34 ∧
    (s.trainRecord k 0).length = 35 ∧ (s.trainRecord k 1).length = 27 ∧ (s.trainRecord k 2).length = 25 ∧
    (s.trainRecord k 3).length = 52 ∧ (s.shaftRecord h q).length = (if q = 0 then 48 else 52)

/-- A LATCH (R174) freezes the scope's records and the uptime on its link, answers the uptime, and changes nothing else but, for REFERENCE,
the lost-since-read flag; a READ_LATCHED of a scope the link holds answers the frozen record with the latch's uptime and changes nothing,
and of a scope it does not hold NOT_LATCHED. -/
def Obligations.LatchesFreezeRecords : Prop :=
  ∀ (l : Link) (tag : Byte) (k : Train) (p : Fin 4) (h : Shaft) (q : Fin 3) (st : Station) (s : State), s.ready l →
    (∃ x, exec (.latchTrains l tag []) s = .next { s with
        ports := s.ports.set (linkIndex l)
          { (s.port l).hunt with sending := some ⟨kindLatch ||| 0x80, tag, .ok, uptimeBytes s.uptime⟩, latchTrains := some x } } ∧
      x.uptime = s.uptime ∧ x.records.get ⟨4 * k.val + p.val, by omega⟩ = s.trainRecord k p) ∧
    (∃ x, exec (.latchReference l tag []) s = .next { s with
        ports := s.ports.set (linkIndex l)
          { (s.port l).hunt with sending := some ⟨kindLatch ||| 0x80, tag, .ok, uptimeBytes s.uptime⟩, latchReference := some x }
        reference := { s.reference with lostSinceRead := false } } ∧
      x.uptime = s.uptime ∧ x.records.get ⟨st.val, by omega⟩ = s.stationRecord st ∧ x.records.get 4 = s.referenceRecord) ∧
    (∃ x, exec (.latchShafts l tag []) s = .next { s with
        ports := s.ports.set (linkIndex l)
          { (s.port l).hunt with sending := some ⟨kindLatch ||| 0x80, tag, .ok, uptimeBytes s.uptime⟩, latchShafts := some x } } ∧
      x.uptime = s.uptime ∧ x.records.get ⟨3 * h.val + q.val, by omega⟩ = s.shaftRecord h q) ∧
    let answered := fun (x : Status) (data : List Byte) => Host.Outcome.next (φ := Fault) (ρ := Refusal)
      { s with ports := s.repliedPorts l kindReadLatched tag x data }
    (∀ x, (s.port l).latchTrains = some x → exec (.readLatched l tag [0, byte k.val, byte p.val]) s =
      answered .ok (latchedBytes x.uptime (x.records.get ⟨4 * k.val + p.val, by omega⟩))) ∧
    ((s.port l).latchTrains = none → exec (.readLatched l tag [0, byte k.val, byte p.val]) s = answered .notLatched []) ∧
    (∀ x, (s.port l).latchReference = some x →
      exec (.readLatched l tag [1, byte st.val]) s = answered .ok (latchedBytes x.uptime (x.records.get ⟨st.val, by omega⟩)) ∧
      exec (.readLatched l tag [1, 0xFF]) s = answered .ok (latchedBytes x.uptime (x.records.get 4))) ∧
    ((s.port l).latchReference = none →
      exec (.readLatched l tag [1, byte st.val]) s = answered .notLatched [] ∧
      exec (.readLatched l tag [1, 0xFF]) s = answered .notLatched []) ∧
    (∀ x, (s.port l).latchShafts = some x → exec (.readLatched l tag [2, byte h.val, byte q.val]) s =
      answered .ok (latchedBytes x.uptime (x.records.get ⟨3 * h.val + q.val, by omega⟩))) ∧
    ((s.port l).latchShafts = none → exec (.readLatched l tag [2, byte h.val, byte q.val]) s = answered .notLatched [])

/-! Notices. -/

/-- The Notice Table's own events and the three requests (R176 to R179). A notice event, which the step makes on an empty queue (assumption 32),
acts under the routing active at it: an edge raise files an entry with count 1, not taken, or raises the count of the entry there by one, up
to 255; a level that begins joins the held list and is filed with count 1, not taken; one that ends leaves the held list and its entry is
removed, taken or not; a link the class is not routed to keeps its set. TAKE and PEEK answer the first entry that is not taken; a PEEK changes
nothing, a TAKE removes an edge entry and marks a level entry taken. An ACK of a taken level entry makes it pending again. The attention line
is asserted afterwards exactly while an entry is not taken, and no other link's set changes. With no untaken entry TAKE and PEEK answer
EMPTY; an ACK of no class or of a subject outside the class's range answers BAD_INDEX. -/
def Obligations.NoticesTaken : Prop :=
  (∀ (x : Raise) (more : List Raise) (s : State), s.pending = [] → s.raised = x :: more → s.live → s.noticesSound → s.heldSound →
    let c := x.condition
    ∃ t, step s = .next t ∧ t = { s with raised := more, held := t.held, notices := t.notices } ∧
      t.held.Pairwise (fun a b => a.key < b.key) ∧
      (∀ d, d ∈ t.held ↔ (match x with
        | .edge _ => d ∈ s.held
        | .begins _ => d = c ∨ d ∈ s.held
        | .ends _ => d ≠ c ∧ d ∈ s.held)) ∧
      ∀ l, (s.active.routes c.cls l = false → t.notice l = s.notice l) ∧
        (s.active.routes c.cls l = true →
          (t.notice l).entries.Pairwise (fun a b => a.cond.key < b.cond.key) ∧
          ((t.notice l).attention = true ↔ ∃ e ∈ (t.notice l).entries, e.taken = false) ∧
          (∀ e, e.cond ≠ c → (e ∈ (t.notice l).entries ↔ e ∈ (s.notice l).entries)) ∧
          ∀ e, e.cond = c → (e ∈ (t.notice l).entries ↔ (match x with
            | .edge _ => (e = ⟨c, 1, false⟩ ∧ ∀ y ∈ (s.notice l).entries, y.cond ≠ c) ∨
                ∃ y ∈ (s.notice l).entries, y.cond = c ∧ e = { y with count := min (y.count + 1) 255 }
            | .begins _ => e = ⟨c, 1, false⟩
            | .ends _ => False)))) ∧
  ∀ (l : Link) (tag : Byte) (s : State), s.ready l → s.pendingSound l →
    (∀ e, (s.notice l).entries.find? (fun x => !x.taken) = some e →
      exec (.peek l tag []) s = .next { s with ports := s.repliedPorts l kindPeek tag .ok e.bytes } ∧
      ∃ t, exec (.take l tag []) s = .next t ∧
        (e.cond.cls.level = false → (t.notice l).entries = (s.notice l).entries.filter (fun x => x.cond ≠ e.cond)) ∧
        (e.cond.cls.level = true → { e with taken := true } ∈ (t.notice l).entries) ∧
        (e.cond.cls.level = true →
          (t.notice l).entries.map (fun x => (x.cond, x.count)) = (s.notice l).entries.map (fun x => (x.cond, x.count))) ∧
        (∀ x ∈ (s.notice l).entries, x.cond ≠ e.cond → x ∈ (t.notice l).entries) ∧
        ((t.notice l).attention = true ↔ ∃ x ∈ (t.notice l).entries, x.taken = false) ∧
        (∀ m, m ≠ l → t.notice m = s.notice m) ∧
        t = { s with ports := s.repliedPorts l kindTake tag .ok e.bytes, notices := t.notices }) ∧
    ((∀ x ∈ (s.notice l).entries, x.taken = true) →
      exec (.peek l tag []) s = .next { s with ports := s.repliedPorts l kindPeek tag .empty [] } ∧
      exec (.take l tag []) s = .next { s with ports := s.repliedPorts l kindTake tag .empty [] }) ∧
    (∀ cls subject, condition? cls subject = none →
      exec (.ack l tag [cls, subject]) s = .next { s with ports := s.repliedPorts l kindAck tag .badIndex [] }) ∧
    ∀ cls subject c, condition? cls subject = some c → ∃ t,
      exec (.ack l tag [cls, subject]) s = .next t ∧
      (∀ x ∈ (t.notice l).entries, x.cond = c → x.taken = false) ∧
      (t.notice l).entries.map (fun x => (x.cond, x.count)) = (s.notice l).entries.map (fun x => (x.cond, x.count)) ∧
      (∀ x ∈ (s.notice l).entries, x.cond ≠ c → x ∈ (t.notice l).entries) ∧
      ((t.notice l).attention = true ↔ ∃ x ∈ (t.notice l).entries, x.taken = false) ∧
      (∀ m, m ≠ l → t.notice m = s.notice m) ∧
      t = { s with ports := s.repliedPorts l kindAck tag .ok [], notices := t.notices }

/-! What every command keeps. -/

/-- The state after reset is sound. -/
def Obligations.ResetIsSound : Prop := State.reset.sound

/-- Every step of a sound state keeps the parameter sets sound: the items in range, the active set valid, the locked items frozen under the
lock (R159, R160, R165). -/
def Obligations.ParametersStaySound : Prop := ∀ s t : State, s.sound → step s = .next t → t.paramsSound

/-- Every step of a sound state keeps the pending sets in order, one entry per class and subject, each count in 1..255, each class routed,
the attention lines at their sets, and the held list exactly the conditions that hold once the Notice Table has handled what it has been told
(R176 to R181; assumption 32 for the moment of handling). -/
def Obligations.NoticesStaySound : Prop := ∀ s t : State, s.sound → step s = .next t → t.noticesSound ∧ t.heldSound

/-- Every step of a sound state keeps each channel FRESH exactly while its age timer runs and its count below N, each credit counter below
its count, at least one station CREDITED, and the reference record as a re-decision would make it (R3, R8, R10, R25 to R30). -/
def Obligations.ReferenceStaysSound : Prop :=
  ∀ s t : State, s.sound → step s = .next t → (∀ c, t.channelSound c) ∧ t.referenceSound

/-- Every step of a sound state keeps each demand table in the order of the priorities with one entry per link, each entry clamped and
backed by its link's rights (R72 to R75, R84). -/
def Obligations.DemandsStaySound : Prop := ∀ s t : State, s.sound → step s = .next t → ∀ k, t.demandSound k

/-- Every step of a sound state keeps the slots: never more holders than the limit, a train in CHANGEOVER exactly while it holds a slot of
its shaft, a waiting train exactly once in its shaft's list, and a train waiting only while every slot is taken (R101, R118, R119). -/
def Obligations.SlotsStaySound : Prop := ∀ s t : State, s.sound → step s = .next t → t.trainsSound

/-- Every step of a sound state keeps every command, effective value and PWM count in 0..1000, the dampers at their commands and each ramp
running exactly while its wheel is not at its command (R131, R143, R146). -/
def Obligations.OutputsStaySound : Prop := ∀ s t : State, s.sound → step s = .next t → t.outputsSound

/-- Every step of a sound state keeps life safety (R150, R154): each effective posture is that of the lowest asserted line; the event of a
posture change is complete when both blocks have taken their hand-offs, and every command that is an event of its own, and a notice event,
finds it complete (assumption 33); with it complete, a train is in SAFE with its outputs at the posture's values while a line that maps it is asserted. -/
def Obligations.LifeSafetyStaysSound : Prop :=
  ∀ s t : State, s.sound → step s = .next t → t.lifeSafetySound ∧ t.completePostures.lifeSafetySound ∧
    t.completePostures.settled ∧ (t.settled → t.completePostures = t) ∧
    (∀ c, beginsEvent c = true → t.awake → exec c t = exec c t.completePostures) ∧
    (t.raised ≠ [] → t.awake → idle t = idle t.completePostures) ∧
    ∀ k n, (t.line n).asserted = true → inTrains (t.active.lines.get n).trains k = true →
      (t.completePostures.train k).state = .safe ∧ ∃ e, t.posture k = some e ∧
        (t.completePostures.drive k).wheel.effective = 0 ∧
        (t.completePostures.drive k).bypass.effective = (t.active.posture e.code).bp ∧
        (t.completePostures.drive k).oa.effective = (t.active.posture e.code).oa
end

