-- ==== Sys2Proof/Laws/Vec.lean ====
section
/-! SUPPORT. Reading a table after an update. -/

namespace Sys2Proof

variable {n : Nat} {α β : Type}

@[simp] theorem Vec.get_set_self (v : Vec n α) (i : Fin n) (x : α) : (v.set i x).get i = x := by
  simp [Vec.get, Vec.set]

theorem Vec.get_set (v : Vec n α) (i j : Fin n) (x : α) : (v.set i x).get j = if i = j then x else v.get j := by
  simp [Vec.get, Vec.set, List.getElem_set, Fin.ext_iff]

theorem Vec.get_set_ne (v : Vec n α) {i j : Fin n} (h : i ≠ j) (x : α) : (v.set i x).get j = v.get j := by
  simp [Vec.get_set, h]

@[simp] theorem Vec.get_ofFn (f : Fin n → α) (i : Fin n) : (Vec.ofFn f).get i = f i := by simp [Vec.get, Vec.ofFn]

@[simp] theorem Vec.get_replicate (x : α) (i : Fin n) : (Vec.replicate n x).get i = x := by simp [Vec.get, Vec.replicate]

@[simp] theorem Vec.get_map (f : α → β) (v : Vec n α) (i : Fin n) : (v.map f).get i = f (v.get i) := by
  simp [Vec.get, Vec.map]

/-- Two tables that read alike everywhere are the same. -/
theorem Vec.ext_get {v w : Vec n α} (h : ∀ i, v.get i = w.get i) : v = w := by
  obtain ⟨xs, hx⟩ := v
  obtain ⟨ys, hy⟩ := w
  simp only [Vec.mk.injEq]
  refine List.ext_getElem (by omega) fun i h1 h2 => ?_
  exact h ⟨i, by omega⟩

@[simp] theorem Vec.set_get (v : Vec n α) (i : Fin n) : v.set i (v.get i) = v :=
  Vec.ext_get fun j => by
    rw [Vec.get_set]
    split
    · next h => rw [h]
    · rfl

end Sys2Proof
end

