-- ==== Sys2Proof/Laws/State.lean ====
section
/-! SUPPORT. One lemma per field and per record of the state for each setter: what a setter leaves as it was, and what a record reads as
after it. -/

namespace Sys2Proof.Machine

/-- The position of a link determines it. -/
theorem linkIndex_inj {l m : Link} : linkIndex l = linkIndex m ↔ l = m := by cases l <;> cases m <;> decide

@[simp] theorem mem_allLinks (l : Link) : l ∈ allLinks := by cases l <;> decide
@[simp] theorem mem_allTrains (k : Train) : k ∈ allTrains := by revert k; decide
@[simp] theorem mem_allStations (k : Station) : k ∈ allStations := by revert k; decide
@[simp] theorem mem_allShafts (k : Shaft) : k ∈ allShafts := by revert k; decide
@[simp] theorem mem_allLines (k : Line) : k ∈ allLines := by revert k; decide
@[simp] theorem mem_allChannels (k : Channel) : k ∈ allChannels := List.mem_finRange k

variable (s : State)

/-! setPort -/

@[simp] theorem setPort_pending (l : Link) (x : LinkPort) : (s.setPort l x).pending = s.pending := rfl
@[simp] theorem setPort_resetLow (l : Link) (x : LinkPort) : (s.setPort l x).resetLow = s.resetLow := rfl
@[simp] theorem setPort_resetCause (l : Link) (x : LinkPort) : (s.setPort l x).resetCause = s.resetCause := rfl
@[simp] theorem setPort_uptime (l : Link) (x : LinkPort) : (s.setPort l x).uptime = s.uptime := rfl
@[simp] theorem setPort_active (l : Link) (x : LinkPort) : (s.setPort l x).active = s.active := rfl
@[simp] theorem setPort_staged (l : Link) (x : LinkPort) : (s.setPort l x).staged = s.staged := rfl
@[simp] theorem setPort_locked (l : Link) (x : LinkPort) : (s.setPort l x).locked = s.locked := rfl
@[simp] theorem setPort_paramsPending (l : Link) (x : LinkPort) : (s.setPort l x).paramsPending = s.paramsPending := rfl
@[simp] theorem setPort_ports (l : Link) (x : LinkPort) : (s.setPort l x).ports = s.ports.set (linkIndex l) x := rfl
@[simp] theorem setPort_channels (l : Link) (x : LinkPort) : (s.setPort l x).channels = s.channels := rfl
@[simp] theorem setPort_stations (l : Link) (x : LinkPort) : (s.setPort l x).stations = s.stations := rfl
@[simp] theorem setPort_reference (l : Link) (x : LinkPort) : (s.setPort l x).reference = s.reference := rfl
@[simp] theorem setPort_banks (l : Link) (x : LinkPort) : (s.setPort l x).banks = s.banks := rfl
@[simp] theorem setPort_demands (l : Link) (x : LinkPort) : (s.setPort l x).demands = s.demands := rfl
@[simp] theorem setPort_trains (l : Link) (x : LinkPort) : (s.setPort l x).trains = s.trains := rfl
@[simp] theorem setPort_shafts (l : Link) (x : LinkPort) : (s.setPort l x).shafts = s.shafts := rfl
@[simp] theorem setPort_shares (l : Link) (x : LinkPort) : (s.setPort l x).shares = s.shares := rfl
@[simp] theorem setPort_drives (l : Link) (x : LinkPort) : (s.setPort l x).drives = s.drives := rfl
@[simp] theorem setPort_lines (l : Link) (x : LinkPort) : (s.setPort l x).lines = s.lines := rfl
@[simp] theorem setPort_postures (l : Link) (x : LinkPort) : (s.setPort l x).postures = s.postures := rfl
@[simp] theorem setPort_notices (l : Link) (x : LinkPort) : (s.setPort l x).notices = s.notices := rfl
@[simp] theorem setPort_held (l : Link) (x : LinkPort) : (s.setPort l x).held = s.held := rfl
@[simp] theorem setPort_raised (l : Link) (x : LinkPort) : (s.setPort l x).raised = s.raised := rfl
@[simp] theorem setPort_pwm (l : Link) (x : LinkPort) : (s.setPort l x).pwm = s.pwm := rfl
@[simp] theorem setPort_handoffs (l : Link) (x : LinkPort) : (s.setPort l x).handoffs = s.handoffs := rfl
@[simp] theorem setPort_staleReads (l : Link) (x : LinkPort) : (s.setPort l x).staleReads = s.staleReads := rfl
@[simp] theorem setPort_port_self (l : Link) (x : LinkPort) : (s.setPort l x).port l = x := by simp [State.port, State.setPort]
theorem setPort_port (l : Link) (x : LinkPort) (m : Link) : (s.setPort l x).port m = if l = m then x else s.port m := by
  simp [State.port, State.setPort, Vec.get_set, linkIndex_inj]
@[simp] theorem setPort_channel (l : Link) (x : LinkPort) (d : Channel) : (s.setPort l x).channel d = s.channel d := rfl
@[simp] theorem setPort_station (l : Link) (x : LinkPort) (tt : Station) : (s.setPort l x).station tt = s.station tt := rfl
@[simp] theorem setPort_bank (l : Link) (x : LinkPort) (j : Train) : (s.setPort l x).bank j = s.bank j := rfl
@[simp] theorem setPort_demand (l : Link) (x : LinkPort) (j : Train) : (s.setPort l x).demand j = s.demand j := rfl
@[simp] theorem setPort_train (l : Link) (x : LinkPort) (j : Train) : (s.setPort l x).train j = s.train j := rfl
@[simp] theorem setPort_shaft (l : Link) (x : LinkPort) (g : Shaft) : (s.setPort l x).shaft g = s.shaft g := rfl
@[simp] theorem setPort_share (l : Link) (x : LinkPort) (j : Train) : (s.setPort l x).share j = s.share j := rfl
@[simp] theorem setPort_drive (l : Link) (x : LinkPort) (j : Train) : (s.setPort l x).drive j = s.drive j := rfl
@[simp] theorem setPort_line (l : Link) (x : LinkPort) (q : Line) : (s.setPort l x).line q = s.line q := rfl
@[simp] theorem setPort_posture (l : Link) (x : LinkPort) (j : Train) : (s.setPort l x).posture j = s.posture j := rfl
@[simp] theorem setPort_notice (l : Link) (x : LinkPort) (m : Link) : (s.setPort l x).notice m = s.notice m := rfl
@[simp] theorem setPort_right (l : Link) (x : LinkPort) (m : Link) : (s.setPort l x).right m = s.right m := rfl
@[simp] theorem setPort_params (l : Link) (x : LinkPort) (j : Train) : (s.setPort l x).params j = s.params j := rfl
@[simp] theorem setPort_shaftOf (l : Link) (x : LinkPort) (j : Train) : (s.setPort l x).shaftOf j = s.shaftOf j := rfl
@[simp] theorem setPort_inSet (l : Link) (x : LinkPort) (m : Link) (j : Train) : (s.setPort l x).inSet m j = s.inSet m j := rfl

/-! setChannel -/

@[simp] theorem setChannel_pending (c : Channel) (x : ChannelRec) : (s.setChannel c x).pending = s.pending := rfl
@[simp] theorem setChannel_resetLow (c : Channel) (x : ChannelRec) : (s.setChannel c x).resetLow = s.resetLow := rfl
@[simp] theorem setChannel_resetCause (c : Channel) (x : ChannelRec) : (s.setChannel c x).resetCause = s.resetCause := rfl
@[simp] theorem setChannel_uptime (c : Channel) (x : ChannelRec) : (s.setChannel c x).uptime = s.uptime := rfl
@[simp] theorem setChannel_active (c : Channel) (x : ChannelRec) : (s.setChannel c x).active = s.active := rfl
@[simp] theorem setChannel_staged (c : Channel) (x : ChannelRec) : (s.setChannel c x).staged = s.staged := rfl
@[simp] theorem setChannel_locked (c : Channel) (x : ChannelRec) : (s.setChannel c x).locked = s.locked := rfl
@[simp] theorem setChannel_paramsPending (c : Channel) (x : ChannelRec) : (s.setChannel c x).paramsPending = s.paramsPending := rfl
@[simp] theorem setChannel_ports (c : Channel) (x : ChannelRec) : (s.setChannel c x).ports = s.ports := rfl
@[simp] theorem setChannel_channels (c : Channel) (x : ChannelRec) : (s.setChannel c x).channels = s.channels.set c x := rfl
@[simp] theorem setChannel_stations (c : Channel) (x : ChannelRec) : (s.setChannel c x).stations = s.stations := rfl
@[simp] theorem setChannel_reference (c : Channel) (x : ChannelRec) : (s.setChannel c x).reference = s.reference := rfl
@[simp] theorem setChannel_banks (c : Channel) (x : ChannelRec) : (s.setChannel c x).banks = s.banks := rfl
@[simp] theorem setChannel_demands (c : Channel) (x : ChannelRec) : (s.setChannel c x).demands = s.demands := rfl
@[simp] theorem setChannel_trains (c : Channel) (x : ChannelRec) : (s.setChannel c x).trains = s.trains := rfl
@[simp] theorem setChannel_shafts (c : Channel) (x : ChannelRec) : (s.setChannel c x).shafts = s.shafts := rfl
@[simp] theorem setChannel_shares (c : Channel) (x : ChannelRec) : (s.setChannel c x).shares = s.shares := rfl
@[simp] theorem setChannel_drives (c : Channel) (x : ChannelRec) : (s.setChannel c x).drives = s.drives := rfl
@[simp] theorem setChannel_lines (c : Channel) (x : ChannelRec) : (s.setChannel c x).lines = s.lines := rfl
@[simp] theorem setChannel_postures (c : Channel) (x : ChannelRec) : (s.setChannel c x).postures = s.postures := rfl
@[simp] theorem setChannel_notices (c : Channel) (x : ChannelRec) : (s.setChannel c x).notices = s.notices := rfl
@[simp] theorem setChannel_held (c : Channel) (x : ChannelRec) : (s.setChannel c x).held = s.held := rfl
@[simp] theorem setChannel_raised (c : Channel) (x : ChannelRec) : (s.setChannel c x).raised = s.raised := rfl
@[simp] theorem setChannel_pwm (c : Channel) (x : ChannelRec) : (s.setChannel c x).pwm = s.pwm := rfl
@[simp] theorem setChannel_handoffs (c : Channel) (x : ChannelRec) : (s.setChannel c x).handoffs = s.handoffs := rfl
@[simp] theorem setChannel_staleReads (c : Channel) (x : ChannelRec) : (s.setChannel c x).staleReads = s.staleReads := rfl
@[simp] theorem setChannel_port (c : Channel) (x : ChannelRec) (m : Link) : (s.setChannel c x).port m = s.port m := rfl
@[simp] theorem setChannel_channel_self (c : Channel) (x : ChannelRec) : (s.setChannel c x).channel c = x := by simp [State.channel, State.setChannel]
theorem setChannel_channel (c : Channel) (x : ChannelRec) (d : Channel) : (s.setChannel c x).channel d = if c = d then x else s.channel d := by
  simp [State.channel, State.setChannel, Vec.get_set]
@[simp] theorem setChannel_station (c : Channel) (x : ChannelRec) (tt : Station) : (s.setChannel c x).station tt = s.station tt := rfl
@[simp] theorem setChannel_bank (c : Channel) (x : ChannelRec) (j : Train) : (s.setChannel c x).bank j = s.bank j := rfl
@[simp] theorem setChannel_demand (c : Channel) (x : ChannelRec) (j : Train) : (s.setChannel c x).demand j = s.demand j := rfl
@[simp] theorem setChannel_train (c : Channel) (x : ChannelRec) (j : Train) : (s.setChannel c x).train j = s.train j := rfl
@[simp] theorem setChannel_shaft (c : Channel) (x : ChannelRec) (g : Shaft) : (s.setChannel c x).shaft g = s.shaft g := rfl
@[simp] theorem setChannel_share (c : Channel) (x : ChannelRec) (j : Train) : (s.setChannel c x).share j = s.share j := rfl
@[simp] theorem setChannel_drive (c : Channel) (x : ChannelRec) (j : Train) : (s.setChannel c x).drive j = s.drive j := rfl
@[simp] theorem setChannel_line (c : Channel) (x : ChannelRec) (q : Line) : (s.setChannel c x).line q = s.line q := rfl
@[simp] theorem setChannel_posture (c : Channel) (x : ChannelRec) (j : Train) : (s.setChannel c x).posture j = s.posture j := rfl
@[simp] theorem setChannel_notice (c : Channel) (x : ChannelRec) (m : Link) : (s.setChannel c x).notice m = s.notice m := rfl
@[simp] theorem setChannel_right (c : Channel) (x : ChannelRec) (m : Link) : (s.setChannel c x).right m = s.right m := rfl
@[simp] theorem setChannel_params (c : Channel) (x : ChannelRec) (j : Train) : (s.setChannel c x).params j = s.params j := rfl
@[simp] theorem setChannel_shaftOf (c : Channel) (x : ChannelRec) (j : Train) : (s.setChannel c x).shaftOf j = s.shaftOf j := rfl
@[simp] theorem setChannel_inSet (c : Channel) (x : ChannelRec) (m : Link) (j : Train) : (s.setChannel c x).inSet m j = s.inSet m j := rfl

/-! setStation -/

@[simp] theorem setStation_pending (st : Station) (x : StationRec) : (s.setStation st x).pending = s.pending := rfl
@[simp] theorem setStation_resetLow (st : Station) (x : StationRec) : (s.setStation st x).resetLow = s.resetLow := rfl
@[simp] theorem setStation_resetCause (st : Station) (x : StationRec) : (s.setStation st x).resetCause = s.resetCause := rfl
@[simp] theorem setStation_uptime (st : Station) (x : StationRec) : (s.setStation st x).uptime = s.uptime := rfl
@[simp] theorem setStation_active (st : Station) (x : StationRec) : (s.setStation st x).active = s.active := rfl
@[simp] theorem setStation_staged (st : Station) (x : StationRec) : (s.setStation st x).staged = s.staged := rfl
@[simp] theorem setStation_locked (st : Station) (x : StationRec) : (s.setStation st x).locked = s.locked := rfl
@[simp] theorem setStation_paramsPending (st : Station) (x : StationRec) : (s.setStation st x).paramsPending = s.paramsPending := rfl
@[simp] theorem setStation_ports (st : Station) (x : StationRec) : (s.setStation st x).ports = s.ports := rfl
@[simp] theorem setStation_channels (st : Station) (x : StationRec) : (s.setStation st x).channels = s.channels := rfl
@[simp] theorem setStation_stations (st : Station) (x : StationRec) : (s.setStation st x).stations = s.stations.set st x := rfl
@[simp] theorem setStation_reference (st : Station) (x : StationRec) : (s.setStation st x).reference = s.reference := rfl
@[simp] theorem setStation_banks (st : Station) (x : StationRec) : (s.setStation st x).banks = s.banks := rfl
@[simp] theorem setStation_demands (st : Station) (x : StationRec) : (s.setStation st x).demands = s.demands := rfl
@[simp] theorem setStation_trains (st : Station) (x : StationRec) : (s.setStation st x).trains = s.trains := rfl
@[simp] theorem setStation_shafts (st : Station) (x : StationRec) : (s.setStation st x).shafts = s.shafts := rfl
@[simp] theorem setStation_shares (st : Station) (x : StationRec) : (s.setStation st x).shares = s.shares := rfl
@[simp] theorem setStation_drives (st : Station) (x : StationRec) : (s.setStation st x).drives = s.drives := rfl
@[simp] theorem setStation_lines (st : Station) (x : StationRec) : (s.setStation st x).lines = s.lines := rfl
@[simp] theorem setStation_postures (st : Station) (x : StationRec) : (s.setStation st x).postures = s.postures := rfl
@[simp] theorem setStation_notices (st : Station) (x : StationRec) : (s.setStation st x).notices = s.notices := rfl
@[simp] theorem setStation_held (st : Station) (x : StationRec) : (s.setStation st x).held = s.held := rfl
@[simp] theorem setStation_raised (st : Station) (x : StationRec) : (s.setStation st x).raised = s.raised := rfl
@[simp] theorem setStation_pwm (st : Station) (x : StationRec) : (s.setStation st x).pwm = s.pwm := rfl
@[simp] theorem setStation_handoffs (st : Station) (x : StationRec) : (s.setStation st x).handoffs = s.handoffs := rfl
@[simp] theorem setStation_staleReads (st : Station) (x : StationRec) : (s.setStation st x).staleReads = s.staleReads := rfl
@[simp] theorem setStation_port (st : Station) (x : StationRec) (m : Link) : (s.setStation st x).port m = s.port m := rfl
@[simp] theorem setStation_channel (st : Station) (x : StationRec) (d : Channel) : (s.setStation st x).channel d = s.channel d := rfl
@[simp] theorem setStation_station_self (st : Station) (x : StationRec) : (s.setStation st x).station st = x := by simp [State.station, State.setStation]
theorem setStation_station (st : Station) (x : StationRec) (tt : Station) : (s.setStation st x).station tt = if st = tt then x else s.station tt := by
  simp [State.station, State.setStation, Vec.get_set]
@[simp] theorem setStation_bank (st : Station) (x : StationRec) (j : Train) : (s.setStation st x).bank j = s.bank j := rfl
@[simp] theorem setStation_demand (st : Station) (x : StationRec) (j : Train) : (s.setStation st x).demand j = s.demand j := rfl
@[simp] theorem setStation_train (st : Station) (x : StationRec) (j : Train) : (s.setStation st x).train j = s.train j := rfl
@[simp] theorem setStation_shaft (st : Station) (x : StationRec) (g : Shaft) : (s.setStation st x).shaft g = s.shaft g := rfl
@[simp] theorem setStation_share (st : Station) (x : StationRec) (j : Train) : (s.setStation st x).share j = s.share j := rfl
@[simp] theorem setStation_drive (st : Station) (x : StationRec) (j : Train) : (s.setStation st x).drive j = s.drive j := rfl
@[simp] theorem setStation_line (st : Station) (x : StationRec) (q : Line) : (s.setStation st x).line q = s.line q := rfl
@[simp] theorem setStation_posture (st : Station) (x : StationRec) (j : Train) : (s.setStation st x).posture j = s.posture j := rfl
@[simp] theorem setStation_notice (st : Station) (x : StationRec) (m : Link) : (s.setStation st x).notice m = s.notice m := rfl
@[simp] theorem setStation_right (st : Station) (x : StationRec) (m : Link) : (s.setStation st x).right m = s.right m := rfl
@[simp] theorem setStation_params (st : Station) (x : StationRec) (j : Train) : (s.setStation st x).params j = s.params j := rfl
@[simp] theorem setStation_shaftOf (st : Station) (x : StationRec) (j : Train) : (s.setStation st x).shaftOf j = s.shaftOf j := rfl
@[simp] theorem setStation_inSet (st : Station) (x : StationRec) (m : Link) (j : Train) : (s.setStation st x).inSet m j = s.inSet m j := rfl

/-! setReference -/

@[simp] theorem setReference_pending (x : ReferenceRec) : (s.setReference x).pending = s.pending := rfl
@[simp] theorem setReference_resetLow (x : ReferenceRec) : (s.setReference x).resetLow = s.resetLow := rfl
@[simp] theorem setReference_resetCause (x : ReferenceRec) : (s.setReference x).resetCause = s.resetCause := rfl
@[simp] theorem setReference_uptime (x : ReferenceRec) : (s.setReference x).uptime = s.uptime := rfl
@[simp] theorem setReference_active (x : ReferenceRec) : (s.setReference x).active = s.active := rfl
@[simp] theorem setReference_staged (x : ReferenceRec) : (s.setReference x).staged = s.staged := rfl
@[simp] theorem setReference_locked (x : ReferenceRec) : (s.setReference x).locked = s.locked := rfl
@[simp] theorem setReference_paramsPending (x : ReferenceRec) : (s.setReference x).paramsPending = s.paramsPending := rfl
@[simp] theorem setReference_ports (x : ReferenceRec) : (s.setReference x).ports = s.ports := rfl
@[simp] theorem setReference_channels (x : ReferenceRec) : (s.setReference x).channels = s.channels := rfl
@[simp] theorem setReference_stations (x : ReferenceRec) : (s.setReference x).stations = s.stations := rfl
@[simp] theorem setReference_reference (x : ReferenceRec) : (s.setReference x).reference = x := rfl
@[simp] theorem setReference_banks (x : ReferenceRec) : (s.setReference x).banks = s.banks := rfl
@[simp] theorem setReference_demands (x : ReferenceRec) : (s.setReference x).demands = s.demands := rfl
@[simp] theorem setReference_trains (x : ReferenceRec) : (s.setReference x).trains = s.trains := rfl
@[simp] theorem setReference_shafts (x : ReferenceRec) : (s.setReference x).shafts = s.shafts := rfl
@[simp] theorem setReference_shares (x : ReferenceRec) : (s.setReference x).shares = s.shares := rfl
@[simp] theorem setReference_drives (x : ReferenceRec) : (s.setReference x).drives = s.drives := rfl
@[simp] theorem setReference_lines (x : ReferenceRec) : (s.setReference x).lines = s.lines := rfl
@[simp] theorem setReference_postures (x : ReferenceRec) : (s.setReference x).postures = s.postures := rfl
@[simp] theorem setReference_notices (x : ReferenceRec) : (s.setReference x).notices = s.notices := rfl
@[simp] theorem setReference_held (x : ReferenceRec) : (s.setReference x).held = s.held := rfl
@[simp] theorem setReference_raised (x : ReferenceRec) : (s.setReference x).raised = s.raised := rfl
@[simp] theorem setReference_pwm (x : ReferenceRec) : (s.setReference x).pwm = s.pwm := rfl
@[simp] theorem setReference_handoffs (x : ReferenceRec) : (s.setReference x).handoffs = s.handoffs := rfl
@[simp] theorem setReference_staleReads (x : ReferenceRec) : (s.setReference x).staleReads = s.staleReads := rfl
@[simp] theorem setReference_port (x : ReferenceRec) (m : Link) : (s.setReference x).port m = s.port m := rfl
@[simp] theorem setReference_channel (x : ReferenceRec) (d : Channel) : (s.setReference x).channel d = s.channel d := rfl
@[simp] theorem setReference_station (x : ReferenceRec) (tt : Station) : (s.setReference x).station tt = s.station tt := rfl
@[simp] theorem setReference_bank (x : ReferenceRec) (j : Train) : (s.setReference x).bank j = s.bank j := rfl
@[simp] theorem setReference_demand (x : ReferenceRec) (j : Train) : (s.setReference x).demand j = s.demand j := rfl
@[simp] theorem setReference_train (x : ReferenceRec) (j : Train) : (s.setReference x).train j = s.train j := rfl
@[simp] theorem setReference_shaft (x : ReferenceRec) (g : Shaft) : (s.setReference x).shaft g = s.shaft g := rfl
@[simp] theorem setReference_share (x : ReferenceRec) (j : Train) : (s.setReference x).share j = s.share j := rfl
@[simp] theorem setReference_drive (x : ReferenceRec) (j : Train) : (s.setReference x).drive j = s.drive j := rfl
@[simp] theorem setReference_line (x : ReferenceRec) (q : Line) : (s.setReference x).line q = s.line q := rfl
@[simp] theorem setReference_posture (x : ReferenceRec) (j : Train) : (s.setReference x).posture j = s.posture j := rfl
@[simp] theorem setReference_notice (x : ReferenceRec) (m : Link) : (s.setReference x).notice m = s.notice m := rfl
@[simp] theorem setReference_right (x : ReferenceRec) (m : Link) : (s.setReference x).right m = s.right m := rfl
@[simp] theorem setReference_params (x : ReferenceRec) (j : Train) : (s.setReference x).params j = s.params j := rfl
@[simp] theorem setReference_shaftOf (x : ReferenceRec) (j : Train) : (s.setReference x).shaftOf j = s.shaftOf j := rfl
@[simp] theorem setReference_inSet (x : ReferenceRec) (m : Link) (j : Train) : (s.setReference x).inSet m j = s.inSet m j := rfl

/-! setBank -/

@[simp] theorem setBank_pending (k : Train) (x : BankRec) : (s.setBank k x).pending = s.pending := rfl
@[simp] theorem setBank_resetLow (k : Train) (x : BankRec) : (s.setBank k x).resetLow = s.resetLow := rfl
@[simp] theorem setBank_resetCause (k : Train) (x : BankRec) : (s.setBank k x).resetCause = s.resetCause := rfl
@[simp] theorem setBank_uptime (k : Train) (x : BankRec) : (s.setBank k x).uptime = s.uptime := rfl
@[simp] theorem setBank_active (k : Train) (x : BankRec) : (s.setBank k x).active = s.active := rfl
@[simp] theorem setBank_staged (k : Train) (x : BankRec) : (s.setBank k x).staged = s.staged := rfl
@[simp] theorem setBank_locked (k : Train) (x : BankRec) : (s.setBank k x).locked = s.locked := rfl
@[simp] theorem setBank_paramsPending (k : Train) (x : BankRec) : (s.setBank k x).paramsPending = s.paramsPending := rfl
@[simp] theorem setBank_ports (k : Train) (x : BankRec) : (s.setBank k x).ports = s.ports := rfl
@[simp] theorem setBank_channels (k : Train) (x : BankRec) : (s.setBank k x).channels = s.channels := rfl
@[simp] theorem setBank_stations (k : Train) (x : BankRec) : (s.setBank k x).stations = s.stations := rfl
@[simp] theorem setBank_reference (k : Train) (x : BankRec) : (s.setBank k x).reference = s.reference := rfl
@[simp] theorem setBank_banks (k : Train) (x : BankRec) : (s.setBank k x).banks = s.banks.set k x := rfl
@[simp] theorem setBank_demands (k : Train) (x : BankRec) : (s.setBank k x).demands = s.demands := rfl
@[simp] theorem setBank_trains (k : Train) (x : BankRec) : (s.setBank k x).trains = s.trains := rfl
@[simp] theorem setBank_shafts (k : Train) (x : BankRec) : (s.setBank k x).shafts = s.shafts := rfl
@[simp] theorem setBank_shares (k : Train) (x : BankRec) : (s.setBank k x).shares = s.shares := rfl
@[simp] theorem setBank_drives (k : Train) (x : BankRec) : (s.setBank k x).drives = s.drives := rfl
@[simp] theorem setBank_lines (k : Train) (x : BankRec) : (s.setBank k x).lines = s.lines := rfl
@[simp] theorem setBank_postures (k : Train) (x : BankRec) : (s.setBank k x).postures = s.postures := rfl
@[simp] theorem setBank_notices (k : Train) (x : BankRec) : (s.setBank k x).notices = s.notices := rfl
@[simp] theorem setBank_held (k : Train) (x : BankRec) : (s.setBank k x).held = s.held := rfl
@[simp] theorem setBank_raised (k : Train) (x : BankRec) : (s.setBank k x).raised = s.raised := rfl
@[simp] theorem setBank_pwm (k : Train) (x : BankRec) : (s.setBank k x).pwm = s.pwm := rfl
@[simp] theorem setBank_handoffs (k : Train) (x : BankRec) : (s.setBank k x).handoffs = s.handoffs := rfl
@[simp] theorem setBank_staleReads (k : Train) (x : BankRec) : (s.setBank k x).staleReads = s.staleReads := rfl
@[simp] theorem setBank_port (k : Train) (x : BankRec) (m : Link) : (s.setBank k x).port m = s.port m := rfl
@[simp] theorem setBank_channel (k : Train) (x : BankRec) (d : Channel) : (s.setBank k x).channel d = s.channel d := rfl
@[simp] theorem setBank_station (k : Train) (x : BankRec) (tt : Station) : (s.setBank k x).station tt = s.station tt := rfl
@[simp] theorem setBank_bank_self (k : Train) (x : BankRec) : (s.setBank k x).bank k = x := by simp [State.bank, State.setBank]
theorem setBank_bank (k : Train) (x : BankRec) (j : Train) : (s.setBank k x).bank j = if k = j then x else s.bank j := by
  simp [State.bank, State.setBank, Vec.get_set]
@[simp] theorem setBank_demand (k : Train) (x : BankRec) (j : Train) : (s.setBank k x).demand j = s.demand j := rfl
@[simp] theorem setBank_train (k : Train) (x : BankRec) (j : Train) : (s.setBank k x).train j = s.train j := rfl
@[simp] theorem setBank_shaft (k : Train) (x : BankRec) (g : Shaft) : (s.setBank k x).shaft g = s.shaft g := rfl
@[simp] theorem setBank_share (k : Train) (x : BankRec) (j : Train) : (s.setBank k x).share j = s.share j := rfl
@[simp] theorem setBank_drive (k : Train) (x : BankRec) (j : Train) : (s.setBank k x).drive j = s.drive j := rfl
@[simp] theorem setBank_line (k : Train) (x : BankRec) (q : Line) : (s.setBank k x).line q = s.line q := rfl
@[simp] theorem setBank_posture (k : Train) (x : BankRec) (j : Train) : (s.setBank k x).posture j = s.posture j := rfl
@[simp] theorem setBank_notice (k : Train) (x : BankRec) (m : Link) : (s.setBank k x).notice m = s.notice m := rfl
@[simp] theorem setBank_right (k : Train) (x : BankRec) (m : Link) : (s.setBank k x).right m = s.right m := rfl
@[simp] theorem setBank_params (k : Train) (x : BankRec) (j : Train) : (s.setBank k x).params j = s.params j := rfl
@[simp] theorem setBank_shaftOf (k : Train) (x : BankRec) (j : Train) : (s.setBank k x).shaftOf j = s.shaftOf j := rfl
@[simp] theorem setBank_inSet (k : Train) (x : BankRec) (m : Link) (j : Train) : (s.setBank k x).inSet m j = s.inSet m j := rfl

/-! setDemand -/

@[simp] theorem setDemand_pending (k : Train) (x : List DemandEntry) : (s.setDemand k x).pending = s.pending := rfl
@[simp] theorem setDemand_resetLow (k : Train) (x : List DemandEntry) : (s.setDemand k x).resetLow = s.resetLow := rfl
@[simp] theorem setDemand_resetCause (k : Train) (x : List DemandEntry) : (s.setDemand k x).resetCause = s.resetCause := rfl
@[simp] theorem setDemand_uptime (k : Train) (x : List DemandEntry) : (s.setDemand k x).uptime = s.uptime := rfl
@[simp] theorem setDemand_active (k : Train) (x : List DemandEntry) : (s.setDemand k x).active = s.active := rfl
@[simp] theorem setDemand_staged (k : Train) (x : List DemandEntry) : (s.setDemand k x).staged = s.staged := rfl
@[simp] theorem setDemand_locked (k : Train) (x : List DemandEntry) : (s.setDemand k x).locked = s.locked := rfl
@[simp] theorem setDemand_paramsPending (k : Train) (x : List DemandEntry) : (s.setDemand k x).paramsPending = s.paramsPending := rfl
@[simp] theorem setDemand_ports (k : Train) (x : List DemandEntry) : (s.setDemand k x).ports = s.ports := rfl
@[simp] theorem setDemand_channels (k : Train) (x : List DemandEntry) : (s.setDemand k x).channels = s.channels := rfl
@[simp] theorem setDemand_stations (k : Train) (x : List DemandEntry) : (s.setDemand k x).stations = s.stations := rfl
@[simp] theorem setDemand_reference (k : Train) (x : List DemandEntry) : (s.setDemand k x).reference = s.reference := rfl
@[simp] theorem setDemand_banks (k : Train) (x : List DemandEntry) : (s.setDemand k x).banks = s.banks := rfl
@[simp] theorem setDemand_demands (k : Train) (x : List DemandEntry) : (s.setDemand k x).demands = s.demands.set k x := rfl
@[simp] theorem setDemand_trains (k : Train) (x : List DemandEntry) : (s.setDemand k x).trains = s.trains := rfl
@[simp] theorem setDemand_shafts (k : Train) (x : List DemandEntry) : (s.setDemand k x).shafts = s.shafts := rfl
@[simp] theorem setDemand_shares (k : Train) (x : List DemandEntry) : (s.setDemand k x).shares = s.shares := rfl
@[simp] theorem setDemand_drives (k : Train) (x : List DemandEntry) : (s.setDemand k x).drives = s.drives := rfl
@[simp] theorem setDemand_lines (k : Train) (x : List DemandEntry) : (s.setDemand k x).lines = s.lines := rfl
@[simp] theorem setDemand_postures (k : Train) (x : List DemandEntry) : (s.setDemand k x).postures = s.postures := rfl
@[simp] theorem setDemand_notices (k : Train) (x : List DemandEntry) : (s.setDemand k x).notices = s.notices := rfl
@[simp] theorem setDemand_held (k : Train) (x : List DemandEntry) : (s.setDemand k x).held = s.held := rfl
@[simp] theorem setDemand_raised (k : Train) (x : List DemandEntry) : (s.setDemand k x).raised = s.raised := rfl
@[simp] theorem setDemand_pwm (k : Train) (x : List DemandEntry) : (s.setDemand k x).pwm = s.pwm := rfl
@[simp] theorem setDemand_handoffs (k : Train) (x : List DemandEntry) : (s.setDemand k x).handoffs = s.handoffs := rfl
@[simp] theorem setDemand_staleReads (k : Train) (x : List DemandEntry) : (s.setDemand k x).staleReads = s.staleReads := rfl
@[simp] theorem setDemand_port (k : Train) (x : List DemandEntry) (m : Link) : (s.setDemand k x).port m = s.port m := rfl
@[simp] theorem setDemand_channel (k : Train) (x : List DemandEntry) (d : Channel) : (s.setDemand k x).channel d = s.channel d := rfl
@[simp] theorem setDemand_station (k : Train) (x : List DemandEntry) (tt : Station) : (s.setDemand k x).station tt = s.station tt := rfl
@[simp] theorem setDemand_bank (k : Train) (x : List DemandEntry) (j : Train) : (s.setDemand k x).bank j = s.bank j := rfl
@[simp] theorem setDemand_demand_self (k : Train) (x : List DemandEntry) : (s.setDemand k x).demand k = x := by simp [State.demand, State.setDemand]
theorem setDemand_demand (k : Train) (x : List DemandEntry) (j : Train) : (s.setDemand k x).demand j = if k = j then x else s.demand j := by
  simp [State.demand, State.setDemand, Vec.get_set]
@[simp] theorem setDemand_train (k : Train) (x : List DemandEntry) (j : Train) : (s.setDemand k x).train j = s.train j := rfl
@[simp] theorem setDemand_shaft (k : Train) (x : List DemandEntry) (g : Shaft) : (s.setDemand k x).shaft g = s.shaft g := rfl
@[simp] theorem setDemand_share (k : Train) (x : List DemandEntry) (j : Train) : (s.setDemand k x).share j = s.share j := rfl
@[simp] theorem setDemand_drive (k : Train) (x : List DemandEntry) (j : Train) : (s.setDemand k x).drive j = s.drive j := rfl
@[simp] theorem setDemand_line (k : Train) (x : List DemandEntry) (q : Line) : (s.setDemand k x).line q = s.line q := rfl
@[simp] theorem setDemand_posture (k : Train) (x : List DemandEntry) (j : Train) : (s.setDemand k x).posture j = s.posture j := rfl
@[simp] theorem setDemand_notice (k : Train) (x : List DemandEntry) (m : Link) : (s.setDemand k x).notice m = s.notice m := rfl
@[simp] theorem setDemand_right (k : Train) (x : List DemandEntry) (m : Link) : (s.setDemand k x).right m = s.right m := rfl
@[simp] theorem setDemand_params (k : Train) (x : List DemandEntry) (j : Train) : (s.setDemand k x).params j = s.params j := rfl
@[simp] theorem setDemand_shaftOf (k : Train) (x : List DemandEntry) (j : Train) : (s.setDemand k x).shaftOf j = s.shaftOf j := rfl
@[simp] theorem setDemand_inSet (k : Train) (x : List DemandEntry) (m : Link) (j : Train) : (s.setDemand k x).inSet m j = s.inSet m j := rfl

/-! setTrain -/

@[simp] theorem setTrain_pending (k : Train) (x : TrainRec) : (s.setTrain k x).pending = s.pending := rfl
@[simp] theorem setTrain_resetLow (k : Train) (x : TrainRec) : (s.setTrain k x).resetLow = s.resetLow := rfl
@[simp] theorem setTrain_resetCause (k : Train) (x : TrainRec) : (s.setTrain k x).resetCause = s.resetCause := rfl
@[simp] theorem setTrain_uptime (k : Train) (x : TrainRec) : (s.setTrain k x).uptime = s.uptime := rfl
@[simp] theorem setTrain_active (k : Train) (x : TrainRec) : (s.setTrain k x).active = s.active := rfl
@[simp] theorem setTrain_staged (k : Train) (x : TrainRec) : (s.setTrain k x).staged = s.staged := rfl
@[simp] theorem setTrain_locked (k : Train) (x : TrainRec) : (s.setTrain k x).locked = s.locked := rfl
@[simp] theorem setTrain_paramsPending (k : Train) (x : TrainRec) : (s.setTrain k x).paramsPending = s.paramsPending := rfl
@[simp] theorem setTrain_ports (k : Train) (x : TrainRec) : (s.setTrain k x).ports = s.ports := rfl
@[simp] theorem setTrain_channels (k : Train) (x : TrainRec) : (s.setTrain k x).channels = s.channels := rfl
@[simp] theorem setTrain_stations (k : Train) (x : TrainRec) : (s.setTrain k x).stations = s.stations := rfl
@[simp] theorem setTrain_reference (k : Train) (x : TrainRec) : (s.setTrain k x).reference = s.reference := rfl
@[simp] theorem setTrain_banks (k : Train) (x : TrainRec) : (s.setTrain k x).banks = s.banks := rfl
@[simp] theorem setTrain_demands (k : Train) (x : TrainRec) : (s.setTrain k x).demands = s.demands := rfl
@[simp] theorem setTrain_trains (k : Train) (x : TrainRec) : (s.setTrain k x).trains = s.trains.set k x := rfl
@[simp] theorem setTrain_shafts (k : Train) (x : TrainRec) : (s.setTrain k x).shafts = s.shafts := rfl
@[simp] theorem setTrain_shares (k : Train) (x : TrainRec) : (s.setTrain k x).shares = s.shares := rfl
@[simp] theorem setTrain_drives (k : Train) (x : TrainRec) : (s.setTrain k x).drives = s.drives := rfl
@[simp] theorem setTrain_lines (k : Train) (x : TrainRec) : (s.setTrain k x).lines = s.lines := rfl
@[simp] theorem setTrain_postures (k : Train) (x : TrainRec) : (s.setTrain k x).postures = s.postures := rfl
@[simp] theorem setTrain_notices (k : Train) (x : TrainRec) : (s.setTrain k x).notices = s.notices := rfl
@[simp] theorem setTrain_held (k : Train) (x : TrainRec) : (s.setTrain k x).held = s.held := rfl
@[simp] theorem setTrain_raised (k : Train) (x : TrainRec) : (s.setTrain k x).raised = s.raised := rfl
@[simp] theorem setTrain_pwm (k : Train) (x : TrainRec) : (s.setTrain k x).pwm = s.pwm := rfl
@[simp] theorem setTrain_handoffs (k : Train) (x : TrainRec) : (s.setTrain k x).handoffs = s.handoffs := rfl
@[simp] theorem setTrain_staleReads (k : Train) (x : TrainRec) : (s.setTrain k x).staleReads = s.staleReads := rfl
@[simp] theorem setTrain_port (k : Train) (x : TrainRec) (m : Link) : (s.setTrain k x).port m = s.port m := rfl
@[simp] theorem setTrain_channel (k : Train) (x : TrainRec) (d : Channel) : (s.setTrain k x).channel d = s.channel d := rfl
@[simp] theorem setTrain_station (k : Train) (x : TrainRec) (tt : Station) : (s.setTrain k x).station tt = s.station tt := rfl
@[simp] theorem setTrain_bank (k : Train) (x : TrainRec) (j : Train) : (s.setTrain k x).bank j = s.bank j := rfl
@[simp] theorem setTrain_demand (k : Train) (x : TrainRec) (j : Train) : (s.setTrain k x).demand j = s.demand j := rfl
@[simp] theorem setTrain_train_self (k : Train) (x : TrainRec) : (s.setTrain k x).train k = x := by simp [State.train, State.setTrain]
theorem setTrain_train (k : Train) (x : TrainRec) (j : Train) : (s.setTrain k x).train j = if k = j then x else s.train j := by
  simp [State.train, State.setTrain, Vec.get_set]
@[simp] theorem setTrain_shaft (k : Train) (x : TrainRec) (g : Shaft) : (s.setTrain k x).shaft g = s.shaft g := rfl
@[simp] theorem setTrain_share (k : Train) (x : TrainRec) (j : Train) : (s.setTrain k x).share j = s.share j := rfl
@[simp] theorem setTrain_drive (k : Train) (x : TrainRec) (j : Train) : (s.setTrain k x).drive j = s.drive j := rfl
@[simp] theorem setTrain_line (k : Train) (x : TrainRec) (q : Line) : (s.setTrain k x).line q = s.line q := rfl
@[simp] theorem setTrain_posture (k : Train) (x : TrainRec) (j : Train) : (s.setTrain k x).posture j = s.posture j := rfl
@[simp] theorem setTrain_notice (k : Train) (x : TrainRec) (m : Link) : (s.setTrain k x).notice m = s.notice m := rfl
@[simp] theorem setTrain_right (k : Train) (x : TrainRec) (m : Link) : (s.setTrain k x).right m = s.right m := rfl
@[simp] theorem setTrain_params (k : Train) (x : TrainRec) (j : Train) : (s.setTrain k x).params j = s.params j := rfl
@[simp] theorem setTrain_shaftOf (k : Train) (x : TrainRec) (j : Train) : (s.setTrain k x).shaftOf j = s.shaftOf j := rfl
@[simp] theorem setTrain_inSet (k : Train) (x : TrainRec) (m : Link) (j : Train) : (s.setTrain k x).inSet m j = s.inSet m j := rfl

/-! setShaft -/

@[simp] theorem setShaft_pending (h : Shaft) (x : ShaftRec) : (s.setShaft h x).pending = s.pending := rfl
@[simp] theorem setShaft_resetLow (h : Shaft) (x : ShaftRec) : (s.setShaft h x).resetLow = s.resetLow := rfl
@[simp] theorem setShaft_resetCause (h : Shaft) (x : ShaftRec) : (s.setShaft h x).resetCause = s.resetCause := rfl
@[simp] theorem setShaft_uptime (h : Shaft) (x : ShaftRec) : (s.setShaft h x).uptime = s.uptime := rfl
@[simp] theorem setShaft_active (h : Shaft) (x : ShaftRec) : (s.setShaft h x).active = s.active := rfl
@[simp] theorem setShaft_staged (h : Shaft) (x : ShaftRec) : (s.setShaft h x).staged = s.staged := rfl
@[simp] theorem setShaft_locked (h : Shaft) (x : ShaftRec) : (s.setShaft h x).locked = s.locked := rfl
@[simp] theorem setShaft_paramsPending (h : Shaft) (x : ShaftRec) : (s.setShaft h x).paramsPending = s.paramsPending := rfl
@[simp] theorem setShaft_ports (h : Shaft) (x : ShaftRec) : (s.setShaft h x).ports = s.ports := rfl
@[simp] theorem setShaft_channels (h : Shaft) (x : ShaftRec) : (s.setShaft h x).channels = s.channels := rfl
@[simp] theorem setShaft_stations (h : Shaft) (x : ShaftRec) : (s.setShaft h x).stations = s.stations := rfl
@[simp] theorem setShaft_reference (h : Shaft) (x : ShaftRec) : (s.setShaft h x).reference = s.reference := rfl
@[simp] theorem setShaft_banks (h : Shaft) (x : ShaftRec) : (s.setShaft h x).banks = s.banks := rfl
@[simp] theorem setShaft_demands (h : Shaft) (x : ShaftRec) : (s.setShaft h x).demands = s.demands := rfl
@[simp] theorem setShaft_trains (h : Shaft) (x : ShaftRec) : (s.setShaft h x).trains = s.trains := rfl
@[simp] theorem setShaft_shafts (h : Shaft) (x : ShaftRec) : (s.setShaft h x).shafts = s.shafts.set h x := rfl
@[simp] theorem setShaft_shares (h : Shaft) (x : ShaftRec) : (s.setShaft h x).shares = s.shares := rfl
@[simp] theorem setShaft_drives (h : Shaft) (x : ShaftRec) : (s.setShaft h x).drives = s.drives := rfl
@[simp] theorem setShaft_lines (h : Shaft) (x : ShaftRec) : (s.setShaft h x).lines = s.lines := rfl
@[simp] theorem setShaft_postures (h : Shaft) (x : ShaftRec) : (s.setShaft h x).postures = s.postures := rfl
@[simp] theorem setShaft_notices (h : Shaft) (x : ShaftRec) : (s.setShaft h x).notices = s.notices := rfl
@[simp] theorem setShaft_held (h : Shaft) (x : ShaftRec) : (s.setShaft h x).held = s.held := rfl
@[simp] theorem setShaft_raised (h : Shaft) (x : ShaftRec) : (s.setShaft h x).raised = s.raised := rfl
@[simp] theorem setShaft_pwm (h : Shaft) (x : ShaftRec) : (s.setShaft h x).pwm = s.pwm := rfl
@[simp] theorem setShaft_handoffs (h : Shaft) (x : ShaftRec) : (s.setShaft h x).handoffs = s.handoffs := rfl
@[simp] theorem setShaft_staleReads (h : Shaft) (x : ShaftRec) : (s.setShaft h x).staleReads = s.staleReads := rfl
@[simp] theorem setShaft_port (h : Shaft) (x : ShaftRec) (m : Link) : (s.setShaft h x).port m = s.port m := rfl
@[simp] theorem setShaft_channel (h : Shaft) (x : ShaftRec) (d : Channel) : (s.setShaft h x).channel d = s.channel d := rfl
@[simp] theorem setShaft_station (h : Shaft) (x : ShaftRec) (tt : Station) : (s.setShaft h x).station tt = s.station tt := rfl
@[simp] theorem setShaft_bank (h : Shaft) (x : ShaftRec) (j : Train) : (s.setShaft h x).bank j = s.bank j := rfl
@[simp] theorem setShaft_demand (h : Shaft) (x : ShaftRec) (j : Train) : (s.setShaft h x).demand j = s.demand j := rfl
@[simp] theorem setShaft_train (h : Shaft) (x : ShaftRec) (j : Train) : (s.setShaft h x).train j = s.train j := rfl
@[simp] theorem setShaft_shaft_self (h : Shaft) (x : ShaftRec) : (s.setShaft h x).shaft h = x := by simp [State.shaft, State.setShaft]
theorem setShaft_shaft (h : Shaft) (x : ShaftRec) (g : Shaft) : (s.setShaft h x).shaft g = if h = g then x else s.shaft g := by
  simp [State.shaft, State.setShaft, Vec.get_set]
@[simp] theorem setShaft_share (h : Shaft) (x : ShaftRec) (j : Train) : (s.setShaft h x).share j = s.share j := rfl
@[simp] theorem setShaft_drive (h : Shaft) (x : ShaftRec) (j : Train) : (s.setShaft h x).drive j = s.drive j := rfl
@[simp] theorem setShaft_line (h : Shaft) (x : ShaftRec) (q : Line) : (s.setShaft h x).line q = s.line q := rfl
@[simp] theorem setShaft_posture (h : Shaft) (x : ShaftRec) (j : Train) : (s.setShaft h x).posture j = s.posture j := rfl
@[simp] theorem setShaft_notice (h : Shaft) (x : ShaftRec) (m : Link) : (s.setShaft h x).notice m = s.notice m := rfl
@[simp] theorem setShaft_right (h : Shaft) (x : ShaftRec) (m : Link) : (s.setShaft h x).right m = s.right m := rfl
@[simp] theorem setShaft_params (h : Shaft) (x : ShaftRec) (j : Train) : (s.setShaft h x).params j = s.params j := rfl
@[simp] theorem setShaft_shaftOf (h : Shaft) (x : ShaftRec) (j : Train) : (s.setShaft h x).shaftOf j = s.shaftOf j := rfl
@[simp] theorem setShaft_inSet (h : Shaft) (x : ShaftRec) (m : Link) (j : Train) : (s.setShaft h x).inSet m j = s.inSet m j := rfl

/-! setShare -/

@[simp] theorem setShare_pending (k : Train) (x : AllocEntry) : (s.setShare k x).pending = s.pending := rfl
@[simp] theorem setShare_resetLow (k : Train) (x : AllocEntry) : (s.setShare k x).resetLow = s.resetLow := rfl
@[simp] theorem setShare_resetCause (k : Train) (x : AllocEntry) : (s.setShare k x).resetCause = s.resetCause := rfl
@[simp] theorem setShare_uptime (k : Train) (x : AllocEntry) : (s.setShare k x).uptime = s.uptime := rfl
@[simp] theorem setShare_active (k : Train) (x : AllocEntry) : (s.setShare k x).active = s.active := rfl
@[simp] theorem setShare_staged (k : Train) (x : AllocEntry) : (s.setShare k x).staged = s.staged := rfl
@[simp] theorem setShare_locked (k : Train) (x : AllocEntry) : (s.setShare k x).locked = s.locked := rfl
@[simp] theorem setShare_paramsPending (k : Train) (x : AllocEntry) : (s.setShare k x).paramsPending = s.paramsPending := rfl
@[simp] theorem setShare_ports (k : Train) (x : AllocEntry) : (s.setShare k x).ports = s.ports := rfl
@[simp] theorem setShare_channels (k : Train) (x : AllocEntry) : (s.setShare k x).channels = s.channels := rfl
@[simp] theorem setShare_stations (k : Train) (x : AllocEntry) : (s.setShare k x).stations = s.stations := rfl
@[simp] theorem setShare_reference (k : Train) (x : AllocEntry) : (s.setShare k x).reference = s.reference := rfl
@[simp] theorem setShare_banks (k : Train) (x : AllocEntry) : (s.setShare k x).banks = s.banks := rfl
@[simp] theorem setShare_demands (k : Train) (x : AllocEntry) : (s.setShare k x).demands = s.demands := rfl
@[simp] theorem setShare_trains (k : Train) (x : AllocEntry) : (s.setShare k x).trains = s.trains := rfl
@[simp] theorem setShare_shafts (k : Train) (x : AllocEntry) : (s.setShare k x).shafts = s.shafts := rfl
@[simp] theorem setShare_shares (k : Train) (x : AllocEntry) : (s.setShare k x).shares = s.shares.set k x := rfl
@[simp] theorem setShare_drives (k : Train) (x : AllocEntry) : (s.setShare k x).drives = s.drives := rfl
@[simp] theorem setShare_lines (k : Train) (x : AllocEntry) : (s.setShare k x).lines = s.lines := rfl
@[simp] theorem setShare_postures (k : Train) (x : AllocEntry) : (s.setShare k x).postures = s.postures := rfl
@[simp] theorem setShare_notices (k : Train) (x : AllocEntry) : (s.setShare k x).notices = s.notices := rfl
@[simp] theorem setShare_held (k : Train) (x : AllocEntry) : (s.setShare k x).held = s.held := rfl
@[simp] theorem setShare_raised (k : Train) (x : AllocEntry) : (s.setShare k x).raised = s.raised := rfl
@[simp] theorem setShare_pwm (k : Train) (x : AllocEntry) : (s.setShare k x).pwm = s.pwm := rfl
@[simp] theorem setShare_handoffs (k : Train) (x : AllocEntry) : (s.setShare k x).handoffs = s.handoffs := rfl
@[simp] theorem setShare_staleReads (k : Train) (x : AllocEntry) : (s.setShare k x).staleReads = s.staleReads := rfl
@[simp] theorem setShare_port (k : Train) (x : AllocEntry) (m : Link) : (s.setShare k x).port m = s.port m := rfl
@[simp] theorem setShare_channel (k : Train) (x : AllocEntry) (d : Channel) : (s.setShare k x).channel d = s.channel d := rfl
@[simp] theorem setShare_station (k : Train) (x : AllocEntry) (tt : Station) : (s.setShare k x).station tt = s.station tt := rfl
@[simp] theorem setShare_bank (k : Train) (x : AllocEntry) (j : Train) : (s.setShare k x).bank j = s.bank j := rfl
@[simp] theorem setShare_demand (k : Train) (x : AllocEntry) (j : Train) : (s.setShare k x).demand j = s.demand j := rfl
@[simp] theorem setShare_train (k : Train) (x : AllocEntry) (j : Train) : (s.setShare k x).train j = s.train j := rfl
@[simp] theorem setShare_shaft (k : Train) (x : AllocEntry) (g : Shaft) : (s.setShare k x).shaft g = s.shaft g := rfl
@[simp] theorem setShare_share_self (k : Train) (x : AllocEntry) : (s.setShare k x).share k = x := by simp [State.share, State.setShare]
theorem setShare_share (k : Train) (x : AllocEntry) (j : Train) : (s.setShare k x).share j = if k = j then x else s.share j := by
  simp [State.share, State.setShare, Vec.get_set]
@[simp] theorem setShare_drive (k : Train) (x : AllocEntry) (j : Train) : (s.setShare k x).drive j = s.drive j := rfl
@[simp] theorem setShare_line (k : Train) (x : AllocEntry) (q : Line) : (s.setShare k x).line q = s.line q := rfl
@[simp] theorem setShare_posture (k : Train) (x : AllocEntry) (j : Train) : (s.setShare k x).posture j = s.posture j := rfl
@[simp] theorem setShare_notice (k : Train) (x : AllocEntry) (m : Link) : (s.setShare k x).notice m = s.notice m := rfl
@[simp] theorem setShare_right (k : Train) (x : AllocEntry) (m : Link) : (s.setShare k x).right m = s.right m := rfl
@[simp] theorem setShare_params (k : Train) (x : AllocEntry) (j : Train) : (s.setShare k x).params j = s.params j := rfl
@[simp] theorem setShare_shaftOf (k : Train) (x : AllocEntry) (j : Train) : (s.setShare k x).shaftOf j = s.shaftOf j := rfl
@[simp] theorem setShare_inSet (k : Train) (x : AllocEntry) (m : Link) (j : Train) : (s.setShare k x).inSet m j = s.inSet m j := rfl

/-! setDrive -/

@[simp] theorem setDrive_pending (k : Train) (x : DriveRec) : (s.setDrive k x).pending = s.pending := rfl
@[simp] theorem setDrive_resetLow (k : Train) (x : DriveRec) : (s.setDrive k x).resetLow = s.resetLow := rfl
@[simp] theorem setDrive_resetCause (k : Train) (x : DriveRec) : (s.setDrive k x).resetCause = s.resetCause := rfl
@[simp] theorem setDrive_uptime (k : Train) (x : DriveRec) : (s.setDrive k x).uptime = s.uptime := rfl
@[simp] theorem setDrive_active (k : Train) (x : DriveRec) : (s.setDrive k x).active = s.active := rfl
@[simp] theorem setDrive_staged (k : Train) (x : DriveRec) : (s.setDrive k x).staged = s.staged := rfl
@[simp] theorem setDrive_locked (k : Train) (x : DriveRec) : (s.setDrive k x).locked = s.locked := rfl
@[simp] theorem setDrive_paramsPending (k : Train) (x : DriveRec) : (s.setDrive k x).paramsPending = s.paramsPending := rfl
@[simp] theorem setDrive_ports (k : Train) (x : DriveRec) : (s.setDrive k x).ports = s.ports := rfl
@[simp] theorem setDrive_channels (k : Train) (x : DriveRec) : (s.setDrive k x).channels = s.channels := rfl
@[simp] theorem setDrive_stations (k : Train) (x : DriveRec) : (s.setDrive k x).stations = s.stations := rfl
@[simp] theorem setDrive_reference (k : Train) (x : DriveRec) : (s.setDrive k x).reference = s.reference := rfl
@[simp] theorem setDrive_banks (k : Train) (x : DriveRec) : (s.setDrive k x).banks = s.banks := rfl
@[simp] theorem setDrive_demands (k : Train) (x : DriveRec) : (s.setDrive k x).demands = s.demands := rfl
@[simp] theorem setDrive_trains (k : Train) (x : DriveRec) : (s.setDrive k x).trains = s.trains := rfl
@[simp] theorem setDrive_shafts (k : Train) (x : DriveRec) : (s.setDrive k x).shafts = s.shafts := rfl
@[simp] theorem setDrive_shares (k : Train) (x : DriveRec) : (s.setDrive k x).shares = s.shares := rfl
@[simp] theorem setDrive_drives (k : Train) (x : DriveRec) : (s.setDrive k x).drives = s.drives.set k x := rfl
@[simp] theorem setDrive_lines (k : Train) (x : DriveRec) : (s.setDrive k x).lines = s.lines := rfl
@[simp] theorem setDrive_postures (k : Train) (x : DriveRec) : (s.setDrive k x).postures = s.postures := rfl
@[simp] theorem setDrive_notices (k : Train) (x : DriveRec) : (s.setDrive k x).notices = s.notices := rfl
@[simp] theorem setDrive_held (k : Train) (x : DriveRec) : (s.setDrive k x).held = s.held := rfl
@[simp] theorem setDrive_raised (k : Train) (x : DriveRec) : (s.setDrive k x).raised = s.raised := rfl
@[simp] theorem setDrive_pwm (k : Train) (x : DriveRec) : (s.setDrive k x).pwm = s.pwm := rfl
@[simp] theorem setDrive_handoffs (k : Train) (x : DriveRec) : (s.setDrive k x).handoffs = s.handoffs := rfl
@[simp] theorem setDrive_staleReads (k : Train) (x : DriveRec) : (s.setDrive k x).staleReads = s.staleReads := rfl
@[simp] theorem setDrive_port (k : Train) (x : DriveRec) (m : Link) : (s.setDrive k x).port m = s.port m := rfl
@[simp] theorem setDrive_channel (k : Train) (x : DriveRec) (d : Channel) : (s.setDrive k x).channel d = s.channel d := rfl
@[simp] theorem setDrive_station (k : Train) (x : DriveRec) (tt : Station) : (s.setDrive k x).station tt = s.station tt := rfl
@[simp] theorem setDrive_bank (k : Train) (x : DriveRec) (j : Train) : (s.setDrive k x).bank j = s.bank j := rfl
@[simp] theorem setDrive_demand (k : Train) (x : DriveRec) (j : Train) : (s.setDrive k x).demand j = s.demand j := rfl
@[simp] theorem setDrive_train (k : Train) (x : DriveRec) (j : Train) : (s.setDrive k x).train j = s.train j := rfl
@[simp] theorem setDrive_shaft (k : Train) (x : DriveRec) (g : Shaft) : (s.setDrive k x).shaft g = s.shaft g := rfl
@[simp] theorem setDrive_share (k : Train) (x : DriveRec) (j : Train) : (s.setDrive k x).share j = s.share j := rfl
@[simp] theorem setDrive_drive_self (k : Train) (x : DriveRec) : (s.setDrive k x).drive k = x := by simp [State.drive, State.setDrive]
theorem setDrive_drive (k : Train) (x : DriveRec) (j : Train) : (s.setDrive k x).drive j = if k = j then x else s.drive j := by
  simp [State.drive, State.setDrive, Vec.get_set]
@[simp] theorem setDrive_line (k : Train) (x : DriveRec) (q : Line) : (s.setDrive k x).line q = s.line q := rfl
@[simp] theorem setDrive_posture (k : Train) (x : DriveRec) (j : Train) : (s.setDrive k x).posture j = s.posture j := rfl
@[simp] theorem setDrive_notice (k : Train) (x : DriveRec) (m : Link) : (s.setDrive k x).notice m = s.notice m := rfl
@[simp] theorem setDrive_right (k : Train) (x : DriveRec) (m : Link) : (s.setDrive k x).right m = s.right m := rfl
@[simp] theorem setDrive_params (k : Train) (x : DriveRec) (j : Train) : (s.setDrive k x).params j = s.params j := rfl
@[simp] theorem setDrive_shaftOf (k : Train) (x : DriveRec) (j : Train) : (s.setDrive k x).shaftOf j = s.shaftOf j := rfl
@[simp] theorem setDrive_inSet (k : Train) (x : DriveRec) (m : Link) (j : Train) : (s.setDrive k x).inSet m j = s.inSet m j := rfl

/-! setLine -/

@[simp] theorem setLine_pending (n : Line) (x : LineRec) : (s.setLine n x).pending = s.pending := rfl
@[simp] theorem setLine_resetLow (n : Line) (x : LineRec) : (s.setLine n x).resetLow = s.resetLow := rfl
@[simp] theorem setLine_resetCause (n : Line) (x : LineRec) : (s.setLine n x).resetCause = s.resetCause := rfl
@[simp] theorem setLine_uptime (n : Line) (x : LineRec) : (s.setLine n x).uptime = s.uptime := rfl
@[simp] theorem setLine_active (n : Line) (x : LineRec) : (s.setLine n x).active = s.active := rfl
@[simp] theorem setLine_staged (n : Line) (x : LineRec) : (s.setLine n x).staged = s.staged := rfl
@[simp] theorem setLine_locked (n : Line) (x : LineRec) : (s.setLine n x).locked = s.locked := rfl
@[simp] theorem setLine_paramsPending (n : Line) (x : LineRec) : (s.setLine n x).paramsPending = s.paramsPending := rfl
@[simp] theorem setLine_ports (n : Line) (x : LineRec) : (s.setLine n x).ports = s.ports := rfl
@[simp] theorem setLine_channels (n : Line) (x : LineRec) : (s.setLine n x).channels = s.channels := rfl
@[simp] theorem setLine_stations (n : Line) (x : LineRec) : (s.setLine n x).stations = s.stations := rfl
@[simp] theorem setLine_reference (n : Line) (x : LineRec) : (s.setLine n x).reference = s.reference := rfl
@[simp] theorem setLine_banks (n : Line) (x : LineRec) : (s.setLine n x).banks = s.banks := rfl
@[simp] theorem setLine_demands (n : Line) (x : LineRec) : (s.setLine n x).demands = s.demands := rfl
@[simp] theorem setLine_trains (n : Line) (x : LineRec) : (s.setLine n x).trains = s.trains := rfl
@[simp] theorem setLine_shafts (n : Line) (x : LineRec) : (s.setLine n x).shafts = s.shafts := rfl
@[simp] theorem setLine_shares (n : Line) (x : LineRec) : (s.setLine n x).shares = s.shares := rfl
@[simp] theorem setLine_drives (n : Line) (x : LineRec) : (s.setLine n x).drives = s.drives := rfl
@[simp] theorem setLine_lines (n : Line) (x : LineRec) : (s.setLine n x).lines = s.lines.set n x := rfl
@[simp] theorem setLine_postures (n : Line) (x : LineRec) : (s.setLine n x).postures = s.postures := rfl
@[simp] theorem setLine_notices (n : Line) (x : LineRec) : (s.setLine n x).notices = s.notices := rfl
@[simp] theorem setLine_held (n : Line) (x : LineRec) : (s.setLine n x).held = s.held := rfl
@[simp] theorem setLine_raised (n : Line) (x : LineRec) : (s.setLine n x).raised = s.raised := rfl
@[simp] theorem setLine_pwm (n : Line) (x : LineRec) : (s.setLine n x).pwm = s.pwm := rfl
@[simp] theorem setLine_handoffs (n : Line) (x : LineRec) : (s.setLine n x).handoffs = s.handoffs := rfl
@[simp] theorem setLine_staleReads (n : Line) (x : LineRec) : (s.setLine n x).staleReads = s.staleReads := rfl
@[simp] theorem setLine_port (n : Line) (x : LineRec) (m : Link) : (s.setLine n x).port m = s.port m := rfl
@[simp] theorem setLine_channel (n : Line) (x : LineRec) (d : Channel) : (s.setLine n x).channel d = s.channel d := rfl
@[simp] theorem setLine_station (n : Line) (x : LineRec) (tt : Station) : (s.setLine n x).station tt = s.station tt := rfl
@[simp] theorem setLine_bank (n : Line) (x : LineRec) (j : Train) : (s.setLine n x).bank j = s.bank j := rfl
@[simp] theorem setLine_demand (n : Line) (x : LineRec) (j : Train) : (s.setLine n x).demand j = s.demand j := rfl
@[simp] theorem setLine_train (n : Line) (x : LineRec) (j : Train) : (s.setLine n x).train j = s.train j := rfl
@[simp] theorem setLine_shaft (n : Line) (x : LineRec) (g : Shaft) : (s.setLine n x).shaft g = s.shaft g := rfl
@[simp] theorem setLine_share (n : Line) (x : LineRec) (j : Train) : (s.setLine n x).share j = s.share j := rfl
@[simp] theorem setLine_drive (n : Line) (x : LineRec) (j : Train) : (s.setLine n x).drive j = s.drive j := rfl
@[simp] theorem setLine_line_self (n : Line) (x : LineRec) : (s.setLine n x).line n = x := by simp [State.line, State.setLine]
theorem setLine_line (n : Line) (x : LineRec) (q : Line) : (s.setLine n x).line q = if n = q then x else s.line q := by
  simp [State.line, State.setLine, Vec.get_set]
@[simp] theorem setLine_posture (n : Line) (x : LineRec) (j : Train) : (s.setLine n x).posture j = s.posture j := rfl
@[simp] theorem setLine_notice (n : Line) (x : LineRec) (m : Link) : (s.setLine n x).notice m = s.notice m := rfl
@[simp] theorem setLine_right (n : Line) (x : LineRec) (m : Link) : (s.setLine n x).right m = s.right m := rfl
@[simp] theorem setLine_params (n : Line) (x : LineRec) (j : Train) : (s.setLine n x).params j = s.params j := rfl
@[simp] theorem setLine_shaftOf (n : Line) (x : LineRec) (j : Train) : (s.setLine n x).shaftOf j = s.shaftOf j := rfl
@[simp] theorem setLine_inSet (n : Line) (x : LineRec) (m : Link) (j : Train) : (s.setLine n x).inSet m j = s.inSet m j := rfl

/-! setPosture -/

@[simp] theorem setPosture_pending (k : Train) (x : Option EffectivePosture) : (s.setPosture k x).pending = s.pending := rfl
@[simp] theorem setPosture_resetLow (k : Train) (x : Option EffectivePosture) : (s.setPosture k x).resetLow = s.resetLow := rfl
@[simp] theorem setPosture_resetCause (k : Train) (x : Option EffectivePosture) : (s.setPosture k x).resetCause = s.resetCause := rfl
@[simp] theorem setPosture_uptime (k : Train) (x : Option EffectivePosture) : (s.setPosture k x).uptime = s.uptime := rfl
@[simp] theorem setPosture_active (k : Train) (x : Option EffectivePosture) : (s.setPosture k x).active = s.active := rfl
@[simp] theorem setPosture_staged (k : Train) (x : Option EffectivePosture) : (s.setPosture k x).staged = s.staged := rfl
@[simp] theorem setPosture_locked (k : Train) (x : Option EffectivePosture) : (s.setPosture k x).locked = s.locked := rfl
@[simp] theorem setPosture_paramsPending (k : Train) (x : Option EffectivePosture) : (s.setPosture k x).paramsPending = s.paramsPending := rfl
@[simp] theorem setPosture_ports (k : Train) (x : Option EffectivePosture) : (s.setPosture k x).ports = s.ports := rfl
@[simp] theorem setPosture_channels (k : Train) (x : Option EffectivePosture) : (s.setPosture k x).channels = s.channels := rfl
@[simp] theorem setPosture_stations (k : Train) (x : Option EffectivePosture) : (s.setPosture k x).stations = s.stations := rfl
@[simp] theorem setPosture_reference (k : Train) (x : Option EffectivePosture) : (s.setPosture k x).reference = s.reference := rfl
@[simp] theorem setPosture_banks (k : Train) (x : Option EffectivePosture) : (s.setPosture k x).banks = s.banks := rfl
@[simp] theorem setPosture_demands (k : Train) (x : Option EffectivePosture) : (s.setPosture k x).demands = s.demands := rfl
@[simp] theorem setPosture_trains (k : Train) (x : Option EffectivePosture) : (s.setPosture k x).trains = s.trains := rfl
@[simp] theorem setPosture_shafts (k : Train) (x : Option EffectivePosture) : (s.setPosture k x).shafts = s.shafts := rfl
@[simp] theorem setPosture_shares (k : Train) (x : Option EffectivePosture) : (s.setPosture k x).shares = s.shares := rfl
@[simp] theorem setPosture_drives (k : Train) (x : Option EffectivePosture) : (s.setPosture k x).drives = s.drives := rfl
@[simp] theorem setPosture_lines (k : Train) (x : Option EffectivePosture) : (s.setPosture k x).lines = s.lines := rfl
@[simp] theorem setPosture_postures (k : Train) (x : Option EffectivePosture) : (s.setPosture k x).postures = s.postures.set k x := rfl
@[simp] theorem setPosture_notices (k : Train) (x : Option EffectivePosture) : (s.setPosture k x).notices = s.notices := rfl
@[simp] theorem setPosture_held (k : Train) (x : Option EffectivePosture) : (s.setPosture k x).held = s.held := rfl
@[simp] theorem setPosture_raised (k : Train) (x : Option EffectivePosture) : (s.setPosture k x).raised = s.raised := rfl
@[simp] theorem setPosture_pwm (k : Train) (x : Option EffectivePosture) : (s.setPosture k x).pwm = s.pwm := rfl
@[simp] theorem setPosture_handoffs (k : Train) (x : Option EffectivePosture) : (s.setPosture k x).handoffs = s.handoffs := rfl
@[simp] theorem setPosture_staleReads (k : Train) (x : Option EffectivePosture) : (s.setPosture k x).staleReads = s.staleReads := rfl
@[simp] theorem setPosture_port (k : Train) (x : Option EffectivePosture) (m : Link) : (s.setPosture k x).port m = s.port m := rfl
@[simp] theorem setPosture_channel (k : Train) (x : Option EffectivePosture) (d : Channel) : (s.setPosture k x).channel d = s.channel d := rfl
@[simp] theorem setPosture_station (k : Train) (x : Option EffectivePosture) (tt : Station) : (s.setPosture k x).station tt = s.station tt := rfl
@[simp] theorem setPosture_bank (k : Train) (x : Option EffectivePosture) (j : Train) : (s.setPosture k x).bank j = s.bank j := rfl
@[simp] theorem setPosture_demand (k : Train) (x : Option EffectivePosture) (j : Train) : (s.setPosture k x).demand j = s.demand j := rfl
@[simp] theorem setPosture_train (k : Train) (x : Option EffectivePosture) (j : Train) : (s.setPosture k x).train j = s.train j := rfl
@[simp] theorem setPosture_shaft (k : Train) (x : Option EffectivePosture) (g : Shaft) : (s.setPosture k x).shaft g = s.shaft g := rfl
@[simp] theorem setPosture_share (k : Train) (x : Option EffectivePosture) (j : Train) : (s.setPosture k x).share j = s.share j := rfl
@[simp] theorem setPosture_drive (k : Train) (x : Option EffectivePosture) (j : Train) : (s.setPosture k x).drive j = s.drive j := rfl
@[simp] theorem setPosture_line (k : Train) (x : Option EffectivePosture) (q : Line) : (s.setPosture k x).line q = s.line q := rfl
@[simp] theorem setPosture_posture_self (k : Train) (x : Option EffectivePosture) : (s.setPosture k x).posture k = x := by simp [State.posture, State.setPosture]
theorem setPosture_posture (k : Train) (x : Option EffectivePosture) (j : Train) : (s.setPosture k x).posture j = if k = j then x else s.posture j := by
  simp [State.posture, State.setPosture, Vec.get_set]
@[simp] theorem setPosture_notice (k : Train) (x : Option EffectivePosture) (m : Link) : (s.setPosture k x).notice m = s.notice m := rfl
@[simp] theorem setPosture_right (k : Train) (x : Option EffectivePosture) (m : Link) : (s.setPosture k x).right m = s.right m := rfl
@[simp] theorem setPosture_params (k : Train) (x : Option EffectivePosture) (j : Train) : (s.setPosture k x).params j = s.params j := rfl
@[simp] theorem setPosture_shaftOf (k : Train) (x : Option EffectivePosture) (j : Train) : (s.setPosture k x).shaftOf j = s.shaftOf j := rfl
@[simp] theorem setPosture_inSet (k : Train) (x : Option EffectivePosture) (m : Link) (j : Train) : (s.setPosture k x).inSet m j = s.inSet m j := rfl

/-! setNotice -/

@[simp] theorem setNotice_pending (l : Link) (x : NoticeSet) : (s.setNotice l x).pending = s.pending := rfl
@[simp] theorem setNotice_resetLow (l : Link) (x : NoticeSet) : (s.setNotice l x).resetLow = s.resetLow := rfl
@[simp] theorem setNotice_resetCause (l : Link) (x : NoticeSet) : (s.setNotice l x).resetCause = s.resetCause := rfl
@[simp] theorem setNotice_uptime (l : Link) (x : NoticeSet) : (s.setNotice l x).uptime = s.uptime := rfl
@[simp] theorem setNotice_active (l : Link) (x : NoticeSet) : (s.setNotice l x).active = s.active := rfl
@[simp] theorem setNotice_staged (l : Link) (x : NoticeSet) : (s.setNotice l x).staged = s.staged := rfl
@[simp] theorem setNotice_locked (l : Link) (x : NoticeSet) : (s.setNotice l x).locked = s.locked := rfl
@[simp] theorem setNotice_paramsPending (l : Link) (x : NoticeSet) : (s.setNotice l x).paramsPending = s.paramsPending := rfl
@[simp] theorem setNotice_ports (l : Link) (x : NoticeSet) : (s.setNotice l x).ports = s.ports := rfl
@[simp] theorem setNotice_channels (l : Link) (x : NoticeSet) : (s.setNotice l x).channels = s.channels := rfl
@[simp] theorem setNotice_stations (l : Link) (x : NoticeSet) : (s.setNotice l x).stations = s.stations := rfl
@[simp] theorem setNotice_reference (l : Link) (x : NoticeSet) : (s.setNotice l x).reference = s.reference := rfl
@[simp] theorem setNotice_banks (l : Link) (x : NoticeSet) : (s.setNotice l x).banks = s.banks := rfl
@[simp] theorem setNotice_demands (l : Link) (x : NoticeSet) : (s.setNotice l x).demands = s.demands := rfl
@[simp] theorem setNotice_trains (l : Link) (x : NoticeSet) : (s.setNotice l x).trains = s.trains := rfl
@[simp] theorem setNotice_shafts (l : Link) (x : NoticeSet) : (s.setNotice l x).shafts = s.shafts := rfl
@[simp] theorem setNotice_shares (l : Link) (x : NoticeSet) : (s.setNotice l x).shares = s.shares := rfl
@[simp] theorem setNotice_drives (l : Link) (x : NoticeSet) : (s.setNotice l x).drives = s.drives := rfl
@[simp] theorem setNotice_lines (l : Link) (x : NoticeSet) : (s.setNotice l x).lines = s.lines := rfl
@[simp] theorem setNotice_postures (l : Link) (x : NoticeSet) : (s.setNotice l x).postures = s.postures := rfl
@[simp] theorem setNotice_notices (l : Link) (x : NoticeSet) : (s.setNotice l x).notices = s.notices.set (linkIndex l) x := rfl
@[simp] theorem setNotice_held (l : Link) (x : NoticeSet) : (s.setNotice l x).held = s.held := rfl
@[simp] theorem setNotice_raised (l : Link) (x : NoticeSet) : (s.setNotice l x).raised = s.raised := rfl
@[simp] theorem setNotice_pwm (l : Link) (x : NoticeSet) : (s.setNotice l x).pwm = s.pwm := rfl
@[simp] theorem setNotice_handoffs (l : Link) (x : NoticeSet) : (s.setNotice l x).handoffs = s.handoffs := rfl
@[simp] theorem setNotice_staleReads (l : Link) (x : NoticeSet) : (s.setNotice l x).staleReads = s.staleReads := rfl
@[simp] theorem setNotice_port (l : Link) (x : NoticeSet) (m : Link) : (s.setNotice l x).port m = s.port m := rfl
@[simp] theorem setNotice_channel (l : Link) (x : NoticeSet) (d : Channel) : (s.setNotice l x).channel d = s.channel d := rfl
@[simp] theorem setNotice_station (l : Link) (x : NoticeSet) (tt : Station) : (s.setNotice l x).station tt = s.station tt := rfl
@[simp] theorem setNotice_bank (l : Link) (x : NoticeSet) (j : Train) : (s.setNotice l x).bank j = s.bank j := rfl
@[simp] theorem setNotice_demand (l : Link) (x : NoticeSet) (j : Train) : (s.setNotice l x).demand j = s.demand j := rfl
@[simp] theorem setNotice_train (l : Link) (x : NoticeSet) (j : Train) : (s.setNotice l x).train j = s.train j := rfl
@[simp] theorem setNotice_shaft (l : Link) (x : NoticeSet) (g : Shaft) : (s.setNotice l x).shaft g = s.shaft g := rfl
@[simp] theorem setNotice_share (l : Link) (x : NoticeSet) (j : Train) : (s.setNotice l x).share j = s.share j := rfl
@[simp] theorem setNotice_drive (l : Link) (x : NoticeSet) (j : Train) : (s.setNotice l x).drive j = s.drive j := rfl
@[simp] theorem setNotice_line (l : Link) (x : NoticeSet) (q : Line) : (s.setNotice l x).line q = s.line q := rfl
@[simp] theorem setNotice_posture (l : Link) (x : NoticeSet) (j : Train) : (s.setNotice l x).posture j = s.posture j := rfl
@[simp] theorem setNotice_notice_self (l : Link) (x : NoticeSet) : (s.setNotice l x).notice l = x := by simp [State.notice, State.setNotice]
theorem setNotice_notice (l : Link) (x : NoticeSet) (m : Link) : (s.setNotice l x).notice m = if l = m then x else s.notice m := by
  simp [State.notice, State.setNotice, Vec.get_set, linkIndex_inj]
@[simp] theorem setNotice_right (l : Link) (x : NoticeSet) (m : Link) : (s.setNotice l x).right m = s.right m := rfl
@[simp] theorem setNotice_params (l : Link) (x : NoticeSet) (j : Train) : (s.setNotice l x).params j = s.params j := rfl
@[simp] theorem setNotice_shaftOf (l : Link) (x : NoticeSet) (j : Train) : (s.setNotice l x).shaftOf j = s.shaftOf j := rfl
@[simp] theorem setNotice_inSet (l : Link) (x : NoticeSet) (m : Link) (j : Train) : (s.setNotice l x).inSet m j = s.inSet m j := rfl

/-! setHeld -/

@[simp] theorem setHeld_pending (x : List Condition) : (s.setHeld x).pending = s.pending := rfl
@[simp] theorem setHeld_resetLow (x : List Condition) : (s.setHeld x).resetLow = s.resetLow := rfl
@[simp] theorem setHeld_resetCause (x : List Condition) : (s.setHeld x).resetCause = s.resetCause := rfl
@[simp] theorem setHeld_uptime (x : List Condition) : (s.setHeld x).uptime = s.uptime := rfl
@[simp] theorem setHeld_active (x : List Condition) : (s.setHeld x).active = s.active := rfl
@[simp] theorem setHeld_staged (x : List Condition) : (s.setHeld x).staged = s.staged := rfl
@[simp] theorem setHeld_locked (x : List Condition) : (s.setHeld x).locked = s.locked := rfl
@[simp] theorem setHeld_paramsPending (x : List Condition) : (s.setHeld x).paramsPending = s.paramsPending := rfl
@[simp] theorem setHeld_ports (x : List Condition) : (s.setHeld x).ports = s.ports := rfl
@[simp] theorem setHeld_channels (x : List Condition) : (s.setHeld x).channels = s.channels := rfl
@[simp] theorem setHeld_stations (x : List Condition) : (s.setHeld x).stations = s.stations := rfl
@[simp] theorem setHeld_reference (x : List Condition) : (s.setHeld x).reference = s.reference := rfl
@[simp] theorem setHeld_banks (x : List Condition) : (s.setHeld x).banks = s.banks := rfl
@[simp] theorem setHeld_demands (x : List Condition) : (s.setHeld x).demands = s.demands := rfl
@[simp] theorem setHeld_trains (x : List Condition) : (s.setHeld x).trains = s.trains := rfl
@[simp] theorem setHeld_shafts (x : List Condition) : (s.setHeld x).shafts = s.shafts := rfl
@[simp] theorem setHeld_shares (x : List Condition) : (s.setHeld x).shares = s.shares := rfl
@[simp] theorem setHeld_drives (x : List Condition) : (s.setHeld x).drives = s.drives := rfl
@[simp] theorem setHeld_lines (x : List Condition) : (s.setHeld x).lines = s.lines := rfl
@[simp] theorem setHeld_postures (x : List Condition) : (s.setHeld x).postures = s.postures := rfl
@[simp] theorem setHeld_notices (x : List Condition) : (s.setHeld x).notices = s.notices := rfl
@[simp] theorem setHeld_held (x : List Condition) : (s.setHeld x).held = x := rfl
@[simp] theorem setHeld_raised (x : List Condition) : (s.setHeld x).raised = s.raised := rfl
@[simp] theorem setHeld_pwm (x : List Condition) : (s.setHeld x).pwm = s.pwm := rfl
@[simp] theorem setHeld_handoffs (x : List Condition) : (s.setHeld x).handoffs = s.handoffs := rfl
@[simp] theorem setHeld_staleReads (x : List Condition) : (s.setHeld x).staleReads = s.staleReads := rfl
@[simp] theorem setHeld_port (x : List Condition) (m : Link) : (s.setHeld x).port m = s.port m := rfl
@[simp] theorem setHeld_channel (x : List Condition) (d : Channel) : (s.setHeld x).channel d = s.channel d := rfl
@[simp] theorem setHeld_station (x : List Condition) (tt : Station) : (s.setHeld x).station tt = s.station tt := rfl
@[simp] theorem setHeld_bank (x : List Condition) (j : Train) : (s.setHeld x).bank j = s.bank j := rfl
@[simp] theorem setHeld_demand (x : List Condition) (j : Train) : (s.setHeld x).demand j = s.demand j := rfl
@[simp] theorem setHeld_train (x : List Condition) (j : Train) : (s.setHeld x).train j = s.train j := rfl
@[simp] theorem setHeld_shaft (x : List Condition) (g : Shaft) : (s.setHeld x).shaft g = s.shaft g := rfl
@[simp] theorem setHeld_share (x : List Condition) (j : Train) : (s.setHeld x).share j = s.share j := rfl
@[simp] theorem setHeld_drive (x : List Condition) (j : Train) : (s.setHeld x).drive j = s.drive j := rfl
@[simp] theorem setHeld_line (x : List Condition) (q : Line) : (s.setHeld x).line q = s.line q := rfl
@[simp] theorem setHeld_posture (x : List Condition) (j : Train) : (s.setHeld x).posture j = s.posture j := rfl
@[simp] theorem setHeld_notice (x : List Condition) (m : Link) : (s.setHeld x).notice m = s.notice m := rfl
@[simp] theorem setHeld_right (x : List Condition) (m : Link) : (s.setHeld x).right m = s.right m := rfl
@[simp] theorem setHeld_params (x : List Condition) (j : Train) : (s.setHeld x).params j = s.params j := rfl
@[simp] theorem setHeld_shaftOf (x : List Condition) (j : Train) : (s.setHeld x).shaftOf j = s.shaftOf j := rfl
@[simp] theorem setHeld_inSet (x : List Condition) (m : Link) (j : Train) : (s.setHeld x).inSet m j = s.inSet m j := rfl

/-! setRaised -/

@[simp] theorem setRaised_pending (x : List Raise) : (s.setRaised x).pending = s.pending := rfl
@[simp] theorem setRaised_resetLow (x : List Raise) : (s.setRaised x).resetLow = s.resetLow := rfl
@[simp] theorem setRaised_resetCause (x : List Raise) : (s.setRaised x).resetCause = s.resetCause := rfl
@[simp] theorem setRaised_uptime (x : List Raise) : (s.setRaised x).uptime = s.uptime := rfl
@[simp] theorem setRaised_active (x : List Raise) : (s.setRaised x).active = s.active := rfl
@[simp] theorem setRaised_staged (x : List Raise) : (s.setRaised x).staged = s.staged := rfl
@[simp] theorem setRaised_locked (x : List Raise) : (s.setRaised x).locked = s.locked := rfl
@[simp] theorem setRaised_paramsPending (x : List Raise) : (s.setRaised x).paramsPending = s.paramsPending := rfl
@[simp] theorem setRaised_ports (x : List Raise) : (s.setRaised x).ports = s.ports := rfl
@[simp] theorem setRaised_channels (x : List Raise) : (s.setRaised x).channels = s.channels := rfl
@[simp] theorem setRaised_stations (x : List Raise) : (s.setRaised x).stations = s.stations := rfl
@[simp] theorem setRaised_reference (x : List Raise) : (s.setRaised x).reference = s.reference := rfl
@[simp] theorem setRaised_banks (x : List Raise) : (s.setRaised x).banks = s.banks := rfl
@[simp] theorem setRaised_demands (x : List Raise) : (s.setRaised x).demands = s.demands := rfl
@[simp] theorem setRaised_trains (x : List Raise) : (s.setRaised x).trains = s.trains := rfl
@[simp] theorem setRaised_shafts (x : List Raise) : (s.setRaised x).shafts = s.shafts := rfl
@[simp] theorem setRaised_shares (x : List Raise) : (s.setRaised x).shares = s.shares := rfl
@[simp] theorem setRaised_drives (x : List Raise) : (s.setRaised x).drives = s.drives := rfl
@[simp] theorem setRaised_lines (x : List Raise) : (s.setRaised x).lines = s.lines := rfl
@[simp] theorem setRaised_postures (x : List Raise) : (s.setRaised x).postures = s.postures := rfl
@[simp] theorem setRaised_notices (x : List Raise) : (s.setRaised x).notices = s.notices := rfl
@[simp] theorem setRaised_held (x : List Raise) : (s.setRaised x).held = s.held := rfl
@[simp] theorem setRaised_raised (x : List Raise) : (s.setRaised x).raised = x := rfl
@[simp] theorem setRaised_pwm (x : List Raise) : (s.setRaised x).pwm = s.pwm := rfl
@[simp] theorem setRaised_handoffs (x : List Raise) : (s.setRaised x).handoffs = s.handoffs := rfl
@[simp] theorem setRaised_staleReads (x : List Raise) : (s.setRaised x).staleReads = s.staleReads := rfl
@[simp] theorem setRaised_port (x : List Raise) (m : Link) : (s.setRaised x).port m = s.port m := rfl
@[simp] theorem setRaised_channel (x : List Raise) (d : Channel) : (s.setRaised x).channel d = s.channel d := rfl
@[simp] theorem setRaised_station (x : List Raise) (tt : Station) : (s.setRaised x).station tt = s.station tt := rfl
@[simp] theorem setRaised_bank (x : List Raise) (j : Train) : (s.setRaised x).bank j = s.bank j := rfl
@[simp] theorem setRaised_demand (x : List Raise) (j : Train) : (s.setRaised x).demand j = s.demand j := rfl
@[simp] theorem setRaised_train (x : List Raise) (j : Train) : (s.setRaised x).train j = s.train j := rfl
@[simp] theorem setRaised_shaft (x : List Raise) (g : Shaft) : (s.setRaised x).shaft g = s.shaft g := rfl
@[simp] theorem setRaised_share (x : List Raise) (j : Train) : (s.setRaised x).share j = s.share j := rfl
@[simp] theorem setRaised_drive (x : List Raise) (j : Train) : (s.setRaised x).drive j = s.drive j := rfl
@[simp] theorem setRaised_line (x : List Raise) (q : Line) : (s.setRaised x).line q = s.line q := rfl
@[simp] theorem setRaised_posture (x : List Raise) (j : Train) : (s.setRaised x).posture j = s.posture j := rfl
@[simp] theorem setRaised_notice (x : List Raise) (m : Link) : (s.setRaised x).notice m = s.notice m := rfl
@[simp] theorem setRaised_right (x : List Raise) (m : Link) : (s.setRaised x).right m = s.right m := rfl
@[simp] theorem setRaised_params (x : List Raise) (j : Train) : (s.setRaised x).params j = s.params j := rfl
@[simp] theorem setRaised_shaftOf (x : List Raise) (j : Train) : (s.setRaised x).shaftOf j = s.shaftOf j := rfl
@[simp] theorem setRaised_inSet (x : List Raise) (m : Link) (j : Train) : (s.setRaised x).inSet m j = s.inSet m j := rfl

/-! setHandoffs -/

@[simp] theorem setHandoffs_pending (x : List Handoff) : (s.setHandoffs x).pending = s.pending := rfl
@[simp] theorem setHandoffs_resetLow (x : List Handoff) : (s.setHandoffs x).resetLow = s.resetLow := rfl
@[simp] theorem setHandoffs_resetCause (x : List Handoff) : (s.setHandoffs x).resetCause = s.resetCause := rfl
@[simp] theorem setHandoffs_uptime (x : List Handoff) : (s.setHandoffs x).uptime = s.uptime := rfl
@[simp] theorem setHandoffs_active (x : List Handoff) : (s.setHandoffs x).active = s.active := rfl
@[simp] theorem setHandoffs_staged (x : List Handoff) : (s.setHandoffs x).staged = s.staged := rfl
@[simp] theorem setHandoffs_locked (x : List Handoff) : (s.setHandoffs x).locked = s.locked := rfl
@[simp] theorem setHandoffs_paramsPending (x : List Handoff) : (s.setHandoffs x).paramsPending = s.paramsPending := rfl
@[simp] theorem setHandoffs_ports (x : List Handoff) : (s.setHandoffs x).ports = s.ports := rfl
@[simp] theorem setHandoffs_channels (x : List Handoff) : (s.setHandoffs x).channels = s.channels := rfl
@[simp] theorem setHandoffs_stations (x : List Handoff) : (s.setHandoffs x).stations = s.stations := rfl
@[simp] theorem setHandoffs_reference (x : List Handoff) : (s.setHandoffs x).reference = s.reference := rfl
@[simp] theorem setHandoffs_banks (x : List Handoff) : (s.setHandoffs x).banks = s.banks := rfl
@[simp] theorem setHandoffs_demands (x : List Handoff) : (s.setHandoffs x).demands = s.demands := rfl
@[simp] theorem setHandoffs_trains (x : List Handoff) : (s.setHandoffs x).trains = s.trains := rfl
@[simp] theorem setHandoffs_shafts (x : List Handoff) : (s.setHandoffs x).shafts = s.shafts := rfl
@[simp] theorem setHandoffs_shares (x : List Handoff) : (s.setHandoffs x).shares = s.shares := rfl
@[simp] theorem setHandoffs_drives (x : List Handoff) : (s.setHandoffs x).drives = s.drives := rfl
@[simp] theorem setHandoffs_lines (x : List Handoff) : (s.setHandoffs x).lines = s.lines := rfl
@[simp] theorem setHandoffs_postures (x : List Handoff) : (s.setHandoffs x).postures = s.postures := rfl
@[simp] theorem setHandoffs_notices (x : List Handoff) : (s.setHandoffs x).notices = s.notices := rfl
@[simp] theorem setHandoffs_held (x : List Handoff) : (s.setHandoffs x).held = s.held := rfl
@[simp] theorem setHandoffs_raised (x : List Handoff) : (s.setHandoffs x).raised = s.raised := rfl
@[simp] theorem setHandoffs_pwm (x : List Handoff) : (s.setHandoffs x).pwm = s.pwm := rfl
@[simp] theorem setHandoffs_handoffs (x : List Handoff) : (s.setHandoffs x).handoffs = x := rfl
@[simp] theorem setHandoffs_staleReads (x : List Handoff) : (s.setHandoffs x).staleReads = s.staleReads := rfl
@[simp] theorem setHandoffs_port (x : List Handoff) (m : Link) : (s.setHandoffs x).port m = s.port m := rfl
@[simp] theorem setHandoffs_channel (x : List Handoff) (d : Channel) : (s.setHandoffs x).channel d = s.channel d := rfl
@[simp] theorem setHandoffs_station (x : List Handoff) (tt : Station) : (s.setHandoffs x).station tt = s.station tt := rfl
@[simp] theorem setHandoffs_bank (x : List Handoff) (j : Train) : (s.setHandoffs x).bank j = s.bank j := rfl
@[simp] theorem setHandoffs_demand (x : List Handoff) (j : Train) : (s.setHandoffs x).demand j = s.demand j := rfl
@[simp] theorem setHandoffs_train (x : List Handoff) (j : Train) : (s.setHandoffs x).train j = s.train j := rfl
@[simp] theorem setHandoffs_shaft (x : List Handoff) (g : Shaft) : (s.setHandoffs x).shaft g = s.shaft g := rfl
@[simp] theorem setHandoffs_share (x : List Handoff) (j : Train) : (s.setHandoffs x).share j = s.share j := rfl
@[simp] theorem setHandoffs_drive (x : List Handoff) (j : Train) : (s.setHandoffs x).drive j = s.drive j := rfl
@[simp] theorem setHandoffs_line (x : List Handoff) (q : Line) : (s.setHandoffs x).line q = s.line q := rfl
@[simp] theorem setHandoffs_posture (x : List Handoff) (j : Train) : (s.setHandoffs x).posture j = s.posture j := rfl
@[simp] theorem setHandoffs_notice (x : List Handoff) (m : Link) : (s.setHandoffs x).notice m = s.notice m := rfl
@[simp] theorem setHandoffs_right (x : List Handoff) (m : Link) : (s.setHandoffs x).right m = s.right m := rfl
@[simp] theorem setHandoffs_params (x : List Handoff) (j : Train) : (s.setHandoffs x).params j = s.params j := rfl
@[simp] theorem setHandoffs_shaftOf (x : List Handoff) (j : Train) : (s.setHandoffs x).shaftOf j = s.shaftOf j := rfl
@[simp] theorem setHandoffs_inSet (x : List Handoff) (m : Link) (j : Train) : (s.setHandoffs x).inSet m j = s.inSet m j := rfl

/-! handOn -/

@[simp] theorem handOn_pending (x : Handoff) : (s.handOn x).pending = s.pending := rfl
@[simp] theorem handOn_resetLow (x : Handoff) : (s.handOn x).resetLow = s.resetLow := rfl
@[simp] theorem handOn_resetCause (x : Handoff) : (s.handOn x).resetCause = s.resetCause := rfl
@[simp] theorem handOn_uptime (x : Handoff) : (s.handOn x).uptime = s.uptime := rfl
@[simp] theorem handOn_active (x : Handoff) : (s.handOn x).active = s.active := rfl
@[simp] theorem handOn_staged (x : Handoff) : (s.handOn x).staged = s.staged := rfl
@[simp] theorem handOn_locked (x : Handoff) : (s.handOn x).locked = s.locked := rfl
@[simp] theorem handOn_paramsPending (x : Handoff) : (s.handOn x).paramsPending = s.paramsPending := rfl
@[simp] theorem handOn_ports (x : Handoff) : (s.handOn x).ports = s.ports := rfl
@[simp] theorem handOn_channels (x : Handoff) : (s.handOn x).channels = s.channels := rfl
@[simp] theorem handOn_stations (x : Handoff) : (s.handOn x).stations = s.stations := rfl
@[simp] theorem handOn_reference (x : Handoff) : (s.handOn x).reference = s.reference := rfl
@[simp] theorem handOn_banks (x : Handoff) : (s.handOn x).banks = s.banks := rfl
@[simp] theorem handOn_demands (x : Handoff) : (s.handOn x).demands = s.demands := rfl
@[simp] theorem handOn_trains (x : Handoff) : (s.handOn x).trains = s.trains := rfl
@[simp] theorem handOn_shafts (x : Handoff) : (s.handOn x).shafts = s.shafts := rfl
@[simp] theorem handOn_shares (x : Handoff) : (s.handOn x).shares = s.shares := rfl
@[simp] theorem handOn_drives (x : Handoff) : (s.handOn x).drives = s.drives := rfl
@[simp] theorem handOn_lines (x : Handoff) : (s.handOn x).lines = s.lines := rfl
@[simp] theorem handOn_postures (x : Handoff) : (s.handOn x).postures = s.postures := rfl
@[simp] theorem handOn_notices (x : Handoff) : (s.handOn x).notices = s.notices := rfl
@[simp] theorem handOn_held (x : Handoff) : (s.handOn x).held = s.held := rfl
@[simp] theorem handOn_raised (x : Handoff) : (s.handOn x).raised = s.raised := rfl
@[simp] theorem handOn_pwm (x : Handoff) : (s.handOn x).pwm = s.pwm := rfl
@[simp] theorem handOn_handoffs (x : Handoff) : (s.handOn x).handoffs = s.handoffs ++ [x] := rfl
@[simp] theorem handOn_staleReads (x : Handoff) : (s.handOn x).staleReads = s.staleReads := rfl
@[simp] theorem handOn_port (x : Handoff) (m : Link) : (s.handOn x).port m = s.port m := rfl
@[simp] theorem handOn_channel (x : Handoff) (d : Channel) : (s.handOn x).channel d = s.channel d := rfl
@[simp] theorem handOn_station (x : Handoff) (tt : Station) : (s.handOn x).station tt = s.station tt := rfl
@[simp] theorem handOn_bank (x : Handoff) (j : Train) : (s.handOn x).bank j = s.bank j := rfl
@[simp] theorem handOn_demand (x : Handoff) (j : Train) : (s.handOn x).demand j = s.demand j := rfl
@[simp] theorem handOn_train (x : Handoff) (j : Train) : (s.handOn x).train j = s.train j := rfl
@[simp] theorem handOn_shaft (x : Handoff) (g : Shaft) : (s.handOn x).shaft g = s.shaft g := rfl
@[simp] theorem handOn_share (x : Handoff) (j : Train) : (s.handOn x).share j = s.share j := rfl
@[simp] theorem handOn_drive (x : Handoff) (j : Train) : (s.handOn x).drive j = s.drive j := rfl
@[simp] theorem handOn_line (x : Handoff) (q : Line) : (s.handOn x).line q = s.line q := rfl
@[simp] theorem handOn_posture (x : Handoff) (j : Train) : (s.handOn x).posture j = s.posture j := rfl
@[simp] theorem handOn_notice (x : Handoff) (m : Link) : (s.handOn x).notice m = s.notice m := rfl
@[simp] theorem handOn_right (x : Handoff) (m : Link) : (s.handOn x).right m = s.right m := rfl
@[simp] theorem handOn_params (x : Handoff) (j : Train) : (s.handOn x).params j = s.params j := rfl
@[simp] theorem handOn_shaftOf (x : Handoff) (j : Train) : (s.handOn x).shaftOf j = s.shaftOf j := rfl

end Sys2Proof.Machine
end

