-- ==== Sys2Proof/Laws/Ops.lean ====
section
/-! SUPPORT. The shared operations, each by what it can do: runs over a list, the hand-offs, the gate of the reset line, the notices and
the answer of a request. -/

namespace Sys2Proof.Machine

/-! Runs over a list. -/

@[simp] theorem forEach_nil {α : Type} (f : α → State → State) (s : State) : forEach [] f s = s := rfl

@[simp] theorem forEach_cons {α : Type} (x : α) (xs : List α) (f : α → State → State) (s : State) :
    forEach (x :: xs) f s = forEach xs f (f x s) := rfl

/-- What every step of a run keeps, the run keeps. -/
theorem forEach_induct {α : Type} {P : State → Prop} {xs : List α} {f : α → State → State}
    (step : ∀ x ∈ xs, ∀ s, P s → P (f x s)) {s : State} (start : P s) : P (forEach xs f s) := by
  induction xs generalizing s with
  | nil => exact start
  | cons x xs ih =>
    exact ih (fun y hy => step y (List.mem_cons_of_mem x hy)) (step x List.mem_cons_self s start)

/-! The gate of the reset line. -/

theorem whenLive_live {f : State → State} {s : State} (h : s.resetLow = false) : whenLive f s = .next (f s) := by
  simp [whenLive, h]

theorem whenLive_low {f : State → State} {s : State} (h : s.resetLow = true) : whenLive f s = .next s := by
  simp [whenLive, h]

/-- A gated command answers a next state: its effect while the part is live, the state as it was otherwise. -/
theorem whenLive_next {f : State → State} {s t : State} (h : whenLive f s = .next t) :
    (s.resetLow = false ∧ t = f s) ∨ (s.resetLow = true ∧ t = s) := by
  cases hl : s.resetLow
  · rw [whenLive_live hl] at h
    exact .inl ⟨rfl, by cases h; rfl⟩
  · rw [whenLive_low hl] at h
    exact .inr ⟨rfl, by cases h; rfl⟩

/-! The hand-offs (assumption 2). -/

theorem takeHandoff_some {s s' : State} {p : Handoff → Bool} {x : Handoff} (h : s.takeHandoff p = some (x, s')) :
    s.handoffs.find? p = some x ∧ s' = s.setHandoffs (s.handoffs.eraseP p) := by
  unfold State.takeHandoff at h
  split at h
  · cases h
  · next y hy =>
    cases h
    exact ⟨hy, rfl⟩

theorem takeHandoff_of_find {s : State} {p : Handoff → Bool} {x : Handoff} (h : s.handoffs.find? p = some x) :
    s.takeHandoff p = some (x, s.setHandoffs (s.handoffs.eraseP p)) := by
  simp [State.takeHandoff, h]

theorem takeHandoff_none {s : State} {p : Handoff → Bool} (h : s.handoffs.find? p = none) : s.takeHandoff p = none := by
  simp [State.takeHandoff, h]

/-- The hand-off taken is one of those in flight, and is of the kind asked for. -/
theorem takeHandoff_mem {s s' : State} {p : Handoff → Bool} {x : Handoff} (h : s.takeHandoff p = some (x, s')) :
    x ∈ s.handoffs ∧ p x = true :=
  ⟨List.mem_of_find?_eq_some (takeHandoff_some h).1, List.find?_some (takeHandoff_some h).1⟩

/-! Notices: a block's raise joins what the Notice Table has not handled; a notice event changes the pending sets, the attention lines and
the held list. -/

theorem setEntries_notice (s : State) (l m : Link) (es : List NoticeEntry) :
    (s.setEntries l es).notice m = if l = m then ⟨es, asksAttention es⟩ else s.notice m := setNotice_notice s l _ m

theorem setEntries_frame (s : State) (l : Link) (es : List NoticeEntry) :
    s.setEntries l es = { s with notices := (s.setEntries l es).notices } := rfl

theorem frame_notices_trans {s t u : State} (h : t = { s with notices := t.notices }) (h' : u = { t with notices := u.notices }) :
    u = { s with notices := u.notices } := by
  rw [h] at h'
  exact h'

theorem onRouted_frame (s : State) (c : Condition) (f : List NoticeEntry → List NoticeEntry) :
    s.onRouted c f = { s with notices := (s.onRouted c f).notices } := by
  refine forEach_induct (P := fun t => t = { s with notices := t.notices }) (fun l _ t h => ?_) rfl
  split
  · exact frame_notices_trans h rfl
  · exact h

/-- The whole effect of a notice event: on each link the class is routed to, the set changed and the line following it; on the others
nothing. -/
theorem onRouted_notice (s : State) (c : Condition) (f : List NoticeEntry → List NoticeEntry) (l : Link) :
    (s.onRouted c f).notice l =
      if s.active.routes c.cls l = true then ⟨f (s.notice l).entries, asksAttention (f (s.notice l).entries)⟩ else s.notice l := by
  cases l <;> simp only [State.onRouted, allLinks, forEach_cons, forEach_nil] <;>
    (repeat' split) <;> simp_all [State.setEntries, setNotice_notice]

/-- What a notice event changes: the held list, the pending sets and the attention lines. -/
theorem fileRaise_frame (s : State) (x : Raise) :
    s.fileRaise x = { s with held := (s.fileRaise x).held, notices := (s.fileRaise x).notices } := by
  cases x with
  | edge c => exact (onRouted_frame s c _).trans (by rw [State.fileRaise, onRouted_frame])
  | begins c => exact (onRouted_frame (s.setHeld _) c _).trans (by rw [State.fileRaise, onRouted_frame]; rfl)
  | ends c => exact (onRouted_frame (s.setHeld _) c _).trans (by rw [State.fileRaise, onRouted_frame]; rfl)

/-- What a raise makes of a pending set it is routed to. -/
def raiseEntries : Raise → List NoticeEntry → List NoticeEntry
  | .edge c => fileEdge c
  | .begins c => fileLevel c
  | .ends c => removeCondition c

/-- What a raise makes of the held list. -/
def raiseHeld : Raise → List Condition → List Condition
  | .edge _ => id
  | .begins c => holdCondition c
  | .ends c => List.filter (· ≠ c)

/-- A notice event on the held list. -/
theorem fileRaise_held (s : State) (x : Raise) : (s.fileRaise x).held = raiseHeld x s.held := by
  cases x <;> simp only [State.fileRaise, raiseHeld] <;> rw [onRouted_frame] <;> rfl

/-- A notice event on the set of a link: changed where the class is routed to the link, with the line following it. -/
theorem fileRaise_notice (s : State) (x : Raise) (l : Link) :
    (s.fileRaise x).notice l = if s.active.routes x.condition.cls l = true then
      ⟨raiseEntries x (s.notice l).entries, asksAttention (raiseEntries x (s.notice l).entries)⟩ else s.notice l := by
  cases x with
  | edge c => exact onRouted_notice s c _ l
  | begins c => exact onRouted_notice (s.setHeld _) c _ l
  | ends c => exact onRouted_notice (s.setHeld _) c _ l

/-- The Notice Table's own event handles the oldest raise, if there is one. -/
theorem handleNotice_cons {s : State} {x : Raise} {rest : List Raise} (h : s.raised = x :: rest) :
    s.handleNotice = (s.setRaised rest).fileRaise x := by
  rw [State.handleNotice, h]

theorem handleNotice_nil {s : State} (h : s.raised = []) : s.handleNotice = s := by
  rw [State.handleNotice, h]

theorem raise_frame (s : State) (c : Condition) : s.raise c = { s with raised := s.raised ++ [.edge c] } := rfl

theorem beginLevel_frame (s : State) (c : Condition) : s.beginLevel c = { s with raised := s.raised ++ [.begins c] } := rfl

theorem endLevel_frame (s : State) (c : Condition) : s.endLevel c = { s with raised := s.raised ++ [.ends c] } := rfl

/-! Dropped frames and answers (R167 to R169). -/

theorem dropFrame_frame (s : State) (l : Link) : s.dropFrame l = { s with ports := (s.dropFrame l).ports } := rfl

theorem dropFrame_port (s : State) (l m : Link) :
    (s.dropFrame l).port m = if l = m then { (s.port l).hunt with dropped := true } else s.port m := setPort_port s l _ m

/-- A request on a link whose transmitter is busy is dropped. -/
theorem answer_busy {s : State} {l : Link} {r : Response} (h : (s.port l).sending = some r) (kind tag : Byte) (f : RequestMeaning) :
    s.answer l kind tag f = s.dropFrame l := by
  simp [State.answer, h]

/-- A request on a link whose transmitter is idle is carried out with the receiver hunting, and its reply is sent. -/
theorem answer_idle {s : State} {l : Link} (h : (s.port l).sending = none) (kind tag : Byte) (f : RequestMeaning) :
    s.answer l kind tag f =
      (f (s.setPort l (s.port l).hunt)).1.setPort l
        { (f (s.setPort l (s.port l).hunt)).1.port l with
          sending := some ⟨kind ||| 0x80, tag, (f (s.setPort l (s.port l).hunt)).2.status,
            (f (s.setPort l (s.port l).hunt)).2.data⟩ } := by
  simp [State.answer, h]

/-- A refused request changes nothing but its Link Port. -/
theorem answer_refuse {s : State} {l : Link} (h : (s.port l).sending = none) (kind tag : Byte) (x : Status) :
    s.answer l kind tag (refuse x) =
      s.setPort l { (s.port l).hunt with sending := some ⟨kind ||| 0x80, tag, x, []⟩ } := by
  rw [answer_idle h]
  simp only [refuse, Reply.refuse, setPort_port_self]
  simp only [State.setPort]
  congr 1
  refine Vec.ext_get fun i => ?_
  simp only [Vec.get_set]
  split <;> rfl

/-! Arithmetic. -/

theorem clampPermille_le (n : Nat) : clampPermille n ≤ 1000 := Nat.min_le_right n 1000

theorem startTimer_isSome (d : Nat) : (startTimer d).isSome = true ↔ 0 < d := by
  unfold startTimer
  split <;> simp <;> omega

@[simp] theorem tickTimer_isSome (t : Timer) : (tickTimer t).isSome = t.isSome := by cases t <;> rfl

@[simp] theorem tickTimer_eq_none (t : Timer) : tickTimer t = none ↔ t = none := by cases t <;> simp [tickTimer]

variable (s : State)

/-! What `setEntries` leaves as it was. -/

@[simp] theorem setEntries_pending (l : Link) (es : List NoticeEntry) : (s.setEntries l es).pending = s.pending := by rw [setEntries_frame]
@[simp] theorem setEntries_resetLow (l : Link) (es : List NoticeEntry) : (s.setEntries l es).resetLow = s.resetLow := by rw [setEntries_frame]
@[simp] theorem setEntries_resetCause (l : Link) (es : List NoticeEntry) : (s.setEntries l es).resetCause = s.resetCause := by rw [setEntries_frame]
@[simp] theorem setEntries_uptime (l : Link) (es : List NoticeEntry) : (s.setEntries l es).uptime = s.uptime := by rw [setEntries_frame]
@[simp] theorem setEntries_active (l : Link) (es : List NoticeEntry) : (s.setEntries l es).active = s.active := by rw [setEntries_frame]
@[simp] theorem setEntries_staged (l : Link) (es : List NoticeEntry) : (s.setEntries l es).staged = s.staged := by rw [setEntries_frame]
@[simp] theorem setEntries_locked (l : Link) (es : List NoticeEntry) : (s.setEntries l es).locked = s.locked := by rw [setEntries_frame]
@[simp] theorem setEntries_paramsPending (l : Link) (es : List NoticeEntry) : (s.setEntries l es).paramsPending = s.paramsPending := by rw [setEntries_frame]
@[simp] theorem setEntries_ports (l : Link) (es : List NoticeEntry) : (s.setEntries l es).ports = s.ports := by rw [setEntries_frame]
@[simp] theorem setEntries_channels (l : Link) (es : List NoticeEntry) : (s.setEntries l es).channels = s.channels := by rw [setEntries_frame]
@[simp] theorem setEntries_stations (l : Link) (es : List NoticeEntry) : (s.setEntries l es).stations = s.stations := by rw [setEntries_frame]
@[simp] theorem setEntries_reference (l : Link) (es : List NoticeEntry) : (s.setEntries l es).reference = s.reference := by rw [setEntries_frame]
@[simp] theorem setEntries_banks (l : Link) (es : List NoticeEntry) : (s.setEntries l es).banks = s.banks := by rw [setEntries_frame]
@[simp] theorem setEntries_demands (l : Link) (es : List NoticeEntry) : (s.setEntries l es).demands = s.demands := by rw [setEntries_frame]
@[simp] theorem setEntries_trains (l : Link) (es : List NoticeEntry) : (s.setEntries l es).trains = s.trains := by rw [setEntries_frame]
@[simp] theorem setEntries_shafts (l : Link) (es : List NoticeEntry) : (s.setEntries l es).shafts = s.shafts := by rw [setEntries_frame]
@[simp] theorem setEntries_shares (l : Link) (es : List NoticeEntry) : (s.setEntries l es).shares = s.shares := by rw [setEntries_frame]
@[simp] theorem setEntries_drives (l : Link) (es : List NoticeEntry) : (s.setEntries l es).drives = s.drives := by rw [setEntries_frame]
@[simp] theorem setEntries_lines (l : Link) (es : List NoticeEntry) : (s.setEntries l es).lines = s.lines := by rw [setEntries_frame]
@[simp] theorem setEntries_postures (l : Link) (es : List NoticeEntry) : (s.setEntries l es).postures = s.postures := by rw [setEntries_frame]
@[simp] theorem setEntries_held (l : Link) (es : List NoticeEntry) : (s.setEntries l es).held = s.held := by rw [setEntries_frame]
@[simp] theorem setEntries_raised (l : Link) (es : List NoticeEntry) : (s.setEntries l es).raised = s.raised := by rw [setEntries_frame]
@[simp] theorem setEntries_pwm (l : Link) (es : List NoticeEntry) : (s.setEntries l es).pwm = s.pwm := by rw [setEntries_frame]
@[simp] theorem setEntries_handoffs (l : Link) (es : List NoticeEntry) : (s.setEntries l es).handoffs = s.handoffs := by rw [setEntries_frame]
@[simp] theorem setEntries_staleReads (l : Link) (es : List NoticeEntry) : (s.setEntries l es).staleReads = s.staleReads := by rw [setEntries_frame]
@[simp] theorem setEntries_port (l : Link) (es : List NoticeEntry) (m' : Link) : (s.setEntries l es).port m' = s.port m' := by
  rw [setEntries_frame]; rfl
@[simp] theorem setEntries_channel (l : Link) (es : List NoticeEntry) (c' : Channel) : (s.setEntries l es).channel c' = s.channel c' := by
  rw [setEntries_frame]; rfl
@[simp] theorem setEntries_station (l : Link) (es : List NoticeEntry) (st' : Station) : (s.setEntries l es).station st' = s.station st' := by
  rw [setEntries_frame]; rfl
@[simp] theorem setEntries_bank (l : Link) (es : List NoticeEntry) (k' : Train) : (s.setEntries l es).bank k' = s.bank k' := by
  rw [setEntries_frame]; rfl
@[simp] theorem setEntries_demand (l : Link) (es : List NoticeEntry) (k' : Train) : (s.setEntries l es).demand k' = s.demand k' := by
  rw [setEntries_frame]; rfl
@[simp] theorem setEntries_train (l : Link) (es : List NoticeEntry) (k' : Train) : (s.setEntries l es).train k' = s.train k' := by
  rw [setEntries_frame]; rfl
@[simp] theorem setEntries_shaft (l : Link) (es : List NoticeEntry) (h' : Shaft) : (s.setEntries l es).shaft h' = s.shaft h' := by
  rw [setEntries_frame]; rfl
@[simp] theorem setEntries_share (l : Link) (es : List NoticeEntry) (k' : Train) : (s.setEntries l es).share k' = s.share k' := by
  rw [setEntries_frame]; rfl
@[simp] theorem setEntries_drive (l : Link) (es : List NoticeEntry) (k' : Train) : (s.setEntries l es).drive k' = s.drive k' := by
  rw [setEntries_frame]; rfl
@[simp] theorem setEntries_line (l : Link) (es : List NoticeEntry) (n' : Line) : (s.setEntries l es).line n' = s.line n' := by
  rw [setEntries_frame]; rfl
@[simp] theorem setEntries_posture (l : Link) (es : List NoticeEntry) (k' : Train) : (s.setEntries l es).posture k' = s.posture k' := by
  rw [setEntries_frame]; rfl
@[simp] theorem setEntries_right (l : Link) (es : List NoticeEntry) (m' : Link) : (s.setEntries l es).right m' = s.right m' := by
  rw [setEntries_frame]; rfl
@[simp] theorem setEntries_params (l : Link) (es : List NoticeEntry) (k' : Train) : (s.setEntries l es).params k' = s.params k' := by
  rw [setEntries_frame]; rfl
@[simp] theorem setEntries_shaftOf (l : Link) (es : List NoticeEntry) (k' : Train) : (s.setEntries l es).shaftOf k' = s.shaftOf k' := by
  rw [setEntries_frame]; rfl

/-! What `raise` leaves as it was. -/

@[simp] theorem raise_pending (c : Condition) : (s.raise c).pending = s.pending := rfl
@[simp] theorem raise_resetLow (c : Condition) : (s.raise c).resetLow = s.resetLow := rfl
@[simp] theorem raise_resetCause (c : Condition) : (s.raise c).resetCause = s.resetCause := rfl
@[simp] theorem raise_uptime (c : Condition) : (s.raise c).uptime = s.uptime := rfl
@[simp] theorem raise_active (c : Condition) : (s.raise c).active = s.active := rfl
@[simp] theorem raise_staged (c : Condition) : (s.raise c).staged = s.staged := rfl
@[simp] theorem raise_locked (c : Condition) : (s.raise c).locked = s.locked := rfl
@[simp] theorem raise_paramsPending (c : Condition) : (s.raise c).paramsPending = s.paramsPending := rfl
@[simp] theorem raise_ports (c : Condition) : (s.raise c).ports = s.ports := rfl
@[simp] theorem raise_channels (c : Condition) : (s.raise c).channels = s.channels := rfl
@[simp] theorem raise_stations (c : Condition) : (s.raise c).stations = s.stations := rfl
@[simp] theorem raise_reference (c : Condition) : (s.raise c).reference = s.reference := rfl
@[simp] theorem raise_banks (c : Condition) : (s.raise c).banks = s.banks := rfl
@[simp] theorem raise_demands (c : Condition) : (s.raise c).demands = s.demands := rfl
@[simp] theorem raise_trains (c : Condition) : (s.raise c).trains = s.trains := rfl
@[simp] theorem raise_shafts (c : Condition) : (s.raise c).shafts = s.shafts := rfl
@[simp] theorem raise_shares (c : Condition) : (s.raise c).shares = s.shares := rfl
@[simp] theorem raise_drives (c : Condition) : (s.raise c).drives = s.drives := rfl
@[simp] theorem raise_lines (c : Condition) : (s.raise c).lines = s.lines := rfl
@[simp] theorem raise_postures (c : Condition) : (s.raise c).postures = s.postures := rfl
@[simp] theorem raise_pwm (c : Condition) : (s.raise c).pwm = s.pwm := rfl
@[simp] theorem raise_handoffs (c : Condition) : (s.raise c).handoffs = s.handoffs := rfl
@[simp] theorem raise_staleReads (c : Condition) : (s.raise c).staleReads = s.staleReads := rfl
@[simp] theorem raise_notices (c : Condition) : (s.raise c).notices = s.notices := rfl
@[simp] theorem raise_held (c : Condition) : (s.raise c).held = s.held := rfl
@[simp] theorem raise_raised (c : Condition) : (s.raise c).raised = s.raised ++ [.edge c] := rfl
@[simp] theorem raise_port (c : Condition) (m' : Link) : (s.raise c).port m' = s.port m' := rfl
@[simp] theorem raise_channel (c : Condition) (c' : Channel) : (s.raise c).channel c' = s.channel c' := rfl
@[simp] theorem raise_station (c : Condition) (st' : Station) : (s.raise c).station st' = s.station st' := rfl
@[simp] theorem raise_bank (c : Condition) (k' : Train) : (s.raise c).bank k' = s.bank k' := rfl
@[simp] theorem raise_demand (c : Condition) (k' : Train) : (s.raise c).demand k' = s.demand k' := rfl
@[simp] theorem raise_train (c : Condition) (k' : Train) : (s.raise c).train k' = s.train k' := rfl
@[simp] theorem raise_shaft (c : Condition) (h' : Shaft) : (s.raise c).shaft h' = s.shaft h' := rfl
@[simp] theorem raise_share (c : Condition) (k' : Train) : (s.raise c).share k' = s.share k' := rfl
@[simp] theorem raise_drive (c : Condition) (k' : Train) : (s.raise c).drive k' = s.drive k' := rfl
@[simp] theorem raise_line (c : Condition) (n' : Line) : (s.raise c).line n' = s.line n' := rfl
@[simp] theorem raise_posture (c : Condition) (k' : Train) : (s.raise c).posture k' = s.posture k' := rfl
@[simp] theorem raise_notice (c : Condition) (m' : Link) : (s.raise c).notice m' = s.notice m' := rfl
@[simp] theorem raise_right (c : Condition) (m' : Link) : (s.raise c).right m' = s.right m' := rfl
@[simp] theorem raise_params (c : Condition) (k' : Train) : (s.raise c).params k' = s.params k' := rfl
@[simp] theorem raise_shaftOf (c : Condition) (k' : Train) : (s.raise c).shaftOf k' = s.shaftOf k' := rfl

/-! What `beginLevel` leaves as it was. -/

@[simp] theorem beginLevel_pending (c : Condition) : (s.beginLevel c).pending = s.pending := rfl
@[simp] theorem beginLevel_resetLow (c : Condition) : (s.beginLevel c).resetLow = s.resetLow := rfl
@[simp] theorem beginLevel_resetCause (c : Condition) : (s.beginLevel c).resetCause = s.resetCause := rfl
@[simp] theorem beginLevel_uptime (c : Condition) : (s.beginLevel c).uptime = s.uptime := rfl
@[simp] theorem beginLevel_active (c : Condition) : (s.beginLevel c).active = s.active := rfl
@[simp] theorem beginLevel_staged (c : Condition) : (s.beginLevel c).staged = s.staged := rfl
@[simp] theorem beginLevel_locked (c : Condition) : (s.beginLevel c).locked = s.locked := rfl
@[simp] theorem beginLevel_paramsPending (c : Condition) : (s.beginLevel c).paramsPending = s.paramsPending := rfl
@[simp] theorem beginLevel_ports (c : Condition) : (s.beginLevel c).ports = s.ports := rfl
@[simp] theorem beginLevel_channels (c : Condition) : (s.beginLevel c).channels = s.channels := rfl
@[simp] theorem beginLevel_stations (c : Condition) : (s.beginLevel c).stations = s.stations := rfl
@[simp] theorem beginLevel_reference (c : Condition) : (s.beginLevel c).reference = s.reference := rfl
@[simp] theorem beginLevel_banks (c : Condition) : (s.beginLevel c).banks = s.banks := rfl
@[simp] theorem beginLevel_demands (c : Condition) : (s.beginLevel c).demands = s.demands := rfl
@[simp] theorem beginLevel_trains (c : Condition) : (s.beginLevel c).trains = s.trains := rfl
@[simp] theorem beginLevel_shafts (c : Condition) : (s.beginLevel c).shafts = s.shafts := rfl
@[simp] theorem beginLevel_shares (c : Condition) : (s.beginLevel c).shares = s.shares := rfl
@[simp] theorem beginLevel_drives (c : Condition) : (s.beginLevel c).drives = s.drives := rfl
@[simp] theorem beginLevel_lines (c : Condition) : (s.beginLevel c).lines = s.lines := rfl
@[simp] theorem beginLevel_postures (c : Condition) : (s.beginLevel c).postures = s.postures := rfl
@[simp] theorem beginLevel_pwm (c : Condition) : (s.beginLevel c).pwm = s.pwm := rfl
@[simp] theorem beginLevel_handoffs (c : Condition) : (s.beginLevel c).handoffs = s.handoffs := rfl
@[simp] theorem beginLevel_staleReads (c : Condition) : (s.beginLevel c).staleReads = s.staleReads := rfl
@[simp] theorem beginLevel_notices (c : Condition) : (s.beginLevel c).notices = s.notices := rfl
@[simp] theorem beginLevel_held (c : Condition) : (s.beginLevel c).held = s.held := rfl
@[simp] theorem beginLevel_raised (c : Condition) : (s.beginLevel c).raised = s.raised ++ [.begins c] := rfl
@[simp] theorem beginLevel_port (c : Condition) (m' : Link) : (s.beginLevel c).port m' = s.port m' := rfl
@[simp] theorem beginLevel_channel (c : Condition) (c' : Channel) : (s.beginLevel c).channel c' = s.channel c' := rfl
@[simp] theorem beginLevel_station (c : Condition) (st' : Station) : (s.beginLevel c).station st' = s.station st' := rfl
@[simp] theorem beginLevel_bank (c : Condition) (k' : Train) : (s.beginLevel c).bank k' = s.bank k' := rfl
@[simp] theorem beginLevel_demand (c : Condition) (k' : Train) : (s.beginLevel c).demand k' = s.demand k' := rfl
@[simp] theorem beginLevel_train (c : Condition) (k' : Train) : (s.beginLevel c).train k' = s.train k' := rfl
@[simp] theorem beginLevel_shaft (c : Condition) (h' : Shaft) : (s.beginLevel c).shaft h' = s.shaft h' := rfl
@[simp] theorem beginLevel_share (c : Condition) (k' : Train) : (s.beginLevel c).share k' = s.share k' := rfl
@[simp] theorem beginLevel_drive (c : Condition) (k' : Train) : (s.beginLevel c).drive k' = s.drive k' := rfl
@[simp] theorem beginLevel_line (c : Condition) (n' : Line) : (s.beginLevel c).line n' = s.line n' := rfl
@[simp] theorem beginLevel_posture (c : Condition) (k' : Train) : (s.beginLevel c).posture k' = s.posture k' := rfl
@[simp] theorem beginLevel_notice (c : Condition) (m' : Link) : (s.beginLevel c).notice m' = s.notice m' := rfl
@[simp] theorem beginLevel_right (c : Condition) (m' : Link) : (s.beginLevel c).right m' = s.right m' := rfl
@[simp] theorem beginLevel_params (c : Condition) (k' : Train) : (s.beginLevel c).params k' = s.params k' := rfl
@[simp] theorem beginLevel_shaftOf (c : Condition) (k' : Train) : (s.beginLevel c).shaftOf k' = s.shaftOf k' := rfl

/-! What `endLevel` leaves as it was. -/

@[simp] theorem endLevel_pending (c : Condition) : (s.endLevel c).pending = s.pending := rfl
@[simp] theorem endLevel_resetLow (c : Condition) : (s.endLevel c).resetLow = s.resetLow := rfl
@[simp] theorem endLevel_resetCause (c : Condition) : (s.endLevel c).resetCause = s.resetCause := rfl
@[simp] theorem endLevel_uptime (c : Condition) : (s.endLevel c).uptime = s.uptime := rfl
@[simp] theorem endLevel_active (c : Condition) : (s.endLevel c).active = s.active := rfl
@[simp] theorem endLevel_staged (c : Condition) : (s.endLevel c).staged = s.staged := rfl
@[simp] theorem endLevel_locked (c : Condition) : (s.endLevel c).locked = s.locked := rfl
@[simp] theorem endLevel_paramsPending (c : Condition) : (s.endLevel c).paramsPending = s.paramsPending := rfl
@[simp] theorem endLevel_ports (c : Condition) : (s.endLevel c).ports = s.ports := rfl
@[simp] theorem endLevel_channels (c : Condition) : (s.endLevel c).channels = s.channels := rfl
@[simp] theorem endLevel_stations (c : Condition) : (s.endLevel c).stations = s.stations := rfl
@[simp] theorem endLevel_reference (c : Condition) : (s.endLevel c).reference = s.reference := rfl
@[simp] theorem endLevel_banks (c : Condition) : (s.endLevel c).banks = s.banks := rfl
@[simp] theorem endLevel_demands (c : Condition) : (s.endLevel c).demands = s.demands := rfl
@[simp] theorem endLevel_trains (c : Condition) : (s.endLevel c).trains = s.trains := rfl
@[simp] theorem endLevel_shafts (c : Condition) : (s.endLevel c).shafts = s.shafts := rfl
@[simp] theorem endLevel_shares (c : Condition) : (s.endLevel c).shares = s.shares := rfl
@[simp] theorem endLevel_drives (c : Condition) : (s.endLevel c).drives = s.drives := rfl
@[simp] theorem endLevel_lines (c : Condition) : (s.endLevel c).lines = s.lines := rfl
@[simp] theorem endLevel_postures (c : Condition) : (s.endLevel c).postures = s.postures := rfl
@[simp] theorem endLevel_pwm (c : Condition) : (s.endLevel c).pwm = s.pwm := rfl
@[simp] theorem endLevel_handoffs (c : Condition) : (s.endLevel c).handoffs = s.handoffs := rfl
@[simp] theorem endLevel_staleReads (c : Condition) : (s.endLevel c).staleReads = s.staleReads := rfl
@[simp] theorem endLevel_notices (c : Condition) : (s.endLevel c).notices = s.notices := rfl
@[simp] theorem endLevel_held (c : Condition) : (s.endLevel c).held = s.held := rfl
@[simp] theorem endLevel_raised (c : Condition) : (s.endLevel c).raised = s.raised ++ [.ends c] := rfl
@[simp] theorem endLevel_port (c : Condition) (m' : Link) : (s.endLevel c).port m' = s.port m' := rfl
@[simp] theorem endLevel_channel (c : Condition) (c' : Channel) : (s.endLevel c).channel c' = s.channel c' := rfl
@[simp] theorem endLevel_station (c : Condition) (st' : Station) : (s.endLevel c).station st' = s.station st' := rfl
@[simp] theorem endLevel_bank (c : Condition) (k' : Train) : (s.endLevel c).bank k' = s.bank k' := rfl
@[simp] theorem endLevel_demand (c : Condition) (k' : Train) : (s.endLevel c).demand k' = s.demand k' := rfl
@[simp] theorem endLevel_train (c : Condition) (k' : Train) : (s.endLevel c).train k' = s.train k' := rfl
@[simp] theorem endLevel_shaft (c : Condition) (h' : Shaft) : (s.endLevel c).shaft h' = s.shaft h' := rfl
@[simp] theorem endLevel_share (c : Condition) (k' : Train) : (s.endLevel c).share k' = s.share k' := rfl
@[simp] theorem endLevel_drive (c : Condition) (k' : Train) : (s.endLevel c).drive k' = s.drive k' := rfl
@[simp] theorem endLevel_line (c : Condition) (n' : Line) : (s.endLevel c).line n' = s.line n' := rfl
@[simp] theorem endLevel_posture (c : Condition) (k' : Train) : (s.endLevel c).posture k' = s.posture k' := rfl
@[simp] theorem endLevel_notice (c : Condition) (m' : Link) : (s.endLevel c).notice m' = s.notice m' := rfl
@[simp] theorem endLevel_right (c : Condition) (m' : Link) : (s.endLevel c).right m' = s.right m' := rfl
@[simp] theorem endLevel_params (c : Condition) (k' : Train) : (s.endLevel c).params k' = s.params k' := rfl
@[simp] theorem endLevel_shaftOf (c : Condition) (k' : Train) : (s.endLevel c).shaftOf k' = s.shaftOf k' := rfl

/-! What `dropFrame` leaves as it was. -/

@[simp] theorem dropFrame_pending (l : Link) : (s.dropFrame l).pending = s.pending := by rw [dropFrame_frame]
@[simp] theorem dropFrame_resetLow (l : Link) : (s.dropFrame l).resetLow = s.resetLow := by rw [dropFrame_frame]
@[simp] theorem dropFrame_resetCause (l : Link) : (s.dropFrame l).resetCause = s.resetCause := by rw [dropFrame_frame]
@[simp] theorem dropFrame_uptime (l : Link) : (s.dropFrame l).uptime = s.uptime := by rw [dropFrame_frame]
@[simp] theorem dropFrame_active (l : Link) : (s.dropFrame l).active = s.active := by rw [dropFrame_frame]
@[simp] theorem dropFrame_staged (l : Link) : (s.dropFrame l).staged = s.staged := by rw [dropFrame_frame]
@[simp] theorem dropFrame_locked (l : Link) : (s.dropFrame l).locked = s.locked := by rw [dropFrame_frame]
@[simp] theorem dropFrame_paramsPending (l : Link) : (s.dropFrame l).paramsPending = s.paramsPending := by rw [dropFrame_frame]
@[simp] theorem dropFrame_channels (l : Link) : (s.dropFrame l).channels = s.channels := by rw [dropFrame_frame]
@[simp] theorem dropFrame_stations (l : Link) : (s.dropFrame l).stations = s.stations := by rw [dropFrame_frame]
@[simp] theorem dropFrame_reference (l : Link) : (s.dropFrame l).reference = s.reference := by rw [dropFrame_frame]
@[simp] theorem dropFrame_banks (l : Link) : (s.dropFrame l).banks = s.banks := by rw [dropFrame_frame]
@[simp] theorem dropFrame_demands (l : Link) : (s.dropFrame l).demands = s.demands := by rw [dropFrame_frame]
@[simp] theorem dropFrame_trains (l : Link) : (s.dropFrame l).trains = s.trains := by rw [dropFrame_frame]
@[simp] theorem dropFrame_shafts (l : Link) : (s.dropFrame l).shafts = s.shafts := by rw [dropFrame_frame]
@[simp] theorem dropFrame_shares (l : Link) : (s.dropFrame l).shares = s.shares := by rw [dropFrame_frame]
@[simp] theorem dropFrame_drives (l : Link) : (s.dropFrame l).drives = s.drives := by rw [dropFrame_frame]
@[simp] theorem dropFrame_lines (l : Link) : (s.dropFrame l).lines = s.lines := by rw [dropFrame_frame]
@[simp] theorem dropFrame_postures (l : Link) : (s.dropFrame l).postures = s.postures := by rw [dropFrame_frame]
@[simp] theorem dropFrame_notices (l : Link) : (s.dropFrame l).notices = s.notices := by rw [dropFrame_frame]
@[simp] theorem dropFrame_held (l : Link) : (s.dropFrame l).held = s.held := by rw [dropFrame_frame]
@[simp] theorem dropFrame_raised (l : Link) : (s.dropFrame l).raised = s.raised := by rw [dropFrame_frame]
@[simp] theorem dropFrame_pwm (l : Link) : (s.dropFrame l).pwm = s.pwm := by rw [dropFrame_frame]
@[simp] theorem dropFrame_handoffs (l : Link) : (s.dropFrame l).handoffs = s.handoffs := by rw [dropFrame_frame]
@[simp] theorem dropFrame_staleReads (l : Link) : (s.dropFrame l).staleReads = s.staleReads := by rw [dropFrame_frame]
@[simp] theorem dropFrame_channel (l : Link) (c' : Channel) : (s.dropFrame l).channel c' = s.channel c' := by
  rw [dropFrame_frame]; rfl
@[simp] theorem dropFrame_station (l : Link) (st' : Station) : (s.dropFrame l).station st' = s.station st' := by
  rw [dropFrame_frame]; rfl
@[simp] theorem dropFrame_bank (l : Link) (k' : Train) : (s.dropFrame l).bank k' = s.bank k' := by
  rw [dropFrame_frame]; rfl
@[simp] theorem dropFrame_demand (l : Link) (k' : Train) : (s.dropFrame l).demand k' = s.demand k' := by
  rw [dropFrame_frame]; rfl
@[simp] theorem dropFrame_train (l : Link) (k' : Train) : (s.dropFrame l).train k' = s.train k' := by
  rw [dropFrame_frame]; rfl
@[simp] theorem dropFrame_shaft (l : Link) (h' : Shaft) : (s.dropFrame l).shaft h' = s.shaft h' := by
  rw [dropFrame_frame]; rfl
@[simp] theorem dropFrame_share (l : Link) (k' : Train) : (s.dropFrame l).share k' = s.share k' := by
  rw [dropFrame_frame]; rfl
@[simp] theorem dropFrame_drive (l : Link) (k' : Train) : (s.dropFrame l).drive k' = s.drive k' := by
  rw [dropFrame_frame]; rfl
@[simp] theorem dropFrame_line (l : Link) (n' : Line) : (s.dropFrame l).line n' = s.line n' := by
  rw [dropFrame_frame]; rfl
@[simp] theorem dropFrame_posture (l : Link) (k' : Train) : (s.dropFrame l).posture k' = s.posture k' := by
  rw [dropFrame_frame]; rfl
@[simp] theorem dropFrame_notice (l : Link) (m' : Link) : (s.dropFrame l).notice m' = s.notice m' := by
  rw [dropFrame_frame]; rfl
@[simp] theorem dropFrame_right (l : Link) (m' : Link) : (s.dropFrame l).right m' = s.right m' := by
  rw [dropFrame_frame]; rfl
@[simp] theorem dropFrame_params (l : Link) (k' : Train) : (s.dropFrame l).params k' = s.params k' := by
  rw [dropFrame_frame]; rfl
@[simp] theorem dropFrame_shaftOf (l : Link) (k' : Train) : (s.dropFrame l).shaftOf k' = s.shaftOf k' := by
  rw [dropFrame_frame]; rfl

end Sys2Proof.Machine
end

