-- ==== Sys2Proof/Laws/Frames.lean ====
section
/-! SUPPORT. Which parts of the state each larger operation can change: one equation per operation, and from it one lemma per part left as
it was. -/

namespace Sys2Proof.Machine

/-! The Train Sequencer's operations change trains and shafts, and raise notices. -/

/-- Two states that agree but for trains, shafts and what the Notice Table has been told. -/
def SameButTrains (s t : State) : Prop := t = { s with trains := t.trains, shafts := t.shafts, raised := t.raised }

theorem SameButTrains.refl (s : State) : SameButTrains s s := rfl

theorem SameButTrains.trans {s t u : State} (h : SameButTrains s t) (h' : SameButTrains t u) : SameButTrains s u := by
  unfold SameButTrains at h h' ⊢
  rw [h] at h'
  exact h'

theorem setTrain_same (s : State) (k : Train) (x : TrainRec) : SameButTrains s (s.setTrain k x) := rfl
theorem setShaft_same (s : State) (h : Shaft) (x : ShaftRec) : SameButTrains s (s.setShaft h x) := rfl
theorem raise_same (s : State) (c : Condition) : SameButTrains s (s.raise c) := rfl
theorem beginLevel_same (s : State) (c : Condition) : SameButTrains s (s.beginLevel c) := rfl
theorem endLevel_same (s : State) (c : Condition) : SameButTrains s (s.endLevel c) := rfl

theorem setBases_same (s : State) (k : Train) (b : Bases) : SameButTrains s (s.setBases k b) := rfl
theorem setDwell_same (s : State) (k : Train) (t : Timer) : SameButTrains s (s.setDwell k t) := rfl
theorem startDwell_same (s : State) (k : Train) : SameButTrains s (s.startDwell k) := rfl
theorem setWaiting_same (s : State) (k : Train) (w : Option Mode) : SameButTrains s (s.setWaiting k w) := rfl
theorem setPendingForce_same (s : State) (k : Train) (b : Bool) : SameButTrains s (s.setPendingForce k b) := rfl
theorem setRecord_same (s : State) (k : Train) (r : Changeover) : SameButTrains s (s.setRecord k r) := rfl
theorem leaveWaitList_same (s : State) (k : Train) : SameButTrains s (s.leaveWaitList k) := rfl
theorem dropWaiting_same (s : State) (k : Train) : SameButTrains s (s.dropWaiting k) := rfl
theorem replaceWaiting_same (s : State) (k : Train) (m : Mode) : SameButTrains s (s.replaceWaiting k m) := rfl
theorem joinWaitList_same (s : State) (k : Train) (m : Mode) : SameButTrains s (s.joinWaitList k m) := rfl
theorem addHolder_same (s : State) (h : Shaft) (k : Train) : SameButTrains s (s.addHolder h k) := rfl
theorem dropHolder_same (s : State) (h : Shaft) (k : Train) : SameButTrains s (s.dropHolder h k) := rfl

theorem enterState_same (s : State) (k : Train) (st : TrainState) : SameButTrains s (s.enterState k st) :=
  (setTrain_same s k _).trans (raise_same _ _)

theorem enterSteady_same (s : State) (k : Train) (m : Mode) : SameButTrains s (s.enterSteady k m) :=
  (enterState_same s k _).trans ((setBases_same _ k _).trans (startDwell_same _ k))

theorem runSteps_same (k : Train) (target : Mode) (steps : List Step) (i : Nat) (s : State) :
    SameButTrains s (State.runSteps k target steps i s).1 := by
  induction steps generalizing i s with
  | nil => exact SameButTrains.refl s
  | cons st rest ih =>
    unfold State.runSteps
    cases st <;> dsimp only <;> (repeat' split) <;>
      first
      | exact setBases_same s k _
      | exact (setBases_same s k _).trans (ih _ _)
      | exact (setBases_same s k _).trans ((setBases_same _ k _).trans (ih _ _))

theorem proceed_same (s : State) (k : Train) (r : Changeover) (i : Nat) : SameButTrains s (s.proceed k r i).1 := by
  unfold State.proceed
  dsimp only
  split
  · exact runSteps_same _ _ _ _ _
  · exact (runSteps_same _ _ _ _ _).trans (setRecord_same _ _ _)

theorem startChangeover_same (s : State) (k : Train) (source target : Mode) :
    SameButTrains s (s.startChangeover k source target).1 :=
  (enterState_same s k _).trans ((setPendingForce_same _ k _).trans ((setDwell_same _ k _).trans (proceed_same _ _ _ _)))

theorem grantHead_same (s : State) (h : Shaft) (e : WaitEntry) (rest : List WaitEntry) :
    SameButTrains s (s.grantHead h e rest).1 := by
  have start : SameButTrains s
      (((s.setShaft h { s.shaft h with waitList := rest }).addHolder h e.train).setWaiting e.train none) := rfl
  unfold State.grantHead
  dsimp only
  split
  · exact start
  · split
    · exact start.trans ((startChangeover_same _ _ _ _).trans ((enterSteady_same _ _ _).trans (dropHolder_same _ _ _)))
    · exact start.trans (startChangeover_same _ _ _ _)

theorem grantChain_same (n : Nat) (h : Shaft) (s : State) : SameButTrains s (State.grantChain n h s) := by
  induction n generalizing s with
  | zero => exact SameButTrains.refl s
  | succ n ih =>
    unfold State.grantChain
    split
    · exact SameButTrains.refl s
    · dsimp only
      split
      · exact (grantHead_same _ _ _ _).trans (ih _)
      · exact grantHead_same _ _ _ _

theorem releaseSlot_same (s : State) (k : Train) : SameButTrains s (s.releaseSlot k) :=
  (dropHolder_same s _ k).trans (grantChain_same _ _ _)

theorem complete_same (s : State) (k : Train) (target : Mode) : SameButTrains s (s.complete k target) := by
  have start : SameButTrains s ((s.enterSteady k target).setPendingForce k false) :=
    (enterSteady_same s k target).trans (setPendingForce_same _ _ _)
  unfold State.complete
  dsimp only
  generalize (s.enterSteady k target).setPendingForce k false = u at start ⊢
  split
  · split
    · exact start.trans (releaseSlot_same u k)
    · split
      · exact start.trans ((enterSteady_same u k _).trans (releaseSlot_same _ k))
      · split
        · exact start.trans ((startChangeover_same u k _ _).trans ((enterSteady_same _ k _).trans (releaseSlot_same _ k)))
        · exact start.trans (startChangeover_same u k _ _)
  · exact start.trans (releaseSlot_same u k)

theorem completeStep_same (s : State) (k : Train) (r : Changeover) : SameButTrains s (s.completeStep k r) := by
  unfold State.completeStep
  dsimp only
  split
  · exact (proceed_same _ _ _ _).trans (complete_same _ _ _)
  · exact proceed_same _ _ _ _

theorem requestSlot_same (s : State) (k : Train) (m target : Mode) : SameButTrains s (s.requestSlot k m target) := by
  unfold State.requestSlot
  dsimp only
  (repeat' split) <;>
    first
    | exact SameButTrains.refl s
    | exact replaceWaiting_same _ _ _
    | exact joinWaitList_same _ _ _
    | exact (addHolder_same _ _ _).trans ((startChangeover_same _ _ _ _).trans ((enterSteady_same _ _ _).trans (releaseSlot_same _ _)))
    | exact (addHolder_same _ _ _).trans (startChangeover_same _ _ _ _)

theorem decideSteady_same (s : State) (k : Train) (m target : Mode) (force : Bool) :
    SameButTrains s (s.decideSteady k m target force) := by
  have dropped : SameButTrains s (if (s.train k).waiting.isSome then s.dropWaiting k else s) := by
    split
    · exact dropWaiting_same s k
    · exact SameButTrains.refl s
  unfold State.decideSteady
  dsimp only
  split
  · exact dropped
  split
  · exact (dropWaiting_same s k).trans (enterSteady_same _ k _)
  split
  · exact dropped
  split
  · exact (dropWaiting_same s k).trans (enterSteady_same _ k _)
  · exact requestSlot_same s k m target

theorem decideChangeover_same (s : State) (k : Train) (r : Changeover) (target : Mode) (force : Bool) :
    SameButTrains s (s.decideChangeover k r target force) := by
  unfold State.decideChangeover
  (repeat' split) <;>
    first
    | exact SameButTrains.refl s
    | exact setPendingForce_same _ _ _
    | exact (enterSteady_same _ _ _).trans ((setPendingForce_same _ _ _).trans (releaseSlot_same _ _))

theorem decideTarget_same (s : State) (k : Train) : SameButTrains s (s.decideTarget k) := by
  unfold State.decideTarget
  (repeat' split) <;>
    first
    | exact SameButTrains.refl s
    | exact decideSteady_same _ _ _ _ _
    | exact decideChangeover_same _ _ _ _ _

theorem takeOver_same (s : State) (k : Train) (st : TrainState) (b : Bases) : SameButTrains s (s.takeOver k st b) := by
  have entered : ∀ s : State, SameButTrains s (((s.enterState k st).setBases k b).setDwell k none) := fun s =>
    (enterState_same s k st).trans ((setBases_same _ k b).trans (setDwell_same _ k none))
  unfold State.takeOver
  dsimp only
  split
  · exact (entered s).trans ((setPendingForce_same _ _ _).trans (releaseSlot_same _ _))
  · exact (dropWaiting_same s k).trans (entered _)
  · exact entered s
  · exact entered s

theorem leaveHeld_same (s : State) (k : Train) : SameButTrains s (s.leaveHeld k) := by
  unfold State.leaveHeld
  split
  · exact enterSteady_same _ _ _
  · exact SameButTrains.refl s

theorem handOut_same (n : Nat) (h : Shaft) (s : State) : SameButTrains s (State.handOut n h s) := by
  induction n generalizing s with
  | zero => exact SameButTrains.refl s
  | succ n ih =>
    unfold State.handOut
    split
    · exact SameButTrains.refl s
    · split
      · exact (grantHead_same _ _ _ _).trans (ih _)
      · exact SameButTrains.refl s

/-- The end of an event changes trains (their marks) and hand-offs. -/
theorem handOnBases_frame (s : State) (k : Train) :
    State.handOnBases k s =
      { s with trains := (State.handOnBases k s).trains, handoffs := (State.handOnBases k s).handoffs } := by
  unfold State.handOnBases
  dsimp only
  (repeat' split) <;> rfl

theorem frame_trains_handoffs_trans {s t u : State} (h : t = { s with trains := t.trains, handoffs := t.handoffs })
    (h' : u = { t with trains := u.trains, handoffs := u.handoffs }) :
    u = { s with trains := u.trains, handoffs := u.handoffs } := by
  rw [h] at h'
  exact h'

theorem endEvent_frame (s : State) :
    s.endEvent = { s with trains := s.endEvent.trains, handoffs := s.endEvent.handoffs } :=
  forEach_induct (P := fun t => t = { s with trains := t.trains, handoffs := t.handoffs })
    (fun k _ t h => frame_trains_handoffs_trans h (handOnBases_frame t k)) rfl

/-! SAFE. -/

theorem enterSafe_same (s : State) (k : Train) : SameButTrains s (s.enterSafe k) := by
  unfold State.enterSafe
  split
  · exact SameButTrains.refl s
  · exact (takeOver_same s k .safe postureBases).trans (beginLevel_same _ _)

theorem leaveSafe_same (s : State) (k : Train) : SameButTrains s (s.leaveSafe k) := by
  unfold State.leaveSafe
  split
  · exact (enterSteady_same s k .bypass).trans (endLevel_same _ _)
  · exact SameButTrains.refl s

/-! The demand tables. -/

theorem handOnEffective_frame (s : State) (k : Train) (b : Effective) :
    s.handOnEffective k b = { s with handoffs := (s.handOnEffective k b).handoffs } := by
  unfold State.handOnEffective
  dsimp only
  (repeat' split) <;> rfl

theorem changeTable_frame (s : State) (k : Train) (table : List DemandEntry) :
    s.changeTable k table =
      { s with demands := s.demands.set k table, handoffs := (s.changeTable k table).handoffs } :=
  handOnEffective_frame (s.setDemand k table) k _

/-! The Drive Stage. -/

/-- Two states that agree but for drive records, hand-offs and the count of stale reads. -/
def SameButDrives (s t : State) : Prop :=
  t = { s with drives := t.drives, handoffs := t.handoffs, staleReads := t.staleReads }

theorem SameButDrives.refl (s : State) : SameButDrives s s := rfl

theorem SameButDrives.trans {s t u : State} (h : SameButDrives s t) (h' : SameButDrives t u) : SameButDrives s u := by
  unfold SameButDrives at h h' ⊢
  rw [h] at h'
  exact h'

theorem handOn_same (s : State) (x : Handoff) : SameButDrives s (s.handOn x) := rfl
theorem setDrive_same (s : State) (k : Train) (x : DriveRec) : SameButDrives s (s.setDrive k x) := rfl

theorem handToFollowers_same (s : State) (k : Train) (n : Nat) : SameButDrives s (s.handToFollowers k n) := by
  unfold State.handToFollowers
  split
  · exact SameButDrives.refl s
  · exact forEach_induct (P := SameButDrives s) (fun j _ t h => h.trans (handOn_same t _)) (SameButDrives.refl s)

theorem recompute_same (s : State) (k : Train) : SameButDrives s (s.recompute k) := by
  unfold State.recompute
  exact SameButDrives.trans (by rfl) (handToFollowers_same _ _ _)

theorem formRequest_same (s : State) (k : Train) : SameButDrives s (s.formRequest k) := by
  unfold State.formRequest
  dsimp only
  split <;> rfl

theorem store_same (s : State) (k : Train) (o : Occasion) : SameButDrives s (s.store k o) := by
  cases o <;> first | rfl | exact formRequest_same s k

theorem wheelZero_same (s : State) (k : Train) (n : Nat) : SameButDrives s (s.wheelZero k n) := by
  unfold State.wheelZero
  split <;> rfl

theorem ramp_same (s : State) (k : Train) : SameButDrives s (s.ramp k) :=
  SameButDrives.trans (t := s.setDrive k _) (by rfl) (wheelZero_same _ _ _)

theorem stopRamp_same (s : State) (k : Train) : SameButDrives s (s.stopRamp k) := rfl

theorem applyPosture_same (s : State) (k : Train) (v : OutputValues) : SameButDrives s (s.applyPosture k v) :=
  SameButDrives.trans (t := s.setDrive k _) (by rfl)
    ((recompute_same _ _).trans ((stopRamp_same _ _).trans (wheelZero_same _ _ _)))

theorem endPosture_same (s : State) (k : Train) : SameButDrives s (s.endPosture k) :=
  SameButDrives.trans (t := s.setDrive k _) (by rfl) (recompute_same _ _)

/-! The Shaft Allocator. -/

/-- Two states that agree but for shafts, allocation entries and hand-offs. -/
def SameButShafts (s t : State) : Prop := t = { s with shafts := t.shafts, shares := t.shares, handoffs := t.handoffs }

theorem SameButShafts.refl (s : State) : SameButShafts s s := rfl

theorem SameButShafts.trans {s t u : State} (h : SameButShafts s t) (h' : SameButShafts t u) : SameButShafts s u := by
  unfold SameButShafts at h h' ⊢
  rw [h] at h'
  exact h'

theorem setGrant_same (f : Figures) (a : Ask) (s : State) : SameButShafts s (State.setGrant f a s) := by
  unfold State.setGrant
  dsimp only
  split <;> rfl

theorem recomputeShaft_same (s : State) (h : Shaft) : SameButShafts s (s.recomputeShaft h) := by
  unfold State.recomputeShaft
  exact forEach_induct (P := SameButShafts s) (fun a _ t ht => ht.trans (setGrant_same _ _ _)) (by rfl)

theorem takeBasis_same (s : State) (k : Train) (b : OaBasis) (a : Bool) : SameButShafts s (s.takeBasis k b a) :=
  SameButShafts.trans (t := s.setShare k _) (by rfl) (recomputeShaft_same _ _)

theorem takeRequest_same (s : State) (k : Train) (v : Nat) : SameButShafts s (s.takeRequest k v) := by
  unfold State.takeRequest
  dsimp only
  split
  · exact SameButShafts.trans (t := s.setShare k _) (by rfl) (recomputeShaft_same _ _)
  · rfl

/-! Channels, stations and the reference. -/

/-- Two states that agree but for stations, the reference and what the Notice Table has been told. -/
def SameButReference (s t : State) : Prop :=
  t = { s with stations := t.stations, reference := t.reference, raised := t.raised }

theorem SameButReference.refl (s : State) : SameButReference s s := rfl

theorem SameButReference.trans {s t u : State} (h : SameButReference s t) (h' : SameButReference t u) :
    SameButReference s u := by
  unfold SameButReference at h h' ⊢
  rw [h] at h'
  exact h'

theorem raise_sameReference (s : State) (c : Condition) : SameButReference s (s.raise c) := rfl

theorem creditTest_same (s : State) (st : Station) (t : Int) : SameButReference s (s.creditTest st t) := by
  unfold State.creditTest
  dsimp only
  (repeat' split) <;> rfl

theorem redecide_same (s : State) : SameButReference s s.redecide := by
  unfold State.redecide
  dsimp only
  (repeat' split)
  all_goals rfl

theorem stationPublished_same (s : State) (c : Channel) (v : Int) : SameButReference s (s.stationPublished c v) := by
  unfold State.stationPublished
  split
  · exact (creditTest_same _ _ _).trans (redecide_same _)
  · exact redecide_same s
  · exact SameButReference.refl s

/-! The Life-Safety Interface. -/

/-- Two states that agree but for effective postures and hand-offs. -/
def SameButPostures (s t : State) : Prop := t = { s with postures := t.postures, handoffs := t.handoffs }

theorem SameButPostures.trans {s t u : State} (h : SameButPostures s t) (h' : SameButPostures t u) : SameButPostures s u := by
  unfold SameButPostures at h h' ⊢
  rw [h] at h'
  exact h'

theorem decideTrainPosture_same (old : Params) (k : Train) (s : State) : SameButPostures s (State.decideTrainPosture old k s) := by
  unfold State.decideTrainPosture
  dsimp only
  (repeat' split) <;> rfl

theorem decidePostures_same (s : State) (old : Params) : SameButPostures s (s.decidePostures old) :=
  forEach_induct (P := SameButPostures s) (fun k _ t h => h.trans (decideTrainPosture_same old k t)) rfl

/-! What each relation leaves as it was, part by part. -/

variable {s t : State}

theorem SameButTrains.pending (h : SameButTrains s t) : t.pending = s.pending := by
  unfold SameButTrains at h; rw [h]
theorem SameButTrains.resetLow (h : SameButTrains s t) : t.resetLow = s.resetLow := by
  unfold SameButTrains at h; rw [h]
theorem SameButTrains.resetCause (h : SameButTrains s t) : t.resetCause = s.resetCause := by
  unfold SameButTrains at h; rw [h]
theorem SameButTrains.uptime (h : SameButTrains s t) : t.uptime = s.uptime := by
  unfold SameButTrains at h; rw [h]
theorem SameButTrains.active (h : SameButTrains s t) : t.active = s.active := by
  unfold SameButTrains at h; rw [h]
theorem SameButTrains.staged (h : SameButTrains s t) : t.staged = s.staged := by
  unfold SameButTrains at h; rw [h]
theorem SameButTrains.locked (h : SameButTrains s t) : t.locked = s.locked := by
  unfold SameButTrains at h; rw [h]
theorem SameButTrains.paramsPending (h : SameButTrains s t) : t.paramsPending = s.paramsPending := by
  unfold SameButTrains at h; rw [h]
theorem SameButTrains.ports (h : SameButTrains s t) : t.ports = s.ports := by
  unfold SameButTrains at h; rw [h]
theorem SameButTrains.channels (h : SameButTrains s t) : t.channels = s.channels := by
  unfold SameButTrains at h; rw [h]
theorem SameButTrains.stations (h : SameButTrains s t) : t.stations = s.stations := by
  unfold SameButTrains at h; rw [h]
theorem SameButTrains.reference (h : SameButTrains s t) : t.reference = s.reference := by
  unfold SameButTrains at h; rw [h]
theorem SameButTrains.banks (h : SameButTrains s t) : t.banks = s.banks := by
  unfold SameButTrains at h; rw [h]
theorem SameButTrains.demands (h : SameButTrains s t) : t.demands = s.demands := by
  unfold SameButTrains at h; rw [h]
theorem SameButTrains.shares (h : SameButTrains s t) : t.shares = s.shares := by
  unfold SameButTrains at h; rw [h]
theorem SameButTrains.drives (h : SameButTrains s t) : t.drives = s.drives := by
  unfold SameButTrains at h; rw [h]
theorem SameButTrains.lines (h : SameButTrains s t) : t.lines = s.lines := by
  unfold SameButTrains at h; rw [h]
theorem SameButTrains.postures (h : SameButTrains s t) : t.postures = s.postures := by
  unfold SameButTrains at h; rw [h]
theorem SameButTrains.notices (h : SameButTrains s t) : t.notices = s.notices := by
  unfold SameButTrains at h; rw [h]
theorem SameButTrains.held (h : SameButTrains s t) : t.held = s.held := by
  unfold SameButTrains at h; rw [h]
theorem SameButTrains.pwm (h : SameButTrains s t) : t.pwm = s.pwm := by
  unfold SameButTrains at h; rw [h]
theorem SameButTrains.handoffs (h : SameButTrains s t) : t.handoffs = s.handoffs := by
  unfold SameButTrains at h; rw [h]
theorem SameButTrains.staleReads (h : SameButTrains s t) : t.staleReads = s.staleReads := by
  unfold SameButTrains at h; rw [h]
theorem SameButTrains.port (h : SameButTrains s t) (i : Link) : t.port i = s.port i := by
  unfold SameButTrains at h; rw [h]; rfl
theorem SameButTrains.channel (h : SameButTrains s t) (i : Channel) : t.channel i = s.channel i := by
  unfold SameButTrains at h; rw [h]; rfl
theorem SameButTrains.station (h : SameButTrains s t) (i : Station) : t.station i = s.station i := by
  unfold SameButTrains at h; rw [h]; rfl
theorem SameButTrains.bank (h : SameButTrains s t) (i : Train) : t.bank i = s.bank i := by
  unfold SameButTrains at h; rw [h]; rfl
theorem SameButTrains.demand (h : SameButTrains s t) (i : Train) : t.demand i = s.demand i := by
  unfold SameButTrains at h; rw [h]; rfl
theorem SameButTrains.share (h : SameButTrains s t) (i : Train) : t.share i = s.share i := by
  unfold SameButTrains at h; rw [h]; rfl
theorem SameButTrains.drive (h : SameButTrains s t) (i : Train) : t.drive i = s.drive i := by
  unfold SameButTrains at h; rw [h]; rfl
theorem SameButTrains.line (h : SameButTrains s t) (i : Line) : t.line i = s.line i := by
  unfold SameButTrains at h; rw [h]; rfl
theorem SameButTrains.posture (h : SameButTrains s t) (i : Train) : t.posture i = s.posture i := by
  unfold SameButTrains at h; rw [h]; rfl
theorem SameButTrains.notice (h : SameButTrains s t) (i : Link) : t.notice i = s.notice i := by
  unfold SameButTrains at h; rw [h]; rfl
theorem SameButTrains.right (h : SameButTrains s t) (i : Link) : t.right i = s.right i := by
  unfold SameButTrains at h; rw [h]; rfl
theorem SameButTrains.params (h : SameButTrains s t) (i : Train) : t.params i = s.params i := by
  unfold SameButTrains at h; rw [h]; rfl
theorem SameButTrains.shaftOf (h : SameButTrains s t) (i : Train) : t.shaftOf i = s.shaftOf i := by
  unfold SameButTrains at h; rw [h]; rfl
theorem SameButTrains.effective (h : SameButTrains s t) (i : Train) : t.effective i = s.effective i := by
  unfold SameButTrains at h; rw [h]; rfl


theorem SameButDrives.pending (h : SameButDrives s t) : t.pending = s.pending := by
  unfold SameButDrives at h; rw [h]
theorem SameButDrives.resetLow (h : SameButDrives s t) : t.resetLow = s.resetLow := by
  unfold SameButDrives at h; rw [h]
theorem SameButDrives.resetCause (h : SameButDrives s t) : t.resetCause = s.resetCause := by
  unfold SameButDrives at h; rw [h]
theorem SameButDrives.uptime (h : SameButDrives s t) : t.uptime = s.uptime := by
  unfold SameButDrives at h; rw [h]
theorem SameButDrives.active (h : SameButDrives s t) : t.active = s.active := by
  unfold SameButDrives at h; rw [h]
theorem SameButDrives.staged (h : SameButDrives s t) : t.staged = s.staged := by
  unfold SameButDrives at h; rw [h]
theorem SameButDrives.locked (h : SameButDrives s t) : t.locked = s.locked := by
  unfold SameButDrives at h; rw [h]
theorem SameButDrives.paramsPending (h : SameButDrives s t) : t.paramsPending = s.paramsPending := by
  unfold SameButDrives at h; rw [h]
theorem SameButDrives.ports (h : SameButDrives s t) : t.ports = s.ports := by
  unfold SameButDrives at h; rw [h]
theorem SameButDrives.channels (h : SameButDrives s t) : t.channels = s.channels := by
  unfold SameButDrives at h; rw [h]
theorem SameButDrives.stations (h : SameButDrives s t) : t.stations = s.stations := by
  unfold SameButDrives at h; rw [h]
theorem SameButDrives.reference (h : SameButDrives s t) : t.reference = s.reference := by
  unfold SameButDrives at h; rw [h]
theorem SameButDrives.banks (h : SameButDrives s t) : t.banks = s.banks := by
  unfold SameButDrives at h; rw [h]
theorem SameButDrives.demands (h : SameButDrives s t) : t.demands = s.demands := by
  unfold SameButDrives at h; rw [h]
theorem SameButDrives.trains (h : SameButDrives s t) : t.trains = s.trains := by
  unfold SameButDrives at h; rw [h]
theorem SameButDrives.shafts (h : SameButDrives s t) : t.shafts = s.shafts := by
  unfold SameButDrives at h; rw [h]
theorem SameButDrives.shares (h : SameButDrives s t) : t.shares = s.shares := by
  unfold SameButDrives at h; rw [h]
theorem SameButDrives.lines (h : SameButDrives s t) : t.lines = s.lines := by
  unfold SameButDrives at h; rw [h]
theorem SameButDrives.postures (h : SameButDrives s t) : t.postures = s.postures := by
  unfold SameButDrives at h; rw [h]
theorem SameButDrives.notices (h : SameButDrives s t) : t.notices = s.notices := by
  unfold SameButDrives at h; rw [h]
theorem SameButDrives.held (h : SameButDrives s t) : t.held = s.held := by
  unfold SameButDrives at h; rw [h]
theorem SameButDrives.raised (h : SameButDrives s t) : t.raised = s.raised := by
  unfold SameButDrives at h; rw [h]
theorem SameButDrives.pwm (h : SameButDrives s t) : t.pwm = s.pwm := by
  unfold SameButDrives at h; rw [h]
theorem SameButDrives.port (h : SameButDrives s t) (i : Link) : t.port i = s.port i := by
  unfold SameButDrives at h; rw [h]; rfl
theorem SameButDrives.channel (h : SameButDrives s t) (i : Channel) : t.channel i = s.channel i := by
  unfold SameButDrives at h; rw [h]; rfl
theorem SameButDrives.station (h : SameButDrives s t) (i : Station) : t.station i = s.station i := by
  unfold SameButDrives at h; rw [h]; rfl
theorem SameButDrives.bank (h : SameButDrives s t) (i : Train) : t.bank i = s.bank i := by
  unfold SameButDrives at h; rw [h]; rfl
theorem SameButDrives.demand (h : SameButDrives s t) (i : Train) : t.demand i = s.demand i := by
  unfold SameButDrives at h; rw [h]; rfl
theorem SameButDrives.train (h : SameButDrives s t) (i : Train) : t.train i = s.train i := by
  unfold SameButDrives at h; rw [h]; rfl
theorem SameButDrives.shaft (h : SameButDrives s t) (i : Shaft) : t.shaft i = s.shaft i := by
  unfold SameButDrives at h; rw [h]; rfl
theorem SameButDrives.share (h : SameButDrives s t) (i : Train) : t.share i = s.share i := by
  unfold SameButDrives at h; rw [h]; rfl
theorem SameButDrives.line (h : SameButDrives s t) (i : Line) : t.line i = s.line i := by
  unfold SameButDrives at h; rw [h]; rfl
theorem SameButDrives.posture (h : SameButDrives s t) (i : Train) : t.posture i = s.posture i := by
  unfold SameButDrives at h; rw [h]; rfl
theorem SameButDrives.notice (h : SameButDrives s t) (i : Link) : t.notice i = s.notice i := by
  unfold SameButDrives at h; rw [h]; rfl
theorem SameButDrives.right (h : SameButDrives s t) (i : Link) : t.right i = s.right i := by
  unfold SameButDrives at h; rw [h]; rfl
theorem SameButDrives.params (h : SameButDrives s t) (i : Train) : t.params i = s.params i := by
  unfold SameButDrives at h; rw [h]; rfl
theorem SameButDrives.shaftOf (h : SameButDrives s t) (i : Train) : t.shaftOf i = s.shaftOf i := by
  unfold SameButDrives at h; rw [h]; rfl
theorem SameButDrives.effective (h : SameButDrives s t) (i : Train) : t.effective i = s.effective i := by
  unfold SameButDrives at h; rw [h]; rfl

theorem SameButShafts.pending (h : SameButShafts s t) : t.pending = s.pending := by
  unfold SameButShafts at h; rw [h]
theorem SameButShafts.resetLow (h : SameButShafts s t) : t.resetLow = s.resetLow := by
  unfold SameButShafts at h; rw [h]
theorem SameButShafts.resetCause (h : SameButShafts s t) : t.resetCause = s.resetCause := by
  unfold SameButShafts at h; rw [h]
theorem SameButShafts.uptime (h : SameButShafts s t) : t.uptime = s.uptime := by
  unfold SameButShafts at h; rw [h]
theorem SameButShafts.active (h : SameButShafts s t) : t.active = s.active := by
  unfold SameButShafts at h; rw [h]
theorem SameButShafts.staged (h : SameButShafts s t) : t.staged = s.staged := by
  unfold SameButShafts at h; rw [h]
theorem SameButShafts.locked (h : SameButShafts s t) : t.locked = s.locked := by
  unfold SameButShafts at h; rw [h]
theorem SameButShafts.paramsPending (h : SameButShafts s t) : t.paramsPending = s.paramsPending := by
  unfold SameButShafts at h; rw [h]
theorem SameButShafts.ports (h : SameButShafts s t) : t.ports = s.ports := by
  unfold SameButShafts at h; rw [h]
theorem SameButShafts.channels (h : SameButShafts s t) : t.channels = s.channels := by
  unfold SameButShafts at h; rw [h]
theorem SameButShafts.stations (h : SameButShafts s t) : t.stations = s.stations := by
  unfold SameButShafts at h; rw [h]
theorem SameButShafts.reference (h : SameButShafts s t) : t.reference = s.reference := by
  unfold SameButShafts at h; rw [h]
theorem SameButShafts.banks (h : SameButShafts s t) : t.banks = s.banks := by
  unfold SameButShafts at h; rw [h]
theorem SameButShafts.demands (h : SameButShafts s t) : t.demands = s.demands := by
  unfold SameButShafts at h; rw [h]
theorem SameButShafts.trains (h : SameButShafts s t) : t.trains = s.trains := by
  unfold SameButShafts at h; rw [h]
theorem SameButShafts.drives (h : SameButShafts s t) : t.drives = s.drives := by
  unfold SameButShafts at h; rw [h]
theorem SameButShafts.lines (h : SameButShafts s t) : t.lines = s.lines := by
  unfold SameButShafts at h; rw [h]
theorem SameButShafts.postures (h : SameButShafts s t) : t.postures = s.postures := by
  unfold SameButShafts at h; rw [h]
theorem SameButShafts.notices (h : SameButShafts s t) : t.notices = s.notices := by
  unfold SameButShafts at h; rw [h]
theorem SameButShafts.held (h : SameButShafts s t) : t.held = s.held := by
  unfold SameButShafts at h; rw [h]
theorem SameButShafts.raised (h : SameButShafts s t) : t.raised = s.raised := by
  unfold SameButShafts at h; rw [h]
theorem SameButShafts.pwm (h : SameButShafts s t) : t.pwm = s.pwm := by
  unfold SameButShafts at h; rw [h]
theorem SameButShafts.staleReads (h : SameButShafts s t) : t.staleReads = s.staleReads := by
  unfold SameButShafts at h; rw [h]
theorem SameButShafts.port (h : SameButShafts s t) (i : Link) : t.port i = s.port i := by
  unfold SameButShafts at h; rw [h]; rfl
theorem SameButShafts.channel (h : SameButShafts s t) (i : Channel) : t.channel i = s.channel i := by
  unfold SameButShafts at h; rw [h]; rfl
theorem SameButShafts.station (h : SameButShafts s t) (i : Station) : t.station i = s.station i := by
  unfold SameButShafts at h; rw [h]; rfl
theorem SameButShafts.bank (h : SameButShafts s t) (i : Train) : t.bank i = s.bank i := by
  unfold SameButShafts at h; rw [h]; rfl
theorem SameButShafts.demand (h : SameButShafts s t) (i : Train) : t.demand i = s.demand i := by
  unfold SameButShafts at h; rw [h]; rfl
theorem SameButShafts.train (h : SameButShafts s t) (i : Train) : t.train i = s.train i := by
  unfold SameButShafts at h; rw [h]; rfl
theorem SameButShafts.drive (h : SameButShafts s t) (i : Train) : t.drive i = s.drive i := by
  unfold SameButShafts at h; rw [h]; rfl
theorem SameButShafts.line (h : SameButShafts s t) (i : Line) : t.line i = s.line i := by
  unfold SameButShafts at h; rw [h]; rfl
theorem SameButShafts.posture (h : SameButShafts s t) (i : Train) : t.posture i = s.posture i := by
  unfold SameButShafts at h; rw [h]; rfl
theorem SameButShafts.notice (h : SameButShafts s t) (i : Link) : t.notice i = s.notice i := by
  unfold SameButShafts at h; rw [h]; rfl
theorem SameButShafts.right (h : SameButShafts s t) (i : Link) : t.right i = s.right i := by
  unfold SameButShafts at h; rw [h]; rfl
theorem SameButShafts.params (h : SameButShafts s t) (i : Train) : t.params i = s.params i := by
  unfold SameButShafts at h; rw [h]; rfl
theorem SameButShafts.shaftOf (h : SameButShafts s t) (i : Train) : t.shaftOf i = s.shaftOf i := by
  unfold SameButShafts at h; rw [h]; rfl
theorem SameButShafts.effective (h : SameButShafts s t) (i : Train) : t.effective i = s.effective i := by
  unfold SameButShafts at h; rw [h]; rfl

theorem SameButReference.pending (h : SameButReference s t) : t.pending = s.pending := by
  unfold SameButReference at h; rw [h]
theorem SameButReference.resetLow (h : SameButReference s t) : t.resetLow = s.resetLow := by
  unfold SameButReference at h; rw [h]
theorem SameButReference.resetCause (h : SameButReference s t) : t.resetCause = s.resetCause := by
  unfold SameButReference at h; rw [h]
theorem SameButReference.uptime (h : SameButReference s t) : t.uptime = s.uptime := by
  unfold SameButReference at h; rw [h]
theorem SameButReference.active (h : SameButReference s t) : t.active = s.active := by
  unfold SameButReference at h; rw [h]
theorem SameButReference.staged (h : SameButReference s t) : t.staged = s.staged := by
  unfold SameButReference at h; rw [h]
theorem SameButReference.locked (h : SameButReference s t) : t.locked = s.locked := by
  unfold SameButReference at h; rw [h]
theorem SameButReference.paramsPending (h : SameButReference s t) : t.paramsPending = s.paramsPending := by
  unfold SameButReference at h; rw [h]
theorem SameButReference.ports (h : SameButReference s t) : t.ports = s.ports := by
  unfold SameButReference at h; rw [h]
theorem SameButReference.channels (h : SameButReference s t) : t.channels = s.channels := by
  unfold SameButReference at h; rw [h]
theorem SameButReference.banks (h : SameButReference s t) : t.banks = s.banks := by
  unfold SameButReference at h; rw [h]
theorem SameButReference.demands (h : SameButReference s t) : t.demands = s.demands := by
  unfold SameButReference at h; rw [h]
theorem SameButReference.trains (h : SameButReference s t) : t.trains = s.trains := by
  unfold SameButReference at h; rw [h]
theorem SameButReference.shafts (h : SameButReference s t) : t.shafts = s.shafts := by
  unfold SameButReference at h; rw [h]
theorem SameButReference.shares (h : SameButReference s t) : t.shares = s.shares := by
  unfold SameButReference at h; rw [h]
theorem SameButReference.drives (h : SameButReference s t) : t.drives = s.drives := by
  unfold SameButReference at h; rw [h]
theorem SameButReference.lines (h : SameButReference s t) : t.lines = s.lines := by
  unfold SameButReference at h; rw [h]
theorem SameButReference.postures (h : SameButReference s t) : t.postures = s.postures := by
  unfold SameButReference at h; rw [h]
theorem SameButReference.notices (h : SameButReference s t) : t.notices = s.notices := by
  unfold SameButReference at h; rw [h]
theorem SameButReference.held (h : SameButReference s t) : t.held = s.held := by
  unfold SameButReference at h; rw [h]
theorem SameButReference.pwm (h : SameButReference s t) : t.pwm = s.pwm := by
  unfold SameButReference at h; rw [h]
theorem SameButReference.handoffs (h : SameButReference s t) : t.handoffs = s.handoffs := by
  unfold SameButReference at h; rw [h]
theorem SameButReference.staleReads (h : SameButReference s t) : t.staleReads = s.staleReads := by
  unfold SameButReference at h; rw [h]
theorem SameButReference.port (h : SameButReference s t) (i : Link) : t.port i = s.port i := by
  unfold SameButReference at h; rw [h]; rfl
theorem SameButReference.channel (h : SameButReference s t) (i : Channel) : t.channel i = s.channel i := by
  unfold SameButReference at h; rw [h]; rfl
theorem SameButReference.bank (h : SameButReference s t) (i : Train) : t.bank i = s.bank i := by
  unfold SameButReference at h; rw [h]; rfl
theorem SameButReference.demand (h : SameButReference s t) (i : Train) : t.demand i = s.demand i := by
  unfold SameButReference at h; rw [h]; rfl
theorem SameButReference.train (h : SameButReference s t) (i : Train) : t.train i = s.train i := by
  unfold SameButReference at h; rw [h]; rfl
theorem SameButReference.shaft (h : SameButReference s t) (i : Shaft) : t.shaft i = s.shaft i := by
  unfold SameButReference at h; rw [h]; rfl
theorem SameButReference.share (h : SameButReference s t) (i : Train) : t.share i = s.share i := by
  unfold SameButReference at h; rw [h]; rfl
theorem SameButReference.drive (h : SameButReference s t) (i : Train) : t.drive i = s.drive i := by
  unfold SameButReference at h; rw [h]; rfl
theorem SameButReference.line (h : SameButReference s t) (i : Line) : t.line i = s.line i := by
  unfold SameButReference at h; rw [h]; rfl
theorem SameButReference.posture (h : SameButReference s t) (i : Train) : t.posture i = s.posture i := by
  unfold SameButReference at h; rw [h]; rfl
theorem SameButReference.notice (h : SameButReference s t) (i : Link) : t.notice i = s.notice i := by
  unfold SameButReference at h; rw [h]; rfl
theorem SameButReference.right (h : SameButReference s t) (i : Link) : t.right i = s.right i := by
  unfold SameButReference at h; rw [h]; rfl
theorem SameButReference.params (h : SameButReference s t) (i : Train) : t.params i = s.params i := by
  unfold SameButReference at h; rw [h]; rfl
theorem SameButReference.shaftOf (h : SameButReference s t) (i : Train) : t.shaftOf i = s.shaftOf i := by
  unfold SameButReference at h; rw [h]; rfl
theorem SameButReference.effective (h : SameButReference s t) (i : Train) : t.effective i = s.effective i := by
  unfold SameButReference at h; rw [h]; rfl

theorem SameButPostures.pending (h : SameButPostures s t) : t.pending = s.pending := by
  unfold SameButPostures at h; rw [h]
theorem SameButPostures.resetLow (h : SameButPostures s t) : t.resetLow = s.resetLow := by
  unfold SameButPostures at h; rw [h]
theorem SameButPostures.resetCause (h : SameButPostures s t) : t.resetCause = s.resetCause := by
  unfold SameButPostures at h; rw [h]
theorem SameButPostures.uptime (h : SameButPostures s t) : t.uptime = s.uptime := by
  unfold SameButPostures at h; rw [h]
theorem SameButPostures.active (h : SameButPostures s t) : t.active = s.active := by
  unfold SameButPostures at h; rw [h]
theorem SameButPostures.staged (h : SameButPostures s t) : t.staged = s.staged := by
  unfold SameButPostures at h; rw [h]
theorem SameButPostures.locked (h : SameButPostures s t) : t.locked = s.locked := by
  unfold SameButPostures at h; rw [h]
theorem SameButPostures.paramsPending (h : SameButPostures s t) : t.paramsPending = s.paramsPending := by
  unfold SameButPostures at h; rw [h]
theorem SameButPostures.ports (h : SameButPostures s t) : t.ports = s.ports := by
  unfold SameButPostures at h; rw [h]
theorem SameButPostures.channels (h : SameButPostures s t) : t.channels = s.channels := by
  unfold SameButPostures at h; rw [h]
theorem SameButPostures.stations (h : SameButPostures s t) : t.stations = s.stations := by
  unfold SameButPostures at h; rw [h]
theorem SameButPostures.reference (h : SameButPostures s t) : t.reference = s.reference := by
  unfold SameButPostures at h; rw [h]
theorem SameButPostures.banks (h : SameButPostures s t) : t.banks = s.banks := by
  unfold SameButPostures at h; rw [h]
theorem SameButPostures.demands (h : SameButPostures s t) : t.demands = s.demands := by
  unfold SameButPostures at h; rw [h]
theorem SameButPostures.trains (h : SameButPostures s t) : t.trains = s.trains := by
  unfold SameButPostures at h; rw [h]
theorem SameButPostures.shafts (h : SameButPostures s t) : t.shafts = s.shafts := by
  unfold SameButPostures at h; rw [h]
theorem SameButPostures.shares (h : SameButPostures s t) : t.shares = s.shares := by
  unfold SameButPostures at h; rw [h]
theorem SameButPostures.drives (h : SameButPostures s t) : t.drives = s.drives := by
  unfold SameButPostures at h; rw [h]
theorem SameButPostures.lines (h : SameButPostures s t) : t.lines = s.lines := by
  unfold SameButPostures at h; rw [h]
theorem SameButPostures.notices (h : SameButPostures s t) : t.notices = s.notices := by
  unfold SameButPostures at h; rw [h]
theorem SameButPostures.held (h : SameButPostures s t) : t.held = s.held := by
  unfold SameButPostures at h; rw [h]
theorem SameButPostures.raised (h : SameButPostures s t) : t.raised = s.raised := by
  unfold SameButPostures at h; rw [h]
theorem SameButPostures.pwm (h : SameButPostures s t) : t.pwm = s.pwm := by
  unfold SameButPostures at h; rw [h]
theorem SameButPostures.staleReads (h : SameButPostures s t) : t.staleReads = s.staleReads := by
  unfold SameButPostures at h; rw [h]
theorem SameButPostures.port (h : SameButPostures s t) (i : Link) : t.port i = s.port i := by
  unfold SameButPostures at h; rw [h]; rfl
theorem SameButPostures.channel (h : SameButPostures s t) (i : Channel) : t.channel i = s.channel i := by
  unfold SameButPostures at h; rw [h]; rfl
theorem SameButPostures.station (h : SameButPostures s t) (i : Station) : t.station i = s.station i := by
  unfold SameButPostures at h; rw [h]; rfl
theorem SameButPostures.bank (h : SameButPostures s t) (i : Train) : t.bank i = s.bank i := by
  unfold SameButPostures at h; rw [h]; rfl
theorem SameButPostures.demand (h : SameButPostures s t) (i : Train) : t.demand i = s.demand i := by
  unfold SameButPostures at h; rw [h]; rfl
theorem SameButPostures.train (h : SameButPostures s t) (i : Train) : t.train i = s.train i := by
  unfold SameButPostures at h; rw [h]; rfl
theorem SameButPostures.shaft (h : SameButPostures s t) (i : Shaft) : t.shaft i = s.shaft i := by
  unfold SameButPostures at h; rw [h]; rfl
theorem SameButPostures.share (h : SameButPostures s t) (i : Train) : t.share i = s.share i := by
  unfold SameButPostures at h; rw [h]; rfl
theorem SameButPostures.drive (h : SameButPostures s t) (i : Train) : t.drive i = s.drive i := by
  unfold SameButPostures at h; rw [h]; rfl
theorem SameButPostures.line (h : SameButPostures s t) (i : Line) : t.line i = s.line i := by
  unfold SameButPostures at h; rw [h]; rfl
theorem SameButPostures.notice (h : SameButPostures s t) (i : Link) : t.notice i = s.notice i := by
  unfold SameButPostures at h; rw [h]; rfl
theorem SameButPostures.right (h : SameButPostures s t) (i : Link) : t.right i = s.right i := by
  unfold SameButPostures at h; rw [h]; rfl
theorem SameButPostures.params (h : SameButPostures s t) (i : Train) : t.params i = s.params i := by
  unfold SameButPostures at h; rw [h]; rfl
theorem SameButPostures.shaftOf (h : SameButPostures s t) (i : Train) : t.shaftOf i = s.shaftOf i := by
  unfold SameButPostures at h; rw [h]; rfl
theorem SameButPostures.effective (h : SameButPostures s t) (i : Train) : t.effective i = s.effective i := by
  unfold SameButPostures at h; rw [h]; rfl

end Sys2Proof.Machine
end

