-- ==== Sys2Proof/Laws/Events.lean ====
section
/-! SUPPORT. The end of the event of a posture change (R154) and the gate of an event: what each can do, in one lemma each. -/

namespace Sys2Proof.Machine

/-! Posture changes in flight: no operation of the Train Sequencer or the Drive Stage hands one on. -/

/-- The posture changes in flight. -/
def inFlight (s : State) : List Handoff := s.handoffs.filter Handoff.ofPosture

theorem inFlight_of_handoffs {s t : State} (h : t.handoffs = s.handoffs) : inFlight t = inFlight s := by rw [inFlight, h, inFlight]

theorem inFlight_handOn {x : Handoff} (h : x.ofPosture = false) (s : State) : inFlight (s.handOn x) = inFlight s := by
  simp [inFlight, State.handOn, State.setHandoffs, h]

theorem inFlight_setDrive (s : State) (k : Train) (d : DriveRec) : inFlight (s.setDrive k d) = inFlight s := rfl

theorem inFlight_handOnBases (k : Train) (s : State) : inFlight (State.handOnBases k s) = inFlight s := by
  unfold State.handOnBases
  simp only [State.setTrain]
  split <;> split <;> simp [inFlight, State.handOn, State.setHandoffs, Handoff.ofPosture]

theorem inFlight_endEvent (s : State) : inFlight s.endEvent = inFlight s :=
  forEach_induct (P := fun t => inFlight t = inFlight s) (fun k _ t h => (inFlight_handOnBases k t).trans h) rfl

theorem inFlight_handToFollowers (s : State) (k : Train) (n : Nat) : inFlight (s.handToFollowers k n) = inFlight s := by
  unfold State.handToFollowers
  split
  · rfl
  · exact forEach_induct (P := fun t => inFlight t = inFlight s) (fun j _ t h => (inFlight_handOn rfl t).trans h) rfl

theorem inFlight_recompute (s : State) (k : Train) : inFlight (s.recompute k) = inFlight s :=
  (inFlight_handToFollowers _ _ _).trans rfl

theorem inFlight_wheelZero (s : State) (k : Train) (n : Nat) : inFlight (s.wheelZero k n) = inFlight s := by
  unfold State.wheelZero
  split
  · exact (inFlight_handOn rfl _).trans rfl
  · rfl

theorem inFlight_applyPosture (s : State) (k : Train) (v : OutputValues) : inFlight (s.applyPosture k v) = inFlight s :=
  (inFlight_wheelZero _ _ _).trans ((inFlight_recompute (s.setDrive k { s.drive k with posture := some v }) k).trans rfl)

theorem inFlight_endPosture (s : State) (k : Train) : inFlight (s.endPosture k) = inFlight s :=
  (inFlight_recompute _ _).trans rfl

theorem inFlight_takePosture (x : Handoff) (s : State) : inFlight (State.takePosture x s) = inFlight s := by
  unfold State.takePosture
  split
  · exact (inFlight_endEvent _).trans (inFlight_of_handoffs (enterSafe_same s _).handoffs)
  · exact (inFlight_endEvent _).trans (inFlight_of_handoffs (leaveSafe_same s _).handoffs)
  · exact inFlight_applyPosture s _ _
  · exact inFlight_endPosture s _
  · rfl

/-! The end of the event of a posture change. -/

/-- The event is complete afterwards. -/
theorem completePostures_settled (s : State) : s.completePostures.settled := by
  refine (forEach_induct (P := fun t => inFlight t = []) (fun x _ t h => (inFlight_takePosture x t).trans h) ?_ :)
  simp only [inFlight, State.setHandoffs, List.filter_filter]
  exact List.filter_eq_nil_iff.2 fun x _ => by cases x.ofPosture <;> simp

/-- With no posture change in flight there is nothing left to do. -/
theorem completePostures_of_settled {s : State} (h : s.settled) : s.completePostures = s := by
  have hf : s.handoffs.filter (fun x => !x.ofPosture) = s.handoffs :=
    List.filter_eq_self.2 fun x hx => by
      have := List.filter_eq_nil_iff.1 h x hx
      simpa using this
  rw [State.completePostures, h, hf]
  rfl

/-- Two states that agree but for what a posture change touches at the Train Sequencer, the Shaft Allocator's slots, the Drive Stage and what
the Notice Table has been told. -/
def SameButEvent (s t : State) : Prop :=
  t = { s with
    trains := t.trains, shafts := t.shafts, drives := t.drives, raised := t.raised, handoffs := t.handoffs
    staleReads := t.staleReads }

theorem SameButEvent.trans {s t u : State} (h : SameButEvent s t) (h' : SameButEvent t u) : SameButEvent s u := by
  unfold SameButEvent at h h' ⊢
  rw [h] at h'
  exact h'

theorem SameButTrains.event {s t : State} (h : SameButTrains s t) : SameButEvent s t := by
  unfold SameButTrains at h
  unfold SameButEvent
  rw [h]

theorem SameButDrives.event {s t : State} (h : SameButDrives s t) : SameButEvent s t := by
  unfold SameButDrives at h
  unfold SameButEvent
  rw [h]

theorem endEvent_same (s : State) : SameButEvent s s.endEvent := by
  unfold SameButEvent
  exact (endEvent_frame s).trans (by rw [endEvent_frame])

theorem takePosture_same (x : Handoff) (s : State) : SameButEvent s (State.takePosture x s) := by
  unfold State.takePosture
  split
  · exact (enterSafe_same s _).event.trans (endEvent_same _)
  · exact (leaveSafe_same s _).event.trans (endEvent_same _)
  · exact (applyPosture_same s _ _).event
  · exact (endPosture_same s _).event
  · rfl

/-- What the end of the event leaves as it was. -/
theorem completePostures_frame (s : State) : SameButEvent s s.completePostures :=
  forEach_induct (P := SameButEvent s) (fun x _ _ h => h.trans (takePosture_same x _)) rfl

/-! The gate of an event. -/

/-- An event of a part that takes events is its operation. -/
theorem takeEvent_live {f : State → State} {s : State} (h : s.live) : takeEvent f s = .next (f s) := by
  rw [takeEvent, whenLive_live h.1, completePostures_of_settled h.2]

/-- An event that finds another incomplete brings it to its end first. -/
theorem takeEvent_awake {f : State → State} {s : State} (h : s.awake) : takeEvent f s = .next (f s.completePostures) :=
  whenLive_live h

theorem takeEvent_low {f : State → State} {s : State} (h : s.resetLow = true) : takeEvent f s = .next s := whenLive_low h

/-- Everything an event can answer. -/
theorem takeEvent_next {f : State → State} {s t : State} (h : takeEvent f s = .next t) :
    (s.resetLow = false ∧ t = f s.completePostures) ∨ (s.resetLow = true ∧ t = s) := whenLive_next h

theorem answerRequest_live {l : Link} {kind tag : Byte} {f : RequestMeaning} {s : State} (h : s.live) :
    answerRequest l kind tag f s = .next (s.answer l kind tag f) := takeEvent_live h

/-! An empty queue. -/

/-- With nothing to handle the part idles. -/
theorem idle_of_nil {s : State} (h : s.raised = []) : idle s = .next s := by
  rw [idle, h]

/-- With a raise to handle the Notice Table has its own event. -/
theorem idle_of_cons {s : State} {x : Raise} {rest : List Raise} (h : s.raised = x :: rest) : idle s = takeEvent State.handleNotice s := by
  rw [idle, h]

/-- A part that takes events handles the oldest raise. -/
theorem idle_live {s : State} {x : Raise} {rest : List Raise} (hl : s.live) (h : s.raised = x :: rest) :
    idle s = .next ((s.setRaised rest).fileRaise x) := by
  rw [idle_of_cons h, takeEvent_live hl, handleNotice_cons h]

end Sys2Proof.Machine
end

