-- ==== Sys2Proof/Laws/PerInstr.lean ====
section
/-! SUPPORT. What holds of every command as syntax, one lemma per constructor. -/

namespace Sys2Proof.Laws.PayloadFits

/-- A well-formed command's payload fits a frame (R167, R182). -/
def Statement (i : Instr) : Prop := i.wellFormed = true → i.payload.length ≤ 64

/-- The check of a well-formed command on its payload. -/
theorem of_wellFormed (i : Instr) : Statement i := fun h => by
  unfold Instr.wellFormed at h
  exact of_decide_eq_true (Bool.and_eq_true _ _ ▸ h).1

theorem powerOn (levels : Vec 4 Level) : Statement (.powerOn levels) := of_wellFormed _
theorem resetLineAsserted : Statement (.resetLineAsserted) := of_wellFormed _
theorem resetLineReleased (levels : Vec 4 Level) : Statement (.resetLineReleased levels) := of_wellFormed _
theorem interByteTimeout (l : Link) : Statement (.interByteTimeout l) := of_wellFormed _
theorem framingError (l : Link) : Statement (.framingError l) := of_wellFormed _
theorem frameTooLong (l : Link) : Statement (.frameTooLong l) := of_wellFormed _
theorem frameRejected (l : Link) : Statement (.frameRejected l) := of_wellFormed _
theorem breakLine (l : Link) : Statement (.breakLine l) := of_wellFormed _
theorem badKind (l : Link) (kind tag : Byte) (payload : List Byte) : Statement (.badKind l kind tag payload) := of_wellFormed _
theorem responseSent (l : Link) : Statement (.responseSent l) := of_wellFormed _
theorem report (l : Link) (tag : Byte) (payload : List Byte) : Statement (.report l tag payload) := of_wellFormed _
theorem ageTimerExpiry (c : Channel) : Statement (.ageTimerExpiry c) := of_wellFormed _
theorem evaluation (k : Train) : Statement (.evaluation k) := of_wellFormed _
theorem demand (l : Link) (tag : Byte) (payload : List Byte) : Statement (.demand l tag payload) := of_wellFormed _
theorem demandExpiry (k : Train) (l : Link) : Statement (.demandExpiry k l) := of_wellFormed _
theorem withdraw (l : Link) (tag : Byte) (payload : List Byte) : Statement (.withdraw l tag payload) := of_wellFormed _
theorem hold (l : Link) (tag : Byte) (payload : List Byte) : Statement (.hold l tag payload) := of_wellFormed _
theorem release (l : Link) (tag : Byte) (payload : List Byte) : Statement (.release l tag payload) := of_wellFormed _
theorem targetDecision (k : Train) (src : DecisionSource) : Statement (.targetDecision k src) := of_wellFormed _
theorem dwellExpiry (k : Train) : Statement (.dwellExpiry k) := of_wellFormed _
theorem stepTimerExpiry (k : Train) : Statement (.stepTimerExpiry k) := of_wellFormed _
theorem wheelZeroEvent (k : Train) : Statement (.wheelZeroEvent k) := of_wellFormed _
theorem restartLockoutExpiry (k : Train) : Statement (.restartLockoutExpiry k) := of_wellFormed _
theorem safeEntry (k : Train) : Statement (.safeEntry k) := of_wellFormed _
theorem safeExit (k : Train) : Statement (.safeExit k) := of_wellFormed _
theorem shaftRecompute (k : Train) (src : ShaftSource) : Statement (.shaftRecompute k src) := of_wellFormed _
theorem commandRecompute (k : Train) (src : DriveSource) : Statement (.commandRecompute k src) := of_wellFormed _
theorem postureApply (k : Train) : Statement (.postureApply k) := of_wellFormed _
theorem rampStep (k : Train) : Statement (.rampStep k) := of_wellFormed _
theorem pwmPeriod : Statement (.pwmPeriod) := of_wellFormed _
theorem uptimeTick : Statement (.uptimeTick) := of_wellFormed _
theorem lineSensedLow (n : Line) : Statement (.lineSensedLow n) := of_wellFormed _
theorem lineSensedHigh (n : Line) : Statement (.lineSensedHigh n) := of_wellFormed _
theorem releaseDelayExpiry (n : Line) : Statement (.releaseDelayExpiry n) := of_wellFormed _
theorem stage (l : Link) (tag : Byte) (payload : List Byte) : Statement (.stage l tag payload) := of_wellFormed _
theorem apply (l : Link) (tag : Byte) (payload : List Byte) : Statement (.apply l tag payload) := of_wellFormed _
theorem discard (l : Link) (tag : Byte) (payload : List Byte) : Statement (.discard l tag payload) := of_wellFormed _
theorem lock (l : Link) (tag : Byte) (payload : List Byte) : Statement (.lock l tag payload) := of_wellFormed _
theorem restart (l : Link) (tag : Byte) (payload : List Byte) : Statement (.restart l tag payload) := of_wellFormed _
theorem readIdentity (l : Link) (tag : Byte) (rest : List Byte) : Statement (.readIdentity l tag rest) := of_wellFormed _
theorem readLinkStatus (l : Link) (tag : Byte) (rest : List Byte) : Statement (.readLinkStatus l tag rest) := of_wellFormed _
theorem readChannel (l : Link) (tag : Byte) (rest : List Byte) : Statement (.readChannel l tag rest) := of_wellFormed _
theorem readStation (l : Link) (tag : Byte) (rest : List Byte) : Statement (.readStation l tag rest) := of_wellFormed _
theorem readReference (l : Link) (tag : Byte) (rest : List Byte) : Statement (.readReference l tag rest) := of_wellFormed _
theorem readTrain (l : Link) (tag : Byte) (rest : List Byte) : Statement (.readTrain l tag rest) := of_wellFormed _
theorem readDemands (l : Link) (tag : Byte) (rest : List Byte) : Statement (.readDemands l tag rest) := of_wellFormed _
theorem readShaft (l : Link) (tag : Byte) (rest : List Byte) : Statement (.readShaft l tag rest) := of_wellFormed _
theorem readParamActive (l : Link) (tag : Byte) (rest : List Byte) : Statement (.readParamActive l tag rest) := of_wellFormed _
theorem readParamStaged (l : Link) (tag : Byte) (rest : List Byte) : Statement (.readParamStaged l tag rest) := of_wellFormed _
theorem latchTrains (l : Link) (tag : Byte) (rest : List Byte) : Statement (.latchTrains l tag rest) := of_wellFormed _
theorem latchReference (l : Link) (tag : Byte) (rest : List Byte) : Statement (.latchReference l tag rest) := of_wellFormed _
theorem latchShafts (l : Link) (tag : Byte) (rest : List Byte) : Statement (.latchShafts l tag rest) := of_wellFormed _
theorem readLatched (l : Link) (tag : Byte) (payload : List Byte) : Statement (.readLatched l tag payload) := of_wellFormed _
theorem take (l : Link) (tag : Byte) (payload : List Byte) : Statement (.take l tag payload) := of_wellFormed _
theorem peek (l : Link) (tag : Byte) (payload : List Byte) : Statement (.peek l tag payload) := of_wellFormed _
theorem ack (l : Link) (tag : Byte) (payload : List Byte) : Statement (.ack l tag payload) := of_wellFormed _
theorem frameStart (l : Link) : Statement (.frameStart l) := of_wellFormed _
theorem byteReceived (l : Link) (b : Byte) : Statement (.byteReceived l b) := of_wellFormed _

end Sys2Proof.Laws.PayloadFits
end

