-- ==== Sys2Proof/Tests/Slice0.lean ====
section
/-! SUPPORT. Tests: the checks of well-formedness refusing an ill-formed term each, values the spec's worked cases work out, one or two
commands of each family on a small state, and for every statement with hypotheses a state that meets them. -/

namespace Sys2Proof.Tests

open Sys2Proof Sys2Proof.Machine

/-! Helpers. -/

/-- The state a command answers. -/
def after (c : Instr) (s : State) : State :=
  match exec c s with
  | .next t => t
  | _ => s

/-- The state after the Notice Table's own event, on an empty queue. -/
def noticed (s : State) : State :=
  match step { s with pending := [] } with
  | .next t => t
  | _ => s

/-- The response a link is sending. -/
def reply (l : Link) (s : State) : Option (Status × List Byte) := (s.port l).sending.map fun r => (r.status, r.data)

/-- The reset state, with one record replaced. -/
def s0 : State := State.reset
def withTrain (k : Train) (st : TrainState) (b : Bases) (s : State) : State :=
  s.setTrain k { s.train k with state := st, bases := b }
def withActive (p : Params) (s : State) : State := { s with active := p, staged := p }
def withHandoffs (xs : List Handoff) (s : State) : State := { s with handoffs := xs }
def withRaised (xs : List Raise) (s : State) : State := { s with raised := xs }
def fresh (c : Channel) (v : Int) (s : State) : State := s.setChannel c ⟨.fresh, some v, 0, 0, some 60, some .a⟩
def aged (c : Channel) (s : State) : State := s.setChannel c { s.channel c with age := some 0 }
def evaluable (k : Train) (s : State) : State := s.setBank k { s.bank k with evalTimer := 0 }
def withSending (s : State) : State := s.setPort .a { s.port .a with sending := some ⟨0x81, 7, .ok, []⟩ }
def inFrame (buffer : List Byte) (s : State) : State := s.setPort .a { s.port .a with phase := .inFrame, buffer := buffer }

/-! Well-formedness (R167, R169). -/

theorem test_payload_of_65_refused : (Instr.report .a 0 (List.replicate 65 0)).wellFormed = false := by decide
theorem test_payload_of_64_allowed : (Instr.report .a 0 (List.replicate 64 0)).wellFormed = true := by decide
theorem test_read_of_64_after_kind_refused : (Instr.readChannel .a 0 (List.replicate 64 0)).wellFormed = false := by
  decide
theorem test_badKind_naming_request_refused : (Instr.badKind .a 0x10 0 []).wellFormed = false := by decide
theorem test_badKind_unknown_allowed :
    (Instr.badKind .a 0x11 0 []).wellFormed = true ∧ (Instr.badKind .a 0 0 []).wellFormed = true := by decide

/-! Layouts (R182, R183). -/

/-- The check value of section 13.1: the nine digits give 0x29B1. -/
theorem test_crc_of_nine_digits : crc16 [0x31, 0x32, 0x33, 0x34, 0x35, 0x36, 0x37, 0x38, 0x39] = 0x29B1 := by decide +kernel
/-- The example of section 13.1: channel 11 with value 231 is 0x0B 0xE7 0x00, and −100 is 0x9C 0xFF. -/
theorem test_report_pair : pairs? [0x0B, 0xE7, 0x00] = some [⟨11, 231⟩] ∧ s16 (-100) = [0x9C, 0xFF] := by decide
/-- The refused APPLY of chapter 10 names T5's WS_floor and channel 23's stand-in. -/
theorem test_item_ids :
    (Item.train 5 .wsFloor).bytes = [0, 5, 5] ∧ itemOfBytes? 4 23 4 = some (.channel 23 .standIn) := by decide
theorem test_no_bits : decodeTableWord 8 0x01 = none ∧ (s0.withFetchWord 8 1).pending = [] := by decide

/-! Arithmetic: the worked cases of chapters 1, 3, 4, 7 and 8. -/

theorem test_rounding : roundDiv 701 3 = 234 ∧ roundDiv (-1764) 178 = -10 ∧ roundDiv 130 1000 = 0 ∧ roundDiv (-3120) 1000 = -3 := by
  decide
/-- The tower of chapter 2 at six intakes, and with S2 discredited. -/
def tower : List StationPoint := [⟨0, 2, 221⟩, ⟨1, 180, 203⟩, ⟨2, 410, 188⟩, ⟨3, 452, 171⟩]
theorem test_intake_interpolated :
    intakeTemperature (-65) 100 tower = (some 211, .interpolated 0 1) ∧
    intakeTemperature (-65) 300 tower = (some 195, .interpolated 1 2) ∧
    intakeTemperature (-65) 430 tower = (some 180, .interpolated 2 3) := by decide
theorem test_intake_extrapolated_and_exact :
    intakeTemperature (-65) 0 tower = (some 221, .extrapolated 0 .above) ∧
    intakeTemperature (-65) 500 tower = (some 168, .extrapolated 3 .below) ∧
    intakeTemperature (-65) 410 tower = (some 188, .exact 2) ∧
    intakeTemperature 50 800 [⟨0, 0, 595⟩] = (some 600, .extrapolated 0 .below) := by decide
theorem test_enthalpy : enthalpy 240 930 = 478 ∧ enthalpy 195 710 = 376 := by decide
theorem test_computed_speed : computedSpeed (defaultTrain 2) 35 = 415 ∧ computedSpeed (defaultTrain 2) (-35) = 415 := by
  decide
theorem test_economizer_request : economizerRequest 250 (-60) = 700 ∧ economizerRequest 250 (-20) = 400 := by decide
theorem test_frost_caps :
    frostCapOf (defaultTrain 2) (some 40) = 1000 ∧ frostCapOf (defaultTrain 2) (some 4) = 712 ∧
    frostCapOf (defaultTrain 2) (some (-20)) = 280 ∧ frostCapOf (defaultTrain 2) none = 100 ∧
    frostCapOf (defaultTrain 2) (some (-5)) = 550 := by decide
/-- The narrow shaft of chapter 7: grants 732, 621 and 200. -/
theorem test_grants :
    let asks : List Ask := [⟨1, 250, 1000, 120⟩, ⟨2, 300, 800, 100⟩, ⟨3, 200, 200, 150⟩]
    let f := figures 180000 asks
    f.allocCase = .proportional ∧ f.avail = 90000 ∧ f.excess = 140000 ∧ asks.map (grantOf f) = [732, 621, 200] := by
  decide
theorem test_lower_median : lowerMedian [221, 216, 200] = some 216 ∧ lowerMedian [216, 200] = some 200 ∧ lowerMedian [] = none := by
  decide

/-! Links. -/

/-- A REPORT of channel 11 received byte by byte is answered as the command is. -/
theorem test_frame_is_request :
    (match receiveAll .a (frameBytes 0x01 5 [0x0B, 0xE7, 0x00] (frameCheck 0x01 5 [0x0B, 0xE7, 0x00])) s0 with
      | .next t => reply .a t
      | _ => none) = some (.ok, [0x80]) := by decide +kernel
theorem test_bad_check_drops :
    (match receiveAll .a (frameBytes 0x0F 5 [] (frameCheck 0x0F 5 [] + 1)) s0 with
      | .next t => (reply .a t, (t.port .a).dropped)
      | _ => (none, false)) = (none, true) := by decide +kernel
theorem test_inter_byte_timeout : ((after (.interByteTimeout .a) (inFrame [1] s0)).port .a) =
    { LinkPort.reset with dropped := true } := by decide
theorem test_break_keeps_held : (after (.breakLine .b) s0).held = [.referenceLost] ∧
    (after (.breakLine .b) s0).notice .b = ⟨[], false⟩ := by decide
theorem test_bad_kind : reply .a (after (.badKind .a 0x11 9 []) s0) = some (.badKind, []) := by decide

/-! Reports and the reference. -/

theorem test_report_accumulates :
    let p := s0.active.setChannel 11 { s0.active.channel 11 with target := 3 }
    ((after (.report .a 1 [11, 231, 0]) (withActive p s0)).channel 11) = ⟨.empty, none, 231, 1, none, none⟩ := by decide
theorem test_report_lengths :
    reply .a (after (.report .a 1 []) s0) = some (.badLength, []) ∧
    reply .a (after (.report .a 1 [32, 0, 0]) s0) = some (.ok, [0x03]) := by decide
theorem test_age_expiry : ((after (.ageTimerExpiry 11) (aged 11 (fresh 11 234 s0))).channel 11) =
    ⟨.stale, some 234, 0, 0, none, some .a⟩ := by decide
/-- The publication that comes first restarts the timer, and no expiry happens. -/
theorem test_publication_before_expiry :
    (after (.ageTimerExpiry 11) (after (.report .a 1 [11, 231, 0]) (aged 11 (fresh 11 234 s0)))).channel 11 =
      ⟨.fresh, some 231, 0, 0, some 60, some .a⟩ := by decide
/-- 1130 s of chapter 2: the third disagreement of S2 discredits it. -/
def drifting : State :=
  let s := fresh 0 221 (fresh 2 216 (fresh 6 200 s0))
  { s.setStation 2 ⟨.credited, 2, none, none⟩ with
    active := { s.active with station := { s.active.station with heights := .replicate 4 0 } } }
theorem test_third_disagreement : (drifting.creditTest 2 263).station 2 = ⟨.discredited, 0, some 263, some 47⟩ := by
  decide

/-! Evaluation and demands. -/

theorem test_first_evaluation : ((after (.evaluation 2) (evaluable 2 s0)).bank 2).decision.map (fun d => (d.candidate, d.lockout, d.raws.get 0)) =
    some (.bypass, true, .unavailable) := by decide
/-- 2005 s of chapter 5: D −130 is stored as −100 and the answer says so. -/
theorem test_demand_clamped : reply .b (after (.demand .b 1 [4, 1, 0x7E, 0xFF, 0, 0, 0xFF, 0xFF]) s0) =
    some (.ok, [0x9C, 0xFF, 0xFF, 0xFF, 1]) := by decide
/-- 2050 s of chapter 5: the fixed speed 1500 is stored as 1000. -/
theorem test_force_fixed_speed : reply .c (after (.demand .c 1 ([4, 1] ++ s16 10 ++ [1, 1] ++ u16 1500)) s0) =
    some (.ok, [10, 0, 0xE8, 0x03, 1]) := by decide
theorem test_withdraw_of_nothing : reply .a (after (.withdraw .a 1 [4]) s0) = some (.ok, []) := by decide

/-! Trains. -/

/-- 7000 s of chapter 6: T3 in RECOVER_HEAT with its wheel at 600 is to go to FREE_COOL, and starts WHEEL_DOWN. -/
def toFreeCool : State :=
  let s := withTrain 3 (.steady .recoverHeat) ⟨.recover, .closed, .min⟩ s0
  let s := s.setDrive 3 { s.drive 3 with wheel := ⟨600, 600⟩ }
  withHandoffs [.decision 3 .demandTable] (s.setDemand 3 [⟨.c, ⟨true, 0, .force .freeCool, none⟩, 60⟩])
theorem test_changeover_starts : ((after (.targetDecision 3 .demandTable) toFreeCool).train 3).state =
    .changeover ⟨.recoverHeat, .freeCool, [.wheelDown, .bypassOpen, .oaSet], 1, .waitWheelZero, none⟩ := by decide
/-- 7012 s: the wheel-zero event starts the lockout and the spin-down. -/
theorem test_wheel_zero :
    let t := (after (.wheelZeroEvent 3) (withHandoffs [.wheelZero 3] (after (.targetDecision 3 .demandTable) toFreeCool))).train 3
    t.lockout = some 120 ∧
    t.state = .changeover ⟨.recoverHeat, .freeCool, [.wheelDown, .bypassOpen, .oaSet], 1, .timing, some 15⟩ := by decide
theorem test_hold_clamped : reply .c (after (.hold .c 1 ([4] ++ u16 1200 ++ u16 500 ++ u16 300)) s0) =
    some (.ok, u16 1000 ++ u16 500 ++ u16 300) := by decide
theorem test_hold_in_safe : reply .c (after (.hold .c 1 ([4] ++ u16 0 ++ u16 0 ++ u16 0))
    (withTrain 4 .safe ⟨.posture, .posture, .posture⟩ s0)) = some (.trainBusy, []) := by decide
theorem test_release_of_held : ((after (.release .c 1 [4]) (withTrain 4 (.held ⟨1, 2, 3⟩) ⟨.hold, .hold, .hold⟩ s0)).train 4).state =
    .steady .bypass := by decide

/-! Drive and life safety. -/

/-- 9020 to 9023 s of chapter 8: the last ramp step of 35 reaches the command. -/
theorem test_ramp : rampStep 50 ⟨280, 415⟩ = 365 ∧ rampStep 50 ⟨280, 315⟩ = 280 ∧ rampStep 50 ⟨415, 100⟩ = 150 := by decide
theorem test_line_low : (after (.lineSensedLow 1) s0).line 1 = ⟨.low, true, none⟩ ∧
    (after (.lineSensedLow 1) s0).posture 3 = some ⟨1, .isolate⟩ := by decide
/-- 5010 s of chapter 9: the posture stops a wheel at 600 at once and issues a wheel-zero event. -/
theorem test_posture_stops_wheel :
    let s := s0.setDrive 3 { s0.drive 3 with wheel := ⟨600, 600⟩ }
    let t := after (.postureApply 3) (withHandoffs [.posture 3 (some ⟨0, 0, 0⟩)] s)
    (t.drive 3).wheel = ⟨0, 0⟩ ∧ .wheelZero 3 ∈ t.handoffs := by decide
theorem test_inverted_pwm :
    let p := { s0.active with polarity := s0.active.polarity.set 0 .inverted }
    (after .pwmPeriod (withActive p s0)).pwm.get 0 = 1000 := by decide

/-! Parameters and notices. -/

theorem test_stage_out_of_range : reply .c (after (.stage .c 1 ([0, 5, 4] ++ u16 1200)) s0) = some (.outOfRange, []) := by
  decide
theorem test_apply_names_ws_floor :
    let s := { s0 with staged := s0.staged.setTrain 5 { s0.staged.train 5 with wsMax := 800, wsFloor := 900 } }
    reply .c (after (.apply .c 1 []) s) = some (.invalidSet, [0, 5, 5]) := by decide
theorem test_stage_under_lock : reply .c (after (.stage .c 1 ([11, 0, 0] ++ u16 24)) { s0 with locked := true }) =
    some (.locked, []) := by decide
theorem test_identity_record : reply .a (after (.readIdentity .a 1 []) { s0 with uptime := 258 }) = some (.ok, s0.identityRecord.take 10 ++
    [2, 1, 0, 0] ++ s0.identityRecord.drop 14) := by decide
theorem test_take_of_level :
    reply .b (after (.take .b 1 []) s0) = some (.ok, [2, 1, 0xFF, 1]) ∧
    ((after (.take .b 1 []) s0).notice .b) = ⟨[⟨.referenceLost, 1, true⟩], false⟩ := by decide
/-- 8002 and 8005 s of chapter 12: a SAFE condition filed before CHANNEL_STALE, and a count raised. A TAKE that comes first answers without. -/
theorem test_notice_events :
    let s := (withRaised [.begins (.safe 3), .edge (.channelStale 11)] s0).setNotice .b ⟨[⟨.channelStale 11, 1, false⟩], true⟩
    (noticed s).notice .b = ⟨[⟨.safe 3, 1, false⟩, ⟨.channelStale 11, 1, false⟩], true⟩ ∧
    (noticed (noticed s)).notice .b = ⟨[⟨.safe 3, 1, false⟩, ⟨.channelStale 11, 2, false⟩], true⟩ ∧
    reply .b (after (.take .b 1 []) s) = some (.ok, [5, 0, 11, 1]) := by decide
theorem test_notice_end : (noticed (withRaised [.ends .referenceLost] s0)).notice .b = ⟨[], false⟩ := by decide
theorem test_read_latched_of_nothing : reply .a (after (.readLatched .a 1 [0, 0, 0]) s0) = some (.notLatched, []) := by decide

/-! Witnesses: for each statement with hypotheses, states and operands that meet all of them together, and for statements of several
clauses a state for each, at a boundary where the clause has one. -/

theorem witness_StepTakesFront : s0.raised = [] ∧ (withRaised [.edge (.channelStale 11)] s0).live := by decide
theorem witness_ResetLineHeld : ∀ v, Instr.pwmPeriod ≠ .powerOn v ∧ Instr.pwmPeriod ≠ .resetLineReleased v := by
  intro v
  constructor <;> intro h <;> cases h
theorem witness_ResetsSampleLines : (Vec.replicate 4 Level.high) = .replicate 4 .high ∧
    ((after (.powerOn ⟨[.high, .high, .high, .low], rfl⟩) s0).train 7).state = .safe := by decide +kernel
/-- No line low, and T1 to T3 under line 1 alone. -/
theorem witness_RestartResets :
    let s := withActive { s0.active with lines := .replicate 4 ⟨0x0E, .isolate, 0⟩ } (s0.setLine 1 ⟨.low, true, none⟩)
    s0.ready .a ∧ (s0.right .a).config = true ∧ s0.ready .c ∧ (s0.right .c).config = true ∧
    s.ready .c ∧ (s.right .c).config = true ∧
    (allTrains.map fun k => allLines.find? fun n =>
      decide ((s.line n).level = .low) && inTrains (s.active.lines.get n).trains k) =
        [none, some 1, some 1, some 1, none, none, none, none] ∧
    s.active.routes .referenceLost .a = true ∧ inLinks 0 .a = false := by
  decide
theorem witness_UptimeCounts : exec .uptimeTick s0 = .next { s0.tickTimers with uptime := 1 } ∧ s0.ready .a ∧
    ((evaluable 2 s0).live ∧ ((evaluable 2 s0).bank 2).evalTimer = 0) ∧
    (∀ v, Instr.evaluation 2 ≠ .powerOn v ∧ Instr.evaluation 2 ≠ .resetLineReleased v) ∧
    ∃ t, exec (.evaluation 2) (evaluable 2 s0) = .next t := by
  refine ⟨rfl, by decide, by decide, ?_, ⟨_, rfl⟩⟩
  intro v
  constructor <;> intro h <;> cases h
theorem witness_FrameDeliversRequest :
    requestOf? (.report .a 5 [11, 231, 0]) = some (.a, 0x01, 5) ∧ (Instr.report .a 5 [11, 231, 0]).wellFormed = true ∧
    requestOf? (.badKind .b 0xFF 5 (List.replicate 64 0)) = some (.b, 0xFF, 5) ∧
    (Instr.badKind .b 0xFF 5 (List.replicate 64 0)).wellFormed = true ∧
    s0.live ∧ (s0.port .a).phase = .hunting ∧ (s0.port .b).phase = .hunting := by decide
theorem witness_ReceiverFollowsBytes :
    s0.live ∧ (s0.port .a).phase = .hunting ∧ (0xC2 : Byte) ≠ 0xC3 ∧
    (inFrame [1] s0).live ∧ ((inFrame [1] s0).port .a).phase = .inFrame ∧ ((inFrame [1] s0).port .a).buffer.length < 2 ∧
    (inFrame [1, 2] s0).live ∧ ((inFrame [1, 2] s0).port .a).phase = .inFrame ∧
    ((inFrame [1, 2] s0).port .a).buffer.length = 2 ∧ 64 < (65 : Byte).toNat ∧
    (List.replicate 64 (0 : Byte)).length ≤ 64 ∧ (0 : BitVec 16) ≠ frameCheck 1 5 (List.replicate 64 0) := by decide +kernel
theorem witness_DroppedFrameSetsFlag : s0.live ∧ (s0.port .a).phase = .hunting ∧ (inFrame [] s0).live ∧
    ((inFrame [] s0).port .a).phase = .inFrame := by decide
theorem witness_BreakClearsLink : s0.live ∧ Link.a ≠ .b := by decide
theorem witness_UnknownKindAndIdleTransmitter : s0.ready .a ∧ kindNamesRequest 0 = false ∧ kindNamesRequest 0x11 = false ∧
    (withSending s0).live := by decide
theorem witness_BusyRequestDropped : requestOf? (.take .a 5 []) = some (.a, 0x0E, 5) ∧ (Instr.take .a 5 []).wellFormed = true ∧
    (withSending s0).live ∧ ((withSending s0).port .a).sending ≠ none := by decide
theorem witness_RefusedRequestChangesNothing : requestOf? (.report .a 5 []) = some (.a, 0x01, 5) ∧
    (Instr.report .a 5 []).wellFormed = true ∧ s0.ready .a ∧ reply .a (after (.report .a 5 []) s0) = some (.badLength, []) := by
  decide

/-- Channel 11 with N = 2 and the limits 0..450. -/
def limited : State := withActive (s0.active.setChannel 11 { s0.active.channel 11 with target := 2, low := 0, high := 450 }) s0
theorem witness_ReportAccumulatesOrRefuses :
    limited.ready .a ∧ limited.mayReport .a 11 = true ∧
    (limited.active.channel 11).low ≤ (450 : BitVec 16).toInt ∧ (450 : BitVec 16).toInt ≤ (limited.active.channel 11).high ∧
    (limited.channel 11).count + 1 < (limited.active.channel 11).target ∧
    (BitVec.ofInt 16 (-1)).toInt < (limited.active.channel 11).low ∧ (limited.active.channel 11).high < (451 : BitVec 16).toInt := by
  decide
/-- A train channel; a station T channel with no others and one whose station is discredited by the third disagreement, at 263 of 1130 s of
chapter 2; and a station W channel that makes the reference available. -/
theorem witness_ReportPublishesMean :
    s0.ready .a ∧ s0.mayReport .a 0 = true ∧ s0.mayReport .a 8 = true ∧
    (s0.active.channel 0).low ≤ (BitVec.ofInt 16 (-500)).toInt ∧ (BitVec.ofInt 16 (-500)).toInt ≤ (s0.active.channel 0).high ∧
    (s0.active.channel 8).low ≤ (230 : BitVec 16).toInt ∧ (230 : BitVec 16).toInt ≤ (s0.active.channel 8).high ∧
    (s0.channel 0).count + 1 = (s0.active.channel 0).target ∧ (s0.channel 8).count + 1 = (s0.active.channel 8).target ∧
    8 ≤ (8 : Channel).val ∧ (0 : Channel) = stationTChannel 0 ∧
    (drifting.ready .a ∧ drifting.mayReport .a 4 = true ∧ (4 : Channel) = stationTChannel 2 ∧
      (drifting.active.channel 4).low ≤ (263 : BitVec 16).toInt ∧ (263 : BitVec 16).toInt ≤ (drifting.active.channel 4).high ∧
      (drifting.channel 4).count + 1 = (drifting.active.channel 4).target ∧
      (after (.report .a 1 [4, 7, 1]) drifting).raised = [.edge (.stationDiscredited 2)]) ∧
    (let s := fresh 0 221 s0;
      s.ready .a ∧ s.mayReport .a 1 = true ∧ (1 : Channel) = stationWChannel 0 ∧ (s.channel 1).count + 1 = (s.active.channel 1).target ∧
      (s.active.channel 1).low ≤ (80 : BitVec 16).toInt ∧ (80 : BitVec 16).toInt ≤ (s.active.channel 1).high ∧
      (after (.report .a 1 [1, 80, 0]) s).raised = [.ends .referenceLost]) := by decide
theorem witness_CreditTestCounts :
    s0.others 0 = [] ∧ lowerMedian (drifting.others 2) = some 216 ∧ (drifting.station 2).credit = .credited ∧
    |((236 : Int) - lapseCorrection (-65) 0) - 216| ≤ (drifting.active.station.tolerance : Int) ∧
    (drifting.active.station.tolerance : Int) < |((237 : Int) - lapseCorrection (-65) 0) - 216| ∧
    ((drifting.setStation 2 ⟨.discredited, 4, none, none⟩).station 2).credit = .discredited ∧
    lowerMedian ((drifting.setStation 2 ⟨.discredited, 4, none, none⟩).others 2) = some 216 := by decide
/-- The reference as a re-decision gives it. -/
def deciding (s : State) : State := { s with reference := s.decidedReference }
/-- A timer still running; a train channel; a station channel, where the reference stays lost, becomes lost and ceases to be. -/
theorem witness_AgeExpiryMakesStale :
    let s := aged 7 (fresh 7 700 s0)
    (fresh 8 231 s0).live ∧ ((fresh 8 231 s0).channel 8).age ≠ some 0 ∧
    (aged 8 (fresh 8 231 s0)).live ∧ ((aged 8 (fresh 8 231 s0)).channel 8).age = some 0 ∧
    s.live ∧ (s.channel 7).age = some 0 ∧ s.reference.lost = true ∧ (after (.ageTimerExpiry 7) s).reference.lost = true ∧
    (let u := aged 6 (deciding (fresh 6 200 (fresh 7 60 s0)));
      u.live ∧ (u.channel 6).age = some 0 ∧ u.reference.lost = false ∧ (after (.ageTimerExpiry 6) u).reference.lost = true) ∧
    (let u := { aged 7 (fresh 7 700 (fresh 6 200 (fresh 0 200 (fresh 1 60 s0)))) with reference := .reset };
      u.live ∧ (u.channel 7).age = some 0 ∧ u.reference.lost = true ∧
      (after (.ageTimerExpiry 7) u).reference.lost = false) := by
  decide

/-- A train with every slot ASSERTED, the reference available or lost. -/
def asserting (lost : Bool) : State :=
  { s0.setBank 2 { s0.bank 2 with slots := .replicate 8 ⟨true, 0, .unavailable⟩, evalTimer := 0 } with
    reference := { s0.reference with lost := lost } }
def decided (s : State) : Option (Bool × List Bool) :=
  ((after (.evaluation 2) s).bank 2).decision.map fun d => (d.lockout, d.permits.toList)
/-- A timer still running; no slot flips; T2's return channel FRESH, and stood in for by channel 20. -/
theorem witness_EvaluationMakesRecord :
    let e := evaluable 2 s0
    let c := returnTChannel 2
    let p := s0.active.setChannel c { s0.active.channel c with standIn := some 20 }
    let flag := fun s : State => ((after (.evaluation 2) s).bank 2).decision.map fun d => (d.tRA, d.standInT)
    (s0.bank 2).evalTimer ≠ 0 ∧ e.live ∧ (e.bank 2).evalTimer = 0 ∧
    (∀ c, (((after (.evaluation 2) e).bank 2).slots.get c).asserted = ((e.bank 2).slots.get c).asserted) ∧
    (fresh c 240 e).live ∧ flag (fresh c 240 e) = some (some 240, false) ∧
    flag (fresh 20 235 (withActive p e)) = some (some 235, true) ∧ flag (withActive p e) = some (none, false) := by decide
theorem witness_CandidateFollowsPermits :
    (asserting false).live ∧ decided (asserting false) = some (false, [true, true, true]) ∧
    ((asserting false).bank 2).evalTimer = 0 ∧ decided (asserting true) = some (true, [true, true, true]) ∧
    decided (evaluable 2 s0) = some (true, [false, false, false]) ∧
    decided (evaluable 2 { s0 with reference := { s0.reference with lost := false } }) = some (false, [false, false, false]) := by
  decide
/-- Slot 7 tests no area: its raw result is FALSE. -/
theorem witness_EvaluationQualifiesSlots :
    let raw := fun (s : State) (c : Fin 8) => (((after (.evaluation 2) s).bank 2).slots.get c).lastRaw
    let e := evaluable 2 s0
    e.live ∧ (e.bank 2).evalTimer = 0 ∧ raw e 0 = .unavailable ∧ raw e 7 = .isFalse ∧ raw (asserting true) 7 = .isFalse ∧
    (((asserting true).active.slots.get 2).get 7).offCount = 1 ∧
    (((asserting true).bank 2).slots.get 3).asserted = true ∧ raw (asserting true) 3 = .isFalse ∧
    (((asserting true).active.slots.get 2).get 3).offCount = 2 ∧
    (after (.evaluation 2) (asserting true)).raised ≠ [] ∧ (after (.evaluation 2) e).raised = [] := by decide
theorem witness_RoundingIsNearest : (0 : Int) < 2 ∧ roundDiv 1 2 = 1 ∧ roundDiv (-1) 2 = 0 ∧ (2 : Int) * 1 = 2 * (2 * 0 + 1) := by
  decide
/-- The four stations of the tower, and train 2's intake at a height. -/
def atTower (z : Nat) : State :=
  let s := evaluable 2 (fresh 0 221 (fresh 2 203 (fresh 4 188 (fresh 6 171 s0))))
  let p := { s.active with station := { s.active.station with heights := ⟨[2, 180, 410, 452], rfl⟩ } }
  { withActive (p.setTrain 2 { p.train 2 with height := z }) s with reference := { s.reference with usable := [0, 1, 2, 3] } }
/-- No station; between 2 and 180 m; at 410 m; below all; above all. -/
theorem witness_IntakeTemperatureFormed :
    (evaluable 2 s0).points = [] ∧
    (∀ z ∈ [0, 100, 410, 500], (atTower z).live ∧ ((atTower z).bank 2).evalTimer = 0 ∧ (atTower z).points = tower) ∧
    tower.Pairwise (fun x y => x.station < y.station) ∧
    (∀ y ∈ tower, y.height ≠ 100) ∧ (∀ y ∈ tower, y.height < 100 → y.height < 2 ∨ (y.height = 2 ∧ 0 ≤ y.station)) ∧
    (∀ y ∈ tower, 100 < y.height → 180 < y.height ∨ (y.height = 180 ∧ 1 ≤ y.station)) ∧
    (∀ y ∈ tower, y.height = 410 → 2 ≤ y.station) ∧ (∀ y ∈ tower, y.height < 500) ∧ (∀ y ∈ tower, 0 < y.height) := by
  decide
theorem witness_EnthalpyInRange : (-500 : Int) ≤ -500 ∧ (-500 : Int) ≤ 600 ∧ (600 : Int) ≤ 600 ∧ (0 : Int) ≤ 0 ∧ (0 : Int) ≤ 4000 := by
  decide

def autoEntry (l : Link) (d : Int) : DemandEntry := ⟨l, ⟨true, d, .auto, none⟩, 60⟩
def forceEntry (l : Link) : DemandEntry := ⟨l, ⟨true, 0, .force .bypass, none⟩, 60⟩
theorem witness_DemandStoresEntry :
    s0.ready .b ∧ demandFields? [4, 1, 0x7E, 0xFF, 0, 0, 0xFF, 0xFF] = some ⟨4, true, -130, 0, 0, none⟩ ∧
    (4 : Byte).toNat = (4 : Train).val ∧ s0.inSet .b 4 = true ∧
    (match demandRequest (s0.right .b).force ⟨4, true, -130, 0, 0, none⟩ with
      | .ok r => some r
      | .error _ => none) = some .auto ∧
    (after (.demand .b 1 [4, 1, 0x7E, 0xFF, 0, 0, 0xFF, 0xFF]) s0).effective 4 ≠ s0.effective 4 := by decide
/-- Entries that expire, entries that do not, and a link with none. -/
theorem witness_DemandRemoved :
    let s := s0.setDemand 4 [{ forceEntry .c with age := 0 }, { autoEntry .a (-35) with age := 0 }]
    let u := s0.setDemand 4 [forceEntry .c, autoEntry .a (-35)]
    s.live ∧ (∃ e ∈ s.demand 4, e.link = .a ∧ e.age = 0) ∧ (∃ e ∈ s.demand 4, e.link = .c ∧ e.age = 0) ∧
    (after (.demandExpiry 4 .a) s).effective 4 = s.effective 4 ∧ (after (.demandExpiry 4 .c) s).effective 4 ≠ s.effective 4 ∧
    (∀ e ∈ u.demand 4, e.link = .a → e.age ≠ 0) ∧ (∃ e ∈ u.demand 4, e.link = .a) ∧ (u.port .a).sending = none ∧
    u.inSet .a 4 = true ∧ (∀ e ∈ s0.demand 4, e.link ≠ .a) ∧ (s0.port .a).sending = none ∧ s0.inSet .a 4 = true ∧
    (∀ e ∈ u.demand 4, e.link ≠ .b) := by decide
theorem witness_EffectiveEntrySelected :
    s0.demandSound 4 ∧ s0.demand 4 = [] ∧
    (s0.setDemand 4 [autoEntry .c 0, forceEntry .b, forceEntry .a]).demandSound 4 ∧
    (s0.setDemand 4 [autoEntry .c 0, autoEntry .a 5]).demandSound 4 := by
  refine ⟨⟨?_, ?_, ?_⟩, ?_, ⟨?_, ?_, ?_⟩, ⟨?_, ?_, ?_⟩⟩ <;> decide

def bypassed (s : State) : State := withTrain 3 (.steady .bypass) Mode.bypass.bases s
def fanOff : DemandEntry := ⟨.a, ⟨false, 0, .auto, none⟩, 60⟩
theorem witness_TickAndDwellExpiry : ((bypassed s0).setDwell 3 (some 0)).live ∧
    (((bypassed s0).setDwell 3 (some 0)).train 3).dwell = some 0 ∧ ((bypassed s0).train 3).dwell ≠ some 0 := by decide

def changing (r : Changeover) : State := withTrain 3 (.changeover r) Mode.bypass.bases (s0.addHolder 0 3)
/-- A state in which T4 and T5 wait for the slots of shaft 0, T4 with a stroke of 0 s: its changeover completes at once. -/
def queued (s : State) : State :=
  let s := withActive (s.active.setTrain 4 { s.active.train 4 with stroke := 0 }) s
  (((s.setTrain 4 { s.train 4 with state := .steady .bypass, bases := Mode.bypass.bases }).setTrain 5
    { s.train 5 with state := .steady .freeCool, bases := Mode.freeCool.bases }).joinWaitList 4 .freeCool).joinWaitList 5 .bypass
def pendingForce (m : Mode) (s : State) : State :=
  (s.setTrain 3 { s.train 3 with pendingForce := true }).setDemand 3 [⟨.c, ⟨true, 0, .force m, none⟩, 60⟩]
/-- The slot of T3 passes over T4, whose changeover completes at once, to T5. -/
def passedOn (t : State) : Bool :=
  decide ((t.shaft 0).holders = [5] ∧ (t.shaft 0).waitList = [] ∧ (t.train 4).state = .steady .freeCool) &&
  ((t.train 5).state.changeover?.map fun r => (r.source, r.target, r.steps)) = some (.freeCool, .bypass, [.oaSet])
/-- A state in which the changeover of T3 can come to its end. -/
abbrev finishing (q : Changeover) (s : State) : Prop :=
  s.live ∧ (∀ j, (s.train j).touched = .clear) ∧ (s.train 3).state = .changeover q ∧ s.waitersReady 0 3
/-- T3 ending a changeover to FREE_COOL, and one to RECOVER_HEAT. -/
def ending : Changeover := ⟨.bypass, .freeCool, [.oaSet], 1, .timing, some 0⟩
def endingInHeat : Changeover := ⟨.bypass, .recoverHeat, [.bypassClose], 1, .timing, some 0⟩
/-- A steady train and a train in SAFE, the fan off; a train in CHANGEOVER with the fan off and two trains waiting for its slot, with a force for
another mode and for its to-mode, and with an AUTO target. -/
theorem witness_DecisionGoesOffline :
    let s := withHandoffs [.decision 3 .demandTable] ((bypassed s0).setDemand 3 [fanOff])
    s.live ∧ s.handoffs.find? (Handoff.isDecision 3 .demandTable) = some (.decision 3 .demandTable) ∧
    (∀ j, (s.train j).touched = .clear) ∧ (s.train 3).state = .steady .bypass ∧ Mode.bypass ≠ .offline ∧
    (s.effective 3).fan = false ∧ ((withTrain 3 .safe Mode.bypass.bases s).train 3).state = .safe ∧
    (withTrain 3 .safe Mode.bypass.bases s).handoffs = s.handoffs ∧
    (let u := withHandoffs [.decision 3 .demandTable] (queued (changing ending));
      let off := u.setDemand 3 [fanOff];
      let forced := fun m : Mode => u.setDemand 3 [⟨.c, ⟨true, 0, .force m, none⟩, 60⟩];
      off.live ∧ off.handoffs = s.handoffs ∧ (∀ j, (off.train j).touched = .clear) ∧ (off.train 3).state = .changeover ending ∧
      (off.effective 3).fan = false ∧ off.shaftOf 3 = 0 ∧ off.waitersReady 0 3 ∧
      ((forced .bypass).effective 3).fan = true ∧ ((forced .bypass).effective 3).request = .force .bypass ∧
      Mode.bypass ≠ ending.target ∧ ((forced .freeCool).effective 3).request = .force ending.target ∧ Mode.freeCool ≠ .offline ∧
      (u.effective 3).request = .auto ∧ (u.effective 3).fan = true ∧ (u.bank 3).decision = none) := by decide +kernel
/-- A force, and an automatic target from a decision record, against a running dwell, a taken slot and a free slot. -/
def autoTarget : State := (asserting false).setTrain 2 { s0.train 2 with state := .steady .bypass, bases := Mode.bypass.bases }
def autoAsks : State := withHandoffs [.decision 2 .criterionBank] (after (.evaluation 2) autoTarget)
theorem witness_DecisionAsksForSlot :
    let s := toFreeCool
    s.live ∧ s.handoffs.find? (Handoff.isDecision 3 .demandTable) = some (.decision 3 .demandTable) ∧
    (∀ j, (s.train j).touched = .clear) ∧ (s.train 3).state = .steady .recoverHeat ∧ (s.train 3).waiting = none ∧
    s.target? 3 = some (.freeCool, true) ∧ stepList .recoverHeat .freeCool ≠ [] ∧
    (s.shaft (s.shaftOf 3)).holders.length < (s.active.shafts.get (s.shaftOf 3)).slotLimit ∧ 0 < (s.params 3).stroke ∧
    0 < (s.params 3).spinDown ∧
    (let u := s.setShaft 0 { s.shaft 0 with holders := [5] };
      u.shaftOf 3 = 0 ∧ (u.active.shafts.get 0).slotLimit ≤ (u.shaft 0).holders.length ∧ u.target? 3 = some (.freeCool, true)) ∧
    autoAsks.live ∧ autoAsks.handoffs.find? (Handoff.isDecision 2 .criterionBank) = some (.decision 2 .criterionBank) ∧
    (∀ j, (autoAsks.train j).touched = .clear) ∧ (autoAsks.train 2).state = .steady .bypass ∧ (autoAsks.train 2).waiting = none ∧
    autoAsks.target? 2 = some (.freeCool, false) ∧ stepList .bypass .freeCool ≠ [] ∧
    ((autoAsks.setDwell 2 (some 600)).train 2).dwell ≠ none ∧
    s0.target? 3 = none := by decide
/-- A train that waits: its target become its mode, held off by a dwell that no force overrides, kept, and changed; and a change between the two
recovery modes. -/
theorem witness_DecisionAsksForSlot_waiting :
    let full := toFreeCool.setShaft 0 { toFreeCool.shaft 0 with holders := [5] }
    let u := withHandoffs [.decision 3 .demandTable] (after (.targetDecision 3 .demandTable) full)
    let force := fun (m : Mode) (s : State) => s.setDemand 3 [⟨.c, ⟨true, 0, .force m, none⟩, 60⟩]
    let w := (autoAsks.joinWaitList 2 .recoverCool).setDwell 2 (some 600)
    u.live ∧ u.handoffs.find? (Handoff.isDecision 3 .demandTable) = some (.decision 3 .demandTable) ∧
    (∀ j, (u.train j).touched = .clear) ∧ (u.train 3).state = .steady .recoverHeat ∧ (u.train 3).waiting = some .freeCool ∧
    u.target? 3 = some (.freeCool, true) ∧ (force .recoverHeat u).target? 3 = some (.recoverHeat, true) ∧
    (force .bypass u).target? 3 = some (.bypass, true) ∧ stepList .recoverHeat .bypass ≠ [] ∧
    (force .recoverCool u).target? 3 = some (.recoverCool, true) ∧
    w.live ∧ w.handoffs = autoAsks.handoffs ∧ (w.train 2).waiting ≠ none ∧ (w.train 2).dwell ≠ none ∧
    w.target? 2 = some (.freeCool, false) := by decide +kernel
/-- 7027 s of chapter 6, and the last step of BYPASS to FREE_COOL with nobody waiting and with two trains waiting. -/
theorem witness_StepExpiryMovesOn :
    let r : Changeover := ⟨.recoverHeat, .freeCool, [.wheelDown, .bypassOpen, .oaSet], 1, .timing, some 0⟩
    let s := queued (changing ending)
    finishing r (changing r) ∧ r.phase = .timing ∧ r.timer = some 0 ∧ 1 ≤ r.index ∧ r.steps[r.index]? = some .bypassOpen ∧
    0 < ((changing r).params 3).stroke ∧
    ending.timer = some 0 ∧ ending.steps.length = ending.index ∧ (changing ending).shaftOf 3 = 0 ∧
    finishing ending (changing ending) ∧ ((changing ending).train 3).pendingForce = false ∧
    ((changing ending).shaft 0).waitList = [] ∧
    finishing ending s ∧ (s.train 3).pendingForce = false ∧ passedOn (after (.stepTimerExpiry 3) s) = true := by
  decide +kernel
/-- The same with a force pending: for the target itself, for a mode that needs a changeover, and for the other recovery mode. -/
theorem witness_StepExpiryMovesOn_forced :
    let forced := fun s : State => if (s.train 3).pendingForce then (s.effective 3).request.forced? else none
    let s := queued (changing ending)
    let w := queued (changing endingInHeat)
    forced (pendingForce .freeCool s) = some .freeCool ∧ finishing ending (pendingForce .freeCool s) ∧
    forced (pendingForce .recoverHeat s) = some .recoverHeat ∧ stepList .freeCool .recoverHeat ≠ [] ∧
    0 < (s.params 3).stroke ∧ 0 < (s.params 3).spinDown ∧ finishing ending (pendingForce .recoverHeat s) ∧
    forced (pendingForce .recoverCool w) = some .recoverCool ∧ finishing endingInHeat (pendingForce .recoverCool w) := by
  decide +kernel
/-- BYPASS_CLOSE of BYPASS to RECOVER_HEAT ended, with the restart lockout running and not. -/
theorem witness_StepExpiryMovesOn_wheelUp :
    let r : Changeover := ⟨.bypass, .recoverHeat, [.bypassClose, .wheelUp], 1, .timing, some 0⟩
    let s := changing r
    let u := s.setTrain 3 { s.train 3 with lockout := some 40 }
    finishing r s ∧ r.steps[r.index]? = some .wheelUp ∧ r.steps.length = r.index + 1 ∧ (s.train 3).lockout = none ∧
    (s.train 3).pendingForce = false ∧ (s.shaft 0).waitList = [] ∧ r.target.recovers = true ∧
    ((after (.stepTimerExpiry 3) s).train 3).state = .steady .recoverHeat ∧
    finishing r u ∧ (u.train 3).lockout ≠ none ∧
    ((after (.stepTimerExpiry 3) u).train 3).state = .changeover { r with index := 2, phase := .waitLockout, timer := none } := by
  decide +kernel
theorem witness_WheelZeroStartsLockout :
    let r : Changeover := ⟨.recoverHeat, .bypass, [.wheelDown, .bypassOpen], 1, .waitWheelZero, none⟩
    let s := withHandoffs [.wheelZero 3] (changing r)
    s.live ∧ .wheelZero 3 ∈ s.handoffs ∧ (∀ j, (s.train j).touched = .clear) ∧ (s.train 3).state = .changeover r ∧
    r.step? = some .wheelDown ∧ 0 < (s.params 3).spinDown := by decide
/-- A lockout that has run and one that has not, a train that does not wait for it, and a WHEEL_UP that does. -/
theorem witness_LockoutExpiryReleasesWheel :
    let r : Changeover := ⟨.bypass, .recoverHeat, [.bypassClose, .wheelUp], 2, .waitLockout, none⟩
    let u := (bypassed s0).setTrain 3 { (bypassed s0).train 3 with lockout := some 0 }
    let s := (changing r).setTrain 3 { (changing r).train 3 with lockout := some 0 }
    ((bypassed s0).train 3).lockout ≠ some 0 ∧
    u.live ∧ (u.train 3).lockout = some 0 ∧ (∀ j, (u.train j).touched = .clear) ∧ (u.train 3).state = .steady .bypass ∧
    s.live ∧ (s.train 3).lockout = some 0 ∧ (∀ j, (s.train j).touched = .clear) ∧ (s.train 3).state = .changeover r ∧
    r.phase = .waitLockout ∧ r.step? = some .wheelUp ∧ r.steps.length = r.index ∧ 1 ≤ r.index ∧ r.target.recovers = true ∧
    (s.train 3).pendingForce = false ∧ (s.shaft (s.shaftOf 3)).waitList = [] := by decide
theorem witness_HoldAndRelease :
    s0.ready .c ∧ (s0.right .c).maintenance = true ∧ s0.inSet .c 3 = true ∧ (∀ j, (s0.train j).touched = .clear) ∧
    (s0.train 3).state ≠ .safe ∧ (s0.train 3).state.changeover? = none ∧ (s0.train 3).state.steady?.isSome = true ∧
    (s0.train 3).state.hold? = none ∧
    (let s := queued (changing ⟨.bypass, .freeCool, [.oaSet], 1, .timing, some 5⟩);
      s.ready .c ∧ (s.right .c).maintenance = true ∧ s.inSet .c 3 = true ∧ (s.train 3).state.changeover?.isSome = true ∧
      s.shaftOf 3 = 0 ∧ s.waitersReady 0 3 ∧ (∀ j, (s.train j).touched = .clear) ∧
      passedOn (after (.hold .c 1 ([3] ++ u16 0 ++ u16 0 ++ u16 0)) s) = true) ∧
    (let s := withTrain 3 .safe Mode.bypass.bases s0;
      s.ready .c ∧ (s.train 3).state = .safe ∧ ∀ j, (s.train j).touched = .clear) ∧
    (let s := withTrain 3 (.held ⟨1, 2, 3⟩) Mode.bypass.bases s0;
      s.ready .c ∧ (s.train 3).state = .held ⟨1, 2, 3⟩ ∧ ∀ j, (s.train j).touched = .clear) := by decide
/-- A steady train, a train in CHANGEOVER with two trains waiting for its slot, and a train in SAFE. -/
theorem witness_SafeEntryAndExit :
    let s := withHandoffs [.postureBegins 3] (bypassed s0)
    let u := withHandoffs [.postureEnds 3] (withTrain 3 .safe ⟨.posture, .posture, .posture⟩ s0)
    let v := withHandoffs [.postureBegins 3] (queued (changing ⟨.bypass, .freeCool, [.oaSet], 1, .timing, some 5⟩))
    s.awake ∧ (∀ j, (s.train j).touched = .clear) ∧ s.handoffs.find? (Handoff.isPostureNews 3) = some (.postureBegins 3) ∧
    (s.train 3).state ≠ .safe ∧ (s.train 3).state.changeover? = none ∧
    v.awake ∧ (∀ j, (v.train j).touched = .clear) ∧ v.handoffs.find? (Handoff.isPostureNews 3) = some (.postureBegins 3) ∧
    (v.train 3).state.changeover?.isSome = true ∧ v.shaftOf 3 = 0 ∧ v.waitersReady 0 3 ∧
    passedOn (after (.safeEntry 3) v) = true ∧
    u.awake ∧ (∀ j, (u.train j).touched = .clear) ∧ u.handoffs.find? (Handoff.isPostureNews 3) = some (.postureEnds 3) ∧
    (u.train 3).state = .safe := by decide +kernel

/-- A basis hand-off; an economizer request of a member at ECON, and of one that is not; a change of the effective entry that forms a new
request and one that does not. -/
theorem witness_ShaftRecomputed :
    let s := withHandoffs [.shaft 3 (.basis .econ true)] s0
    let u := withHandoffs [.shaft 3 (.request 700)] s0
    let v := u.setShare 3 { u.share 3 with allocated := true, basis := .econ }
    let d := withHandoffs [.drive 3 .demand] s0
    let formed := fun s : State => (after (.commandRecompute 3 .demandTable) s).handoffs
    s.live ∧ s.handoffs.find? (Handoff.isShaft 3 .sequencer) = some (.shaft 3 (.basis .econ true)) ∧
    ((after (.shaftRecompute 3 .sequencer) s).shaft 0).allocCase = .unconstrained ∧ s.shaftOf 3 = 0 ∧
    u.live ∧ u.handoffs.find? (Handoff.isShaft 3 .driveStage) = some (.shaft 3 (.request 700)) ∧ (u.share 3).allocated = false ∧
    v.live ∧ v.handoffs = u.handoffs ∧ (v.share 3).allocated = true ∧ (v.share 3).basis = .econ ∧
    (after (.shaftRecompute 3 .driveStage) v).handoffs = [.drive 3 (.grant 700)] ∧
    d.live ∧ d.handoffs.find? (Handoff.isDrive 3 .demandTable) = some (.drive 3 .demand) ∧ formed d = [] ∧
    formed (d.setDemand 3 [autoEntry .a (-60)]) = [.shaft 3 (.request 680)] := by decide
/-- Shaft 0 with its eight trains allocated at one basis, under a capacity. -/
def sharing (b : OaBasis) (cap : Nat) : State :=
  let s := { s0 with active := { s0.active with shafts := s0.active.shafts.set 0 { s0.active.shafts.get 0 with capacity := cap } } }
  forEach (membersOf s.active 0) (fun k s => s.setShare k ⟨true, b, 1000, none⟩) s
theorem witness_GrantsWithinCapacity :
    let caseOf := fun (b : OaBasis) (cap : Nat) => (((sharing b cap).recomputeShaft 0).shaft 0).allocCase
    caseOf .econ 800 = .unconstrained ∧ caseOf .econ 160 = .minimum ∧ caseOf .min 159 = .minimum ∧ caseOf .zero 0 = .unconstrained ∧
    caseOf .econ 799 = .proportional ∧ caseOf .econ 161 = .proportional ∧ s0.allocatedMembers 0 = [] := by decide
/-- The bases RECOVER in RECOVER_HEAT and elsewhere, HOLD in HELD, ZERO, POSTURE, a posture, and a lockout hold. -/
theorem witness_CommandsFollowBases :
    let h := withHandoffs [.drive 3 .record]
    let base := fun (b : Bases) (s : State) => s.setDrive 3 { s.drive 3 with bases := b }
    let found := fun s : State => s.handoffs.find? (Handoff.isDrive 3 .criterionBank) = some (.drive 3 .record) ∧ s.live ∧
      (s.drive 3).posture = none ∧ (s.drive 3).lockoutHold = false
    let heat := h (base ⟨.recover, .closed, .min⟩ (withTrain 3 (.steady .recoverHeat) ⟨.recover, .closed, .min⟩ s0))
    let held := h (base ⟨.hold, .hold, .hold⟩ (withTrain 3 (.held ⟨1, 2, 3⟩) ⟨.hold, .hold, .hold⟩ s0))
    let safe := h (base ⟨.posture, .posture, .posture⟩ s0)
    let locked := (h s0).setDrive 3 { s0.drive 3 with lockoutHold := true }
    found heat ∧ (heat.train 3).state = .steady .recoverHeat ∧ (heat.drive 3).bases.wheel = .recover ∧
    found held ∧ (held.train 3).state = .held ⟨1, 2, 3⟩ ∧ (held.drive 3).bases.wheel = .hold ∧
    found (h s0) ∧ ((h s0).drive 3).bases = ⟨.zero, .closed, .zero⟩ ∧ found safe ∧ (safe.drive 3).bases.wheel = .posture ∧
    (let u := locked.setTrain 3 { locked.train 3 with lockout := some 5 };
      u.handoffs = [.drive 3 .record] ∧ (u.drive 3).lockoutHold = true ∧ u.keepsHold 3 = true) := by decide
/-- Each occasion at the front of its sender's hand-offs, and a band channel above, below and between its thresholds. -/
theorem witness_CommandsFollowBases_occasions :
    let occasions : List Occasion := [.record, .demand, .bases ⟨.recover, .closed, .min⟩, .bases ⟨.hold, .hold, .hold⟩, .lockoutStart,
      .lockoutExpiry true, .holdValues, .grant 700, .leader]
    let at' := fun o : Occasion => withHandoffs [.drive 3 o] (s0.setDrive 3 { s0.drive 3 with grant := some 250 })
    let p := s0.active.setTrain 3 { s0.active.train 3 with wheelSource := .band, bandChannel := 20, bandLow := 0, bandHigh := 1 }
    let banded := withActive { p with pool := (p.pool.set 0 200).set 1 240 } (at' (.bases ⟨.recover, .closed, .min⟩))
    let stored := fun s : State => (s.drive 3).bases.wheel
    (∀ o ∈ occasions, (at' o).live ∧ (at' o).handoffs.find? (Handoff.isDrive 3 o.source) = some (.drive 3 o)) ∧
    ((after (.commandRecompute 3 .sequencer) (at' (.bases ⟨.zero, .closed, .zero⟩))).drive 3).grant = none ∧
    ((after (.commandRecompute 3 .sequencer) (at' (.bases ⟨.recover, .closed, .min⟩))).drive 3).oa.command = 250 ∧
    ((after (.commandRecompute 3 .allocator) (at' (.grant 700))).drive 3).grant = some 700 ∧
    (banded.params 3).wheelSource = .band ∧ banded.usableValue (banded.params 3).bandChannel = none ∧
    stored (after (.commandRecompute 3 .sequencer) banded) = .recover ∧
    ((fresh 20 241 banded).usableValue 20).map Prod.fst = some 241 := by decide
/-- The other three sources, a stored fixed speed, and exhaust-leaving temperatures at the four corners of the frost cap. -/
theorem witness_WheelSources :
    let p := fun w : WheelSource => withActive (s0.active.setTrain 3 { s0.active.train 3 with wheelSource := w, leader := 2 }) s0
    let d := defaultTrain 3
    ((p .band).params 3).wheelSource = .band ∧ ((p .fixed).params 3).wheelSource = .fixed ∧
    ((p .follow).params 3).wheelSource = .follow ∧ ((p .follow).params 3).leader = 2 ∧
    (((p .fixed).setDemand 3 [⟨.a, ⟨true, 0, .auto, some 600⟩, 60⟩]).effective 3).fixedSpeed = some 600 ∧
    ((p .fixed).effective 3).fixedSpeed = none ∧ d.wsFloor ≤ 1000 ∧
    d.tFrost ≤ 20 ∧ (19 : Int) < d.tFrost ∧ d.tFrost - d.frostSpan < 19 ∧ (-30 : Int) ≤ d.tFrost - d.frostSpan ∧
    d.tFrost - d.frostSpan < (-29 : Int) := by decide
theorem witness_ComputedWheelSpeed :
    let s := s0.setDemand 2 [autoEntry .a 35]
    (s.params 2).wheelSource = .computed ∧ (s.params 2).wsMin ≤ (s.params 2).wsMax ∧ -100 ≤ (s.effective 2).d ∧
    (s.effective 2).d ≤ 100 ∧ (s.effective 2).d = 35 ∧ (s.params 2).wsMin = 100 ∧ (s.params 2).wsMax = 1000 ∧
    ((s0.setDemand 2 [autoEntry .a (-35)]).effective 2).d = -35 ∧ (s0.effective 2).d = 0 ∧
    ((s0.setDemand 2 [autoEntry .a (-100)]).effective 2).d = -100 := by decide
theorem witness_RampStepMovesWheel :
    let s := fun (c e : Nat) => s0.setDrive 3 { s0.drive 3 with wheel := ⟨c, e⟩, ramp := some 0 }
    (s 280 330).live ∧ (s0.drive 3).ramp ≠ some 0 ∧ ((s 280 330).drive 3).ramp = some 0 ∧
    |((280 : Int) - 330)| ≤ ((s 280 330).active.ramp : Int) ∧
    ((s 280 331).active.ramp : Int) < |((280 : Int) - 331)| ∧ ((s 0 50).drive 3).wheel = ⟨0, 50⟩ ∧
    ((after (.rampStep 3) (s 0 50)).drive 3).wheel.effective = 0 := by decide
/-- A posture over a turning wheel in RECOVER, with a BAND source whose channel is above, below and between the thresholds or absent, with a
hold that is released; and postures that end with and without a hold. -/
theorem witness_PostureAppliedAtOnce :
    let begins := withHandoffs [.posture 3 (some ⟨0, 1000, 1000⟩)]
    let s := begins (s0.setDrive 3 { s0.drive 3 with
      wheel := ⟨600, 600⟩, bases := ⟨.recover, .closed, .min⟩, frostCap := some 700, lockoutHold := true })
    let p := s0.active.setTrain 3 { s0.active.train 3 with wheelSource := .band, bandChannel := 20, bandLow := 0, bandHigh := 1 }
    let banded := withActive { p with pool := (p.pool.set 0 200).set 1 240 } s
    let level := fun s : State => ((after (.postureApply 3) s).drive 3).band
    let ends := fun (s : State) (b : Bases) => withHandoffs [.posture 3 none] (s.setDrive 3 { s0.drive 3 with bases := b })
    let u := ends s0 ⟨.posture, .posture, .posture⟩
    let v := (ends s0 ⟨.zero, .closed, .zero⟩).setDrive 3
      { s0.drive 3 with bases := ⟨.zero, .opened, .zero⟩, lockoutHold := true, posture := some ⟨0, 0, 0⟩ }
    let waits := v.setTrain 3 { v.train 3 with lockout := some 5 }
    s.awake ∧ s.handoffs.find? (Handoff.isPosture 3) = some (.posture 3 (some ⟨0, 1000, 1000⟩)) ∧ (s.drive 3).wheel.effective ≠ 0 ∧
    (s.params 3).wheelSource ≠ .band ∧ (s.drive 3).bases.wheel = .recover ∧
    ((after (.postureApply 3) s).drive 3).frostCap = none ∧
    banded.awake ∧ banded.handoffs = s.handoffs ∧ (banded.params 3).wheelSource = .band ∧
    banded.usableValue (banded.params 3).bandChannel = none ∧ level banded = none ∧
    level (fresh 20 241 banded) = some .high ∧ level (fresh 20 199 banded) = some .low ∧ level (fresh 20 240 banded) = none ∧
    u.awake ∧ u.handoffs.find? (Handoff.isPosture 3) = some (.posture 3 none) ∧ (u.drive 3).lockoutHold = false ∧
    (u.drive 3).bases = ⟨.posture, .posture, .posture⟩ ∧
    v.awake ∧ v.handoffs = u.handoffs ∧ ((after (.postureApply 3) v).drive 3).lockoutHold = false ∧
    waits.awake ∧ waits.handoffs = u.handoffs ∧ ((after (.postureApply 3) waits).drive 3).lockoutHold = true := by decide
theorem witness_PwmTakesEffectiveValues : s0.live ∧ (23 : Fin 24).val / 3 = (7 : Train).val ∧ s0.active.polarity.get 23 = .normal ∧
    ({ s0.active with polarity := s0.active.polarity.set 23 .inverted }).polarity.get 23 = .inverted := by decide
/-- A HIGH line, a LOW line with a delay of 10 s and of 0 s, and a running release delay. -/
theorem witness_LineEventsDecidePostures :
    let low := (after (.lineSensedLow 1) s0).completePostures
    let delayed := (after (.lineSensedHigh 1) low).setLine 1 ⟨.high, true, some 0⟩
    let none0 := { low with active := { low.active with lines := .replicate 4 ⟨0xFF, .isolate, 0⟩ } }
    (∀ m, (s0.line m).sound) ∧ (∀ k, s0.posture k = s0.decidedPosture k) ∧ s0.live ∧ (s0.line 1).level = .high ∧
    (∀ m, (low.line m).sound) ∧ (∀ k, low.posture k = low.decidedPosture k) ∧ low.live ∧ (low.line 1).level = .low ∧
    0 < (low.active.lines.get 1).delay ∧
    (∀ k, none0.posture k = none0.decidedPosture k) ∧ (none0.line 1).level = .low ∧ (none0.active.lines.get 1).delay = 0 ∧
    (after (.lineSensedHigh 1) low).live ∧ ((after (.lineSensedHigh 1) low).line 1).delay ≠ some 0 ∧
    delayed.live ∧ (∀ m, (delayed.line m).sound) ∧ (∀ k, delayed.posture k = delayed.decidedPosture k) ∧
    (delayed.line 1).delay = some 0 := by
  decide +kernel

theorem witness_StageSetsOneItem :
    s0.ready .c ∧ (s0.right .c).config = true ∧ s0.locked = false ∧ itemOfBytes? 0 5 4 = some (.train 5 .wsMax) ∧
    s0.staged.stage? (.train 5 .wsMax) 1000 ≠ none ∧ s0.staged.stage? (.train 5 .wsMax) 1001 = none ∧
    s0.staged.stage? (.train 5 .wsMax) 0 ≠ none ∧ itemOfBytes? 0 8 4 = none ∧
    itemOfBytes? 11 0 0 = some (.line 0 .trains) ∧ (Item.line 0 .trains).locked = true ∧
    ((withActive (s0.active.setRights .c { s0.active.right .c with config := false }) s0).right .c).config = false := by decide
theorem witness_ItemIdsRoundTrip : itemOfBytes? 0 7 18 = some (.train 7 .restartLockout) ∧ itemOfBytes? 0 7 19 = none := by
  decide
theorem witness_ApplyCopiesStagedSet :
    let bad := { s0 with staged := s0.staged.setTrain 5 { s0.staged.train 5 with wsMax := 800, wsFloor := 900 } }
    s0.ready .c ∧ (s0.right .c).config = true ∧ s0.applyFault? = none ∧
    bad.ready .c ∧ (bad.right .c).config = true ∧ bad.applyFault? = some (.invalidSet, .train 5 .wsFloor) := by decide
/-- A staged set that fails each check alone, with the item it names; slots in use, and a train that holds a slot and is to move. -/
theorem witness_ApplyCopiesStagedSet_checks :
    let staged := fun p : Params => ({ s0 with staged := p } : State).applyFault?
    let train := fun (f : TrainParams → TrainParams) => staged (s0.active.setTrain 5 (f (s0.active.train 5)))
    let limit := fun n : Nat => { s0.active with shafts := s0.active.shafts.set 0 { s0.active.shafts.get 0 with slotLimit := n } }
    let holding := withActive (limit 2) (s0.setShaft 0 { s0.shaft 0 with holders := [5, 6] })
    train (fun t => { t with wsMin := 900, wsMax := 800 }) = some (.invalidSet, .train 5 .wsMin) ∧
    train (fun t => { t with wsFloor := 900, wsMax := 800 }) = some (.invalidSet, .train 5 .wsFloor) ∧
    staged { s0.active.setTrain 5 { s0.active.train 5 with wheelSource := .band, bandLow := 1, bandHigh := 2 } with
      pool := (s0.active.pool.set 1 300).set 2 299 } = some (.invalidSet, .train 5 .bandLow) ∧
    train (fun t => { t with wheelSource := .follow, leader := 5 }) = some (.invalidSet, .train 5 .leader) ∧
    staged (s0.active.setChannel 23 { s0.active.channel 23 with standIn := some 23 }) = some (.invalidSet, .channel 23 .standIn) ∧
    staged (s0.active.setChannel 11 { s0.active.channel 11 with low := 300, high := 299 }) = some (.invalidSet, .channel 11 .low) ∧
    staged (s0.active.setRights .c { s0.active.right .c with priority := (s0.active.right .a).priority }) =
      some (.invalidSet, .rights .c .priority) ∧
    ({ holding with staged := limit 1 } : State).applyFault? = some (.slotsInUse, .shaft 0 .slotLimit) ∧
    ({ holding with staged := (limit 2).setTrain 5 { s0.active.train 5 with shaft := 1 } } : State).applyFault? =
      some (.trainBusy, .train 5 .shaft) := by decide +kernel
/-- An accepted APPLY that changes a slot, a band threshold of a wheel in RECOVER, and the routing of REFERENCE_LOST from B to C. -/
theorem witness_ApplyCopiesStagedSet_reactions :
    let old := { s0.active with routing := s0.active.routing.set 1 2 }
    let slots := (old.slots.get 3).set 0 { (old.slots.get 3).get 0 with onCount := 9 }
    let p := old.setTrain 3 { old.train 3 with wheelSource := .band, bandChannel := 20, bandLow := 0, bandHigh := 1 }
    let banded := { s0.setDrive 3 { s0.drive 3 with bases := ⟨.recover, .closed, .min⟩, band := some .high } with active := p, staged :=
      { p with pool := (p.pool.set 0 200).set 1 240, slots := p.slots.set 3 slots, routing := p.routing.set 1 4 } }
    let s := fresh 20 220 ((banded.setNotice .a ⟨[], false⟩).setNotice .c ⟨[], false⟩)
    s.ready .c ∧ (s.right .c).config = true ∧ s.applyFault? = none ∧ p.pool.get 1 ≠ 240 ∧
    (p.slots.get 3).get 0 ≠ slots.get 0 ∧ (s.drive 3).bases.wheel = .recover ∧
    ((after (.apply .c 1 []) s).drive 3).band = none ∧ ((after (.apply .c 1 []) (fresh 20 241 s)).drive 3).band = some .high ∧
    s.active.routes .referenceLost .b = true ∧ s.staged.routes .referenceLost .b = false ∧
    (after (.apply .c 1 []) s).notice .b = ⟨[], false⟩ ∧ s.active.routes .referenceLost .c = false ∧
    (after (.apply .c 1 []) s).notice .c = ⟨[⟨.referenceLost, 1, false⟩], true⟩ := by decide +kernel
theorem witness_DiscardRestoresStagedSet : s0.ready .c ∧ (s0.right .c).config = true ∧
    ((withActive (s0.active.setRights .a { s0.active.right .a with config := false }) s0).right .a).config = false := by
  decide
theorem witness_LockFreezesItems : s0.ready .c ∧ (s0.right .c).config = true ∧ s0.locked = false ∧
    (Item.line 0 .trains).locked = true ∧ (Item.ramp).locked = false := by decide
theorem witness_ReadsAnswerRecords : s0.ready .a ∧ s0.ready .b := by decide
theorem witness_LatchesFreezeRecords :
    let sent := fun s : State => after (.responseSent .a) s
    let t := sent (after (.latchTrains .a 1 []) s0)
    let r := sent (after (.latchReference .a 1 []) s0)
    let h := sent (after (.latchShafts .a 1 []) s0)
    s0.ready .a ∧ (s0.port .a).latchTrains = none ∧ (s0.port .a).latchReference = none ∧ (s0.port .a).latchShafts = none ∧
    t.ready .a ∧ (t.port .a).latchTrains.isSome = true ∧ r.ready .a ∧ (r.port .a).latchReference.isSome = true ∧
    h.ready .a ∧ (h.port .a).latchShafts.isSome = true := by decide +kernel
theorem witness_NoticesTaken :
    s0.ready .b ∧ s0.pendingSound .b ∧
    (s0.notice .b).entries.find? (fun x => !x.taken) = some ⟨.referenceLost, 1, false⟩ ∧
    (let s := s0.setNotice .b ⟨[⟨.referenceLost, 1, true⟩, ⟨.modeChanged 3, 255, false⟩], true⟩;
      s.pendingSound .b ∧ (s.notice .b).entries.find? (fun x => !x.taken) = some ⟨.modeChanged 3, 255, false⟩) ∧
    (let s := s0.setNotice .b ⟨[⟨.referenceLost, 1, true⟩], false⟩;
      s.pendingSound .b ∧ ∀ x ∈ (s.notice .b).entries, x.taken = true) ∧
    condition? 9 0 = none ∧ condition? 1 8 = none ∧ condition? 2 0xFF = some .referenceLost := by
  refine ⟨by decide, ⟨?_, ?_, ?_, ?_, ?_⟩, by decide, ⟨⟨?_, ?_, ?_, ?_, ?_⟩, by decide⟩,
    ⟨⟨?_, ?_, ?_, ?_, ?_⟩, by decide⟩, by decide⟩ <;> decide

/-- A sound state with channel 11 FRESH and a command waiting. -/
def waiting : State := { fresh 11 231 s0 with pending := [.lineSensedLow 0] }
theorem waiting_trains (k : Train) : waiting.train k = .reset := by
  revert k
  decide
theorem waiting_params : waiting.paramsSound := by
  refine ⟨⟨?_, ?_, ?_, ?_, ?_, ?_, ?_, ?_, ?_, ?_, ?_⟩, ⟨?_, ?_, ?_, ?_, ?_, ?_, ?_, ?_, ?_, ?_, ?_⟩, ?_, ?_⟩ <;>
    first | decide | (intro l; cases l <;> decide)
theorem waiting_notices : waiting.noticesSound ∧ waiting.heldSound := by
  refine ⟨fun l => ?_, ?_, ?_, ?_, ?_, ?_⟩
  · cases l <;> refine ⟨?_, ?_, ?_, ?_, ?_⟩ <;> decide
  all_goals decide
/-- A raise of each kind that waits for the Notice Table, CHANNEL_STALE filed on link B already, and REFERENCE_LOST held. -/
def raising (x : Raise) : State :=
  { (withRaised [x] s0).setNotice .b ⟨[⟨.referenceLost, 1, true⟩, ⟨.channelStale 11, 255, false⟩], true⟩ with
    reference := { s0.reference with lost := x ≠ .ends .referenceLost }
    trains := if x = .begins (.safe 3) then s0.trains.set 3 { s0.train 3 with state := .safe } else s0.trains }
theorem witness_NoticesTaken_events :
    ∀ x ∈ [Raise.edge (.channelStale 11), .edge (.modeChanged 3), .begins (.safe 3), .ends .referenceLost],
      (raising x).pending = [] ∧ (raising x).raised = [x] ∧ (raising x).live ∧ (raising x).noticesSound ∧ (raising x).heldSound := by
  intro x hx
  simp only [List.mem_cons, List.not_mem_nil, or_false] at hx
  rcases hx with rfl | rfl | rfl | rfl <;> refine ⟨by decide, by decide, by decide, fun l => ?_, ?_, ?_, ?_, ?_, ?_⟩
  all_goals first | decide | (cases l <;> refine ⟨?_, ?_, ?_, ?_, ?_⟩ <;> decide)
theorem waiting_observations : (∀ c, waiting.channelSound c) ∧ waiting.referenceSound ∧ ∀ k, waiting.demandSound k := by
  have empty : ∀ k, waiting.demand k = [] := by decide
  refine ⟨fun c => ⟨?_, ?_, ?_, ?_⟩, ⟨?_, ?_, ?_⟩, fun k => ⟨?_, ?_, ?_⟩⟩ <;>
    first | decide | (revert c; decide) | simp [empty k]
theorem waiting_trainsSound : waiting.trainsSound := by
  refine ⟨fun k => ?_, fun h => ⟨?_, ?_, ?_, ?_, fun k m => ?_, ?_⟩, ?_⟩
  · rw [waiting_trains]
    exact ⟨fun r h => (nomatch h), by decide, by decide, by decide, by decide⟩
  · revert h; decide
  · revert h; decide
  · revert h; decide
  · revert h; decide
  · revert h k; cases m <;> decide
  · revert h; decide
  · decide
theorem waiting_drives (k : Train) : (waiting.drive k).sound := by
  refine ⟨?_, ?_, ?_, ?_, ?_, ?_, ?_⟩ <;> revert k <;> decide
theorem waiting_outputs : waiting.outputsSound := by
  refine ⟨waiting_drives, by decide, fun x h => (nomatch h), by decide, fun k h e => ?_⟩
  rw [waiting_trains] at e
  cases e
theorem waiting_lifeSafety : waiting.lifeSafetySound := by
  have none' : ∀ k, (waiting.drive k).posture = none := by decide
  refine ⟨by decide, by decide, by decide, by decide, fun k v h => ?_⟩
  rw [none' k] at h
  cases h
/-- For ApplyOfNoChange, ParametersStaySound, NoticesStaySound, ReferenceStaysSound, DemandsStaySound, SlotsStaySound, OutputsStaySound and
LifeSafetyStaysSound. -/
theorem witness_sound :
    waiting.sound ∧ (∃ t, step waiting = .next t ∧ (t.line 0).asserted = true) ∧
    waiting.ready .c ∧ (waiting.right .c).config = true ∧ waiting.staged = waiting.active :=
  ⟨⟨waiting_params, waiting_notices.1, waiting_notices.2, waiting_observations.1, waiting_observations.2.1,
      waiting_observations.2.2, waiting_trainsSound, waiting_outputs, waiting_lifeSafety⟩,
    ⟨_, rfl, by decide⟩, by decide, by decide, by decide⟩
/-- For LifeSafetyStaysSound: line 0 low, the event of its posture incomplete, and a command that finds it complete. -/
theorem witness_LifeSafetyStaysSound :
    let t := after (.lineSensedLow 0) s0
    (t.line 0).asserted = true ∧ inTrains (t.active.lines.get 0).trains 0 = true ∧ ¬t.settled ∧ t.awake ∧
    beginsEvent .pwmPeriod = true ∧
    (withRaised [.edge (.channelStale 11)] t).awake ∧ (withRaised [.edge (.channelStale 11)] t).raised ≠ [] ∧ (t.completePostures.train 0).state = .safe ∧ s0.settled := by decide +kernel

end Sys2Proof.Tests
end

section
/-! The credit test of a station (R21 to R24): the counting of one result in its four cases, and the credit test with and without others. -/

namespace Sys2Proof.Machine

@[simp] theorem lowerMedian_nil : lowerMedian [] = none := rfl

/-! The counting of a result (R23, R24). -/

section
variable {p : StationParams} {r : StationRec}

theorem countCredit_credited_agrees (h : r.credit = .credited) :
    countCredit p r true = ({ r with counter := 0 }, false) := by
  simp [countCredit, h]

theorem countCredit_credited_disagrees_reaching (h : r.credit = .credited) (hcount : r.counter + 1 = p.discredit) :
    countCredit p r false = ({ r with credit := .discredited, counter := 0 }, true) := by
  simp [countCredit, h, hcount]

theorem countCredit_credited_disagrees_below (h : r.credit = .credited) (hcount : r.counter + 1 ≠ p.discredit) :
    countCredit p r false = ({ r with counter := r.counter + 1 }, false) := by
  simp [countCredit, h, hcount]

theorem countCredit_discredited_agrees (h : r.credit = .discredited) :
    countCredit p r true =
      (if r.counter + 1 = p.recredit then { r with credit := .credited, counter := 0 }
        else { r with counter := r.counter + 1 }, false) := by
  by_cases hcount : r.counter + 1 = p.recredit <;> simp [countCredit, h, hcount]

theorem countCredit_discredited_disagrees (h : r.credit = .discredited) :
    countCredit p r false = ({ r with counter := 0 }, false) := by
  simp [countCredit, h]

end

/-! The credit test through the result it counts. -/

/-- The record of a station whose published value `x` was tested against the median `m` of the others, before the result is counted. -/
def State.testedStation (s : State) (st : Station) (x m : Int) : StationRec :=
  { s.station st with lastReduced := some (s.reduced st x), lastDeviation := some |s.reduced st x - m| }

section
variable {s : State} {st : Station} {x m : Int} {r : StationRec}

/-- Without others there is nothing to compare with (R21). -/
theorem creditTest_of_others_nil (h : s.others st = []) :
    s.creditTest st x =
      s.setStation st { s.station st with lastReduced := some (s.reduced st x), lastDeviation := none } := by
  simp [State.creditTest, h]

/-- With others, the tested record is counted as agreeing or not with their median. -/
theorem creditTest_of_median (hm : lowerMedian (s.others st) = some m) :
    s.creditTest st x =
      let counted := countCredit s.active.station (s.testedStation st x m)
        (decide (|s.reduced st x - m| ≤ s.active.station.tolerance))
      if counted.2 then (s.setStation st counted.1).raise (.stationDiscredited st) else s.setStation st counted.1 := by
  simp only [State.creditTest, hm]
  rfl

/-- An agreeing result discredits nobody: it only replaces the station's record. -/
theorem creditTest_of_within_tolerance (hm : lowerMedian (s.others st) = some m)
    (h : |s.reduced st x - m| ≤ (s.active.station.tolerance : Int))
    (hc : countCredit s.active.station (s.testedStation st x m) true = (r, false)) :
    s.creditTest st x = s.setStation st r := by
  simp [creditTest_of_median hm, h, hc]

/-- A disagreeing result raises STATION_DISCREDITED exactly when the count discredits the station (R23). -/
theorem creditTest_of_beyond_tolerance {discredits : Bool} (hm : lowerMedian (s.others st) = some m)
    (h : (s.active.station.tolerance : Int) < |s.reduced st x - m|)
    (hc : countCredit s.active.station (s.testedStation st x m) false = (r, discredits)) :
    s.creditTest st x =
      if discredits then (s.setStation st r).raise (.stationDiscredited st) else s.setStation st r := by
  simp [creditTest_of_median hm, h.not_ge, hc]

end

/-- Settles O16, by cases on the others, on the deviation and the tolerance, and on the station's credit. -/
theorem creditTestCounts : Obligations.CreditTestCounts := by
  unfold Obligations.CreditTestCounts
  intro st x s r p reduced
  refine ⟨creditTest_of_others_nil, ?_⟩
  intro m hm r'
  constructor
  · intro within
    exact ⟨fun credited => creditTest_of_within_tolerance hm within (countCredit_credited_agrees credited),
      fun discredited => creditTest_of_within_tolerance hm within (countCredit_discredited_agrees discredited)⟩
  · intro beyond
    constructor
    · intro discredited
      exact creditTest_of_beyond_tolerance hm beyond (countCredit_discredited_disagrees discredited)
    · intro credited
      split
      case isTrue reaching =>
        exact creditTest_of_beyond_tolerance hm beyond (countCredit_credited_disagrees_reaching credited reaching)
      case isFalse below =>
        exact creditTest_of_beyond_tolerance hm beyond (countCredit_credited_disagrees_below credited below)

end Sys2Proof.Machine
end

section
/-! The rounded division (R36) between bounds, and the enthalpy formula (R46). -/

namespace Sys2Proof.Machine

/-! Rounding keeps a whole bound of the quotient (R36). -/

section
variable {num den a : Int}

theorem le_roundDiv (hden : 0 < den) (h : a * den ≤ num) : a ≤ roundDiv num den :=
  (Int.le_ediv_iff_mul_le (by omega)).2 (by linarith)

theorem roundDiv_le (hden : 0 < den) (h : num ≤ a * den) : roundDiv num den ≤ a := by
  have below : roundDiv num den < a + 1 := (Int.ediv_lt_iff_lt_mul (by omega)).2 (by linarith)
  omega

end

/-! The numerator of the enthalpy (R46): its rise with each argument and its bounds. -/

theorem enthalpyNumerator_succ_temperature (t w : Int) :
    enthalpyNumerator (t + 1) w = enthalpyNumerator t w + (10060000 + 186 * w) := by
  unfold enthalpyNumerator
  ring

theorem enthalpyNumerator_succ_humidity (t w : Int) :
    enthalpyNumerator t (w + 1) = enthalpyNumerator t w + (2501000 + 186 * t) := by
  unfold enthalpyNumerator
  ring

/-- Over the temperatures of R43 the factor of the humidity ratio is positive, so dry air bounds the numerator below. -/
theorem le_enthalpyNumerator {t w : Int} (ht : -500 ≤ t) (hw : 0 ≤ w) : -503 * 10000000 ≤ enthalpyNumerator t w := by
  have moisture : 0 ≤ w * (2501000 + 186 * t) := mul_nonneg hw (by omega)
  unfold enthalpyNumerator
  omega

/-- The hottest and most humid corner bounds the numerator above. -/
theorem enthalpyNumerator_le {t w : Int} (ht : t ≤ 600) (hw : 0 ≤ w) (hw' : w ≤ 4000) :
    enthalpyNumerator t w ≤ enthalpyNumerator 600 4000 := by
  have moisture : w * (2501000 + 186 * t) ≤ 4000 * (2501000 + 186 * 600) :=
    (mul_le_mul_of_nonneg_left (by omega) hw).trans (mul_le_mul_of_nonneg_right hw' (by decide))
  unfold enthalpyNumerator
  omega

/-- The rounding of R36 written out for the enthalpy's denominator. -/
theorem enthalpy_eq (t w : Int) : enthalpy t w = (enthalpyNumerator t w + 5000000) / 10000000 := by
  unfold enthalpy roundDiv
  omega

/-- Settles O23: the factors of both arguments in the numerator are positive, which gives its rise and its extreme corners. -/
theorem enthalpyInRange : Obligations.EnthalpyInRange := by
  unfold Obligations.EnthalpyInRange
  intro t w ht ht' hw hw'
  have corner : enthalpyNumerator 600 4000 ≤ 1649 * 10000000 := by decide
  refine ⟨enthalpy_eq t w, ?lower, ?upper, ?rises_temperature, ?rises_humidity, by decide⟩
  case lower => exact le_roundDiv (by decide) (le_enthalpyNumerator ht hw)
  case upper => exact roundDiv_le (by decide) ((enthalpyNumerator_le ht' hw hw').trans corner)
  case rises_temperature =>
    rw [enthalpyNumerator_succ_temperature]
    omega
  case rises_humidity =>
    rw [enthalpyNumerator_succ_humidity]
    omega

end Sys2Proof.Machine
end

section
/-! The evaluation event (R52, R53): when it is taken, and the record it leaves in the Criterion Bank. -/

namespace Sys2Proof.Machine

theorem exec_evaluation (k : Train) (s : State) : exec (.evaluation k) s = execEvaluation k s := rfl

/-- The evaluation of a part that takes events, once the timer has run. -/
theorem exec_evaluation_of_due {k : Train} {s : State} (hl : s.live) (due : (s.bank k).evalTimer = 0) :
    exec (.evaluation k) s = .next (s.evaluate k) := by
  rw [exec_evaluation, execEvaluation, takeEvent_live hl, if_pos due]

/-- The train's bank record after its evaluation: the qualified slots, the reloaded timer and the new decision. -/
theorem evaluate_bank (k : Train) (s : State) :
    (s.evaluate k).bank k =
      let i := s.intake k (s.effective k).d
      let raws := s.rawResults k i
      let slots := (s.qualified k raws).map Prod.fst
      ⟨slots, (s.params k).period, some (s.decision k i raws slots)⟩ := by
  simp [State.evaluate, State.bank]

/-- The temperature and the selection of the new decision are those of the intake computation. -/
theorem evaluate_temperature (k : Train) (s : State) :
    ∃ d, ((s.evaluate k).bank k).decision = some d ∧
      (d.tOA, d.selection) = intakeTemperature s.active.station.lapse (s.params k).height s.points := by
  rw [evaluate_bank]
  exact ⟨_, rfl, rfl⟩

end Sys2Proof.Machine
end

section
/-! The intake temperature (R40 to R43): which stations are picked, and the temperature formed from them. -/

namespace Sys2Proof.Machine

/-! The pick of a station from a list (R40). -/

/-- One step of a pick: what a station makes of the best one found before it. -/
def displace (better : StationPoint → StationPoint → Bool) (ok : StationPoint → Bool) (best : Option StationPoint)
    (x : StationPoint) : Option StationPoint :=
  if ok x then (match best with | none => some x | some b => if better x b then some x else some b) else best

theorem pickBest_eq_foldl (better : StationPoint → StationPoint → Bool) (ok : StationPoint → Bool) (ps : List StationPoint) :
    pickBest better ok ps = ps.foldl (displace better ok) none := rfl

section
variable {better : StationPoint → StationPoint → Bool} {ok : StationPoint → Bool} {x y : StationPoint} {ps : List StationPoint}

/-- The outcome of a step is the station itself, where it is eligible, or the best one before it. -/
theorem displace_eq_some {best : Option StationPoint} (h : displace better ok best x = some y) :
    best = some y ∨ (y = x ∧ ok y = true) := by
  unfold displace at h
  split at h
  case isFalse => exact .inl h
  case isTrue eligible =>
    split at h
    case h_1 => cases h; exact .inr ⟨rfl, eligible⟩
    case h_2 =>
      split at h
      case isTrue => cases h; exact .inr ⟨rfl, eligible⟩
      case isFalse => exact .inl h

theorem displace_of_better {best : Option StationPoint} (okx : ok x = true) (h : ∀ b, best = some b → better x b = true) :
    displace better ok best x = some x := by
  cases best with
  | none => simp [displace, okx]
  | some b => simp [displace, okx, h b rfl]

theorem displace_of_not_better (h : ok y = true → better y x = false) : displace better ok (some x) y = some x := by
  cases eligible : ok y with
  | false => simp [displace, eligible]
  | true => simp [displace, eligible, h eligible]

/-- Whatever a run over a list ends with was its start or is an eligible station of the list. -/
theorem foldl_displace_eq_some {best : Option StationPoint} (h : ps.foldl (displace better ok) best = some y) :
    best = some y ∨ (y ∈ ps ∧ ok y = true) := by
  induction ps generalizing best with
  | nil => exact .inl h
  | cons x ps ih =>
    rcases ih h with step | ⟨mem, eligible⟩
    · rcases displace_eq_some step with kept | ⟨rfl, eligible⟩
      · exact .inl kept
      · exact .inr ⟨List.mem_cons_self, eligible⟩
    · exact .inr ⟨List.mem_cons_of_mem x mem, eligible⟩

/-- A best station that nothing after it is preferred to stays the best. -/
theorem foldl_displace_of_not_better (h : ∀ y ∈ ps, ok y = true → better y x = false) :
    ps.foldl (displace better ok) (some x) = some x := by
  induction ps with
  | nil => rfl
  | cons y ps ih =>
    rw [List.foldl_cons, displace_of_not_better (h y List.mem_cons_self)]
    exact ih fun z hz => h z (List.mem_cons_of_mem y hz)

theorem pickBest_eq_none (h : ∀ y ∈ ps, ok y = false) : pickBest better ok ps = none := by
  rw [Option.eq_none_iff_forall_ne_some]
  intro y picked
  rcases foldl_displace_eq_some picked with start | ⟨mem, eligible⟩
  · cases start
  · simp [h y mem] at eligible

/-- The pick from stations in index order is the eligible one that is preferred to every other, or as good and of the lowest index:
it displaces whatever was found before it, and nothing after it displaces it. -/
theorem pickBest_eq_some (sorted : ps.Pairwise (fun x y => x.station < y.station)) (mem : x ∈ ps) (okx : ok x = true)
    (notBetter : ∀ y ∈ ps, ok y = true → better y x = false)
    (first : ∀ y ∈ ps, ok y = true → y.station < x.station → better x y = true) : pickBest better ok ps = some x := by
  obtain ⟨before, after, rfl⟩ := List.append_of_mem mem
  obtain ⟨-, -, indices⟩ := List.pairwise_append.1 sorted
  have displaces : displace better ok (before.foldl (displace better ok) none) x = some x := by
    refine displace_of_better okx fun b found => ?_
    rcases foldl_displace_eq_some found with start | ⟨memb, okb⟩
    · cases start
    · exact first b (List.mem_append_left _ memb) okb (indices b memb x List.mem_cons_self)
  rw [pickBest_eq_foldl, List.foldl_append, List.foldl_cons, displaces]
  exact foldl_displace_of_not_better fun y hy => notBetter y (List.mem_append_right _ (List.mem_cons_of_mem x hy))

end

/-! LO and HI (R40). -/

section
variable {z : Int} {x : StationPoint} {ps : List StationPoint}

theorem pickLo_eq_none (h : ∀ y ∈ ps, z < y.height) : pickLo z ps = none :=
  pickBest_eq_none fun y hy => by simpa using h y hy

theorem pickHi_eq_none (h : ∀ y ∈ ps, y.height < z) : pickHi z ps = none :=
  pickBest_eq_none fun y hy => by simpa using h y hy

theorem pickLo_eq_some (sorted : ps.Pairwise (fun x y => x.station < y.station)) (mem : x ∈ ps) (hx : x.height ≤ z)
    (nearest : ∀ y ∈ ps, y.height ≤ z → y.height < x.height ∨ (y.height = x.height ∧ x.station ≤ y.station)) :
    pickLo z ps = some x := by
  refine pickBest_eq_some sorted mem (by simpa using hx) ?notBetter ?first
  case notBetter =>
    intro y hy oky
    rcases nearest y hy (by simpa using oky) with lower | ⟨same, -⟩
    · simpa using lower.le
    · simpa using same.le
  case first =>
    intro y hy oky before
    rcases nearest y hy (by simpa using oky) with lower | ⟨-, after⟩
    · simpa using lower
    · exact absurd before after.not_gt

theorem pickHi_eq_some (sorted : ps.Pairwise (fun x y => x.station < y.station)) (mem : x ∈ ps) (hx : z ≤ x.height)
    (nearest : ∀ y ∈ ps, z ≤ y.height → x.height < y.height ∨ (y.height = x.height ∧ x.station ≤ y.station)) :
    pickHi z ps = some x := by
  refine pickBest_eq_some sorted mem (by simpa using hx) ?notBetter ?first
  case notBetter =>
    intro y hy oky
    rcases nearest y hy (by simpa using oky) with higher | ⟨same, -⟩
    · simpa using higher.le
    · simpa using same.ge
  case first =>
    intro y hy oky before
    rcases nearest y hy (by simpa using oky) with higher | ⟨-, after⟩
    · simpa using higher
    · exact absurd before after.not_gt

end

/-! The three ways of R41, by the picked stations. -/

section
variable {lapse z : Int} {x lo hi : StationPoint} {ps : List StationPoint}

@[simp] theorem intakeTemperature_nil (lapse z : Int) : intakeTemperature lapse z [] = (none, .nothing) := rfl

theorem intakeTemperature_of_exact (hlo : pickLo z ps = some x) (hhi : pickHi z ps = some hi) (same : x.height = z) :
    intakeTemperature lapse z ps = (some (clamp (-500) 600 x.t), .exact x.station) := by
  simp [intakeTemperature, intakeForm, hlo, hhi, same]

theorem intakeTemperature_of_between (hlo : pickLo z ps = some lo) (hhi : pickHi z ps = some hi) (below : lo.height ≠ z) :
    intakeTemperature lapse z ps =
      (some (clamp (-500) 600 (interpolate z lo hi)), .interpolated lo.station hi.station) := by
  simp [intakeTemperature, intakeForm, hlo, hhi, below]

theorem intakeTemperature_of_below (hlo : pickLo z ps = some x) (hhi : pickHi z ps = none) :
    intakeTemperature lapse z ps = (some (clamp (-500) 600 (extrapolate lapse z x)), .extrapolated x.station .below) := by
  simp [intakeTemperature, intakeForm, hlo, hhi]

theorem intakeTemperature_of_above (hlo : pickLo z ps = none) (hhi : pickHi z ps = some x) :
    intakeTemperature lapse z ps = (some (clamp (-500) 600 (extrapolate lapse z x)), .extrapolated x.station .above) := by
  simp [intakeTemperature, intakeForm, hlo, hhi]

end

/-! The figures of R41 to R43. -/

theorem clamp_mem_range {low high : Int} (h : low ≤ high) (v : Int) : low ≤ clamp low high v ∧ clamp low high v ≤ high := by
  unfold clamp
  omega

/-- Whatever is picked, a temperature that is formed lies in −500..600 (R43). -/
theorem intakeTemperature_mem_range {lapse z v : Int} {ps : List StationPoint} (h : (intakeTemperature lapse z ps).1 = some v) :
    -500 ≤ v ∧ v ≤ 600 := by
  obtain ⟨u, -, rfl⟩ := Option.map_eq_some_iff.1 h
  exact clamp_mem_range (by decide) u

/-- Without a lapse the one station's value is taken as it is. -/
@[simp] theorem extrapolate_zero (z : Int) (x : StationPoint) : extrapolate 0 z x = x.t := by
  simp [extrapolate, lapseCorrection, roundDiv]

/-- The interpolation lies between the two values: the share of the height difference lies between 0 and 1, and rounding keeps
the whole bounds 0 and `hi.t - lo.t`. -/
theorem interpolate_between {z : Int} {lo hi : StationPoint} (below : lo.height < z) (above : z < hi.height) :
    min lo.t hi.t ≤ interpolate z lo hi ∧ interpolate z lo hi ≤ max lo.t hi.t := by
  have hden : 0 < hi.height - lo.height := by omega
  have hpart : 0 ≤ z - lo.height := by omega
  have hshare : z - lo.height ≤ hi.height - lo.height := by omega
  unfold interpolate
  rcases le_total lo.t hi.t with rising | falling
  · have lower := le_roundDiv (a := 0) hden (num := (hi.t - lo.t) * (z - lo.height))
      (by rw [zero_mul]; exact mul_nonneg (by omega) hpart)
    have upper := roundDiv_le hden (mul_le_mul_of_nonneg_left hshare (show 0 ≤ hi.t - lo.t by omega))
    omega
  · have lower := le_roundDiv hden (mul_le_mul_of_nonpos_left hshare (show hi.t - lo.t ≤ 0 by omega))
    have upper := roundDiv_le (a := 0) hden (num := (hi.t - lo.t) * (z - lo.height))
      (by rw [zero_mul]; exact mul_nonpos_of_nonpos_of_nonneg (by omega) hpart)
    omega

/-- Settles O22: in each case the two picks are determined, and they determine the way the temperature is formed. -/
theorem intakeTemperatureFormed : Obligations.IntakeTemperatureFormed := by
  unfold Obligations.IntakeTemperatureFormed
  intro k s live due sorted
  obtain ⟨d, made, formed⟩ := evaluate_temperature k s
  refine ⟨s.evaluate k, d, exec_evaluation_of_due live due, made, ?_⟩
  intro z lapse inRange nearestBelow nearestAbove extrapolated
  have formed : (d.tOA, d.selection) = intakeTemperature lapse z s.points := formed
  have extrapolated_of {x : StationPoint} {side : Side}
      (h : intakeTemperature lapse z s.points =
        (some (clamp (-500) 600 (extrapolate lapse z x)), .extrapolated x.station side)) : extrapolated x side := by
    obtain ⟨temperature, selection⟩ := Prod.mk.inj (formed.trans h)
    exact ⟨temperature, selection, fun noLapse => by rw [temperature, noLapse, extrapolate_zero]⟩
  refine ⟨?nothing, ?range, ?exact, ?between, ?below, ?above⟩
  case nothing =>
    intro empty
    rw [empty, intakeTemperature_nil] at formed
    exact Prod.mk.inj formed
  case range =>
    intro v hv
    exact intakeTemperature_mem_range ((congrArg Prod.fst formed).symm.trans hv)
  case exact =>
    intro x mem same lowest
    have hlo : pickLo z s.points = some x := pickLo_eq_some sorted mem same.le fun y hy hyz =>
      hyz.lt_or_eq.imp (·.trans_eq same.symm) fun eq => ⟨eq.trans same.symm, lowest y hy eq⟩
    have hhi : pickHi z s.points = some x := pickHi_eq_some sorted mem same.ge fun y hy hyz =>
      hyz.lt_or_eq.imp same.trans_lt fun eq => ⟨eq.symm.trans same.symm, lowest y hy eq.symm⟩
    exact Prod.mk.inj (formed.trans (intakeTemperature_of_exact hlo hhi same))
  case between =>
    intro lo hi ⟨memLo, belowLo, nearestLo⟩ ⟨memHi, aboveHi, nearestHi⟩ noneAt v
    have hlo : pickLo z s.points = some lo := pickLo_eq_some sorted memLo belowLo.le fun y hy hyz =>
      nearestLo y hy (hyz.lt_of_ne (noneAt y hy))
    have hhi : pickHi z s.points = some hi := pickHi_eq_some sorted memHi aboveHi.le fun y hy hyz =>
      nearestHi y hy (hyz.lt_of_ne (noneAt y hy).symm)
    obtain ⟨temperature, selection⟩ := Prod.mk.inj (formed.trans (intakeTemperature_of_between hlo hhi belowLo.ne))
    obtain ⟨lower, upper⟩ := interpolate_between belowLo aboveHi
    exact ⟨temperature, selection, lower, upper, fun rangeLo rangeHi =>
      ⟨(le_min rangeLo.1 rangeHi.1).trans lower, upper.trans (max_le rangeLo.2 rangeHi.2)⟩⟩
  case below =>
    intro x ⟨mem, belowX, nearest⟩ allBelow
    exact extrapolated_of (intakeTemperature_of_below
      (pickLo_eq_some sorted mem belowX.le fun y hy _ => nearest y hy (allBelow y hy)) (pickHi_eq_none allBelow))
  case above =>
    intro x ⟨mem, aboveX, nearest⟩ allAbove
    exact extrapolated_of (intakeTemperature_of_above (pickLo_eq_none allAbove)
      (pickHi_eq_some sorted mem aboveX.le fun y hy _ => nearest y hy (allAbove y hy)))

end Sys2Proof.Machine
end

section
/-! The candidate of an evaluation (R66, R67): the order of the permits, and what the lockout leaves of it. -/

namespace Sys2Proof.Machine

/-! Not locked out, the first permitted mode is taken. -/

@[simp] theorem candidateOf_freeCool (recoverCool recoverHeat : Bool) :
    candidateOf false true recoverCool recoverHeat = .freeCool := rfl

@[simp] theorem candidateOf_recoverCool (recoverHeat : Bool) :
    candidateOf false false true recoverHeat = .recoverCool := rfl

@[simp] theorem candidateOf_recoverHeat : candidateOf false false false true = .recoverHeat := rfl

@[simp] theorem candidateOf_bypass : candidateOf false false false false = .bypass := rfl

/-- The lockout takes both cooling modes away, whatever their permits (R66): only the permit of RECOVER_HEAT counts. -/
@[simp] theorem candidateOf_lockout (freeCool recoverCool recoverHeat : Bool) :
    candidateOf true freeCool recoverCool recoverHeat = if recoverHeat then .recoverHeat else .bypass := by
  simp [candidateOf]

/-- OFFLINE is no candidate: each arm of the order names another mode. -/
theorem candidateOf_ne_offline (lockout freeCool recoverCool recoverHeat : Bool) :
    candidateOf lockout freeCool recoverCool recoverHeat ≠ .offline := by
  unfold candidateOf
  split_ifs <;> decide

/-- The lockout of the new decision is the loss of the reference, and its candidate is chosen by its own lockout and permits. -/
theorem evaluate_candidate (k : Train) (s : State) :
    ∃ d, ((s.evaluate k).bank k).decision = some d ∧ d.lockout = s.reference.lost ∧
      d.candidate = candidateOf d.lockout (d.permits.get 0) (d.permits.get 1) (d.permits.get 2) := by
  rw [evaluate_bank]
  exact ⟨_, rfl, rfl, rfl⟩

/-- Settles O19: the record's candidate is `candidateOf` of its own lockout and permits, read off case by case. -/
theorem candidateFollowsPermits : Obligations.CandidateFollowsPermits := by
  unfold Obligations.CandidateFollowsPermits
  intro k s live due
  obtain ⟨d, made, lockout, candidate⟩ := evaluate_candidate k s
  refine ⟨s.evaluate k, d, exec_evaluation_of_due live due, made, lockout, ?never_offline, ?free_cool, ?recover_cool,
    ?recover_heat, ?bypass, ?locked_heat, ?locked_bypass⟩
  case never_offline =>
    rw [candidate]
    exact candidateOf_ne_offline _ _ _ _
  case free_cool =>
    intro unlocked freeCool
    rw [candidate, unlocked, freeCool, candidateOf_freeCool]
  case recover_cool =>
    intro unlocked noFreeCool recoverCool
    rw [candidate, unlocked, noFreeCool, recoverCool, candidateOf_recoverCool]
  case recover_heat =>
    intro unlocked noFreeCool noRecoverCool recoverHeat
    rw [candidate, unlocked, noFreeCool, noRecoverCool, recoverHeat, candidateOf_recoverHeat]
  case bypass =>
    intro unlocked noFreeCool noRecoverCool noRecoverHeat
    rw [candidate, unlocked, noFreeCool, noRecoverCool, noRecoverHeat, candidateOf_bypass]
  case locked_heat =>
    intro locked recoverHeat
    rw [candidate, locked, recoverHeat, candidateOf_lockout, if_pos rfl]
  case locked_bypass =>
    intro locked noRecoverHeat
    rw [candidate, locked, noRecoverHeat, candidateOf_lockout, if_neg Bool.false_ne_true]

end Sys2Proof.Machine
end

section
/-! The outdoor-air allocation (R125): the figures and the case of a recomputation, the grant of a member between its min and its req, the
flows granted together, and what a recomputed shaft and its members read as. -/

namespace Sys2Proof.Machine

/-! What a member asks for (R123). -/

@[simp] theorem ask_train (s : State) (k : Train) : (s.ask k).train = k := rfl

/-- The min of a member is not above its req, whatever the basis (R123). -/
theorem ask_min_le_req (s : State) (k : Train) : (s.ask k).min ≤ (s.ask k).req := by
  simp only [State.ask]
  cases (s.share k).basis with
  | zero | hold | posture => exact le_rfl
  | min => exact le_rfl
  | econ => exact le_max_right _ _

theorem ask_req_of_zero {s : State} {k : Train} (h : (s.share k).basis = .zero) : (s.ask k).req = 0 := by
  simp [State.ask, h, memberReq]

/-- A flow summed over what the members ask for is summed over the members. -/
theorem sum_map_ask (s : State) (ks : List Train) (v : Ask → Nat) :
    ((ks.map s.ask).map fun a => v a * a.q).sum = (ks.map fun k => v (s.ask k) * (s.params k).q).sum := by
  rw [List.map_map]
  rfl

/-! The figures and the case. -/

section
variable (cap : Int) (asks : List Ask)

theorem figures_sumReq : (figures cap asks).sumReq = (asks.map fun a => a.req * a.q).sum := rfl
theorem figures_sumMin : (figures cap asks).sumMin = (asks.map fun a => a.min * a.q).sum := rfl
theorem figures_excess : (figures cap asks).excess = (asks.map fun a => (a.req - a.min) * a.q).sum := rfl
theorem figures_avail : (figures cap asks).avail = cap - (figures cap asks).sumMin := rfl

theorem figures_allocCase : (figures cap asks).allocCase =
    if ((figures cap asks).sumReq : Int) ≤ cap then .unconstrained
    else if (figures cap asks).avail ≤ 0 ∨ (figures cap asks).excess = 0 then .minimum else .proportional := rfl

theorem figures_unconstrained_iff :
    (figures cap asks).allocCase = .unconstrained ↔ ((figures cap asks).sumReq : Int) ≤ cap := by
  rw [figures_allocCase]
  split_ifs <;> simp [*]

theorem figures_minimum_iff : (figures cap asks).allocCase = .minimum ↔
    cap < (figures cap asks).sumReq ∧ ((figures cap asks).avail ≤ 0 ∨ (figures cap asks).excess = 0) := by
  rw [figures_allocCase, ← not_le]
  split_ifs <;> simp [*]

theorem figures_proportional_iff : (figures cap asks).allocCase = .proportional ↔
    cap < (figures cap asks).sumReq ∧ 0 < (figures cap asks).avail ∧ (figures cap asks).excess ≠ 0 := by
  rw [figures_allocCase, ← not_le, ← not_le, ne_eq, ← not_or]
  split_ifs <;> simp [*]

end

section
variable {cap : Int} {asks : List Ask} (hle : ∀ a ∈ asks, a.min ≤ a.req)
include hle

/-- The excess is what the reqs come to above the mins. -/
theorem figures_excess_add_sumMin :
    (figures cap asks).excess + (figures cap asks).sumMin = (figures cap asks).sumReq := by
  rw [figures_excess, figures_sumMin, figures_sumReq, ← List.sum_map_add]
  congr 1
  refine List.map_congr_left fun a ha => ?_
  rw [← Nat.add_mul, Nat.sub_add_cancel (hle a ha)]

/-- Past the capacity the available flow is short of the excess. -/
theorem figures_avail_lt_excess (past : cap < (figures cap asks).sumReq) :
    (figures cap asks).avail < (figures cap asks).excess := by
  have total := figures_excess_add_sumMin (cap := cap) hle
  have avail := figures_avail cap asks
  omega

end

/-! The grant of a member. -/

section
variable {f : Figures} (a : Ask)

theorem grantOf_unconstrained (h : f.allocCase = .unconstrained) : grantOf f a = a.req := by simp [grantOf, h]
theorem grantOf_minimum (h : f.allocCase = .minimum) : grantOf f a = a.min := by simp [grantOf, h]
theorem grantOf_proportional (h : f.allocCase = .proportional) :
    grantOf f a = a.min + (a.req - a.min) * f.avail.toNat / f.excess := by simp [grantOf, h]

/-- The proportional grant in the words of R125, the available flow a signed figure. -/
theorem coe_grantOf_proportional (h : f.allocCase = .proportional) (positive : 0 < f.avail) :
    (grantOf f a : Int) = a.min + (a.req - a.min : Nat) * f.avail / f.excess := by
  rw [grantOf_proportional a h, Int.natCast_add, Int.natCast_ediv, Int.natCast_mul, Int.toNat_of_nonneg positive.le]

theorem min_le_grantOf (hle : a.min ≤ a.req) : a.min ≤ grantOf f a := by
  cases h : f.allocCase with
  | unconstrained => rw [grantOf_unconstrained a h]; exact hle
  | minimum => rw [grantOf_minimum a h]
  | proportional => rw [grantOf_proportional a h]; exact Nat.le_add_right _ _

/-- An available flow short of the excess gives no member more than its req. -/
theorem grantOf_le_req (hle : a.min ≤ a.req) (short : f.allocCase = .proportional → f.avail < f.excess) :
    grantOf f a ≤ a.req := by
  cases h : f.allocCase with
  | unconstrained => rw [grantOf_unconstrained a h]
  | minimum => rw [grantOf_minimum a h]; exact hle
  | proportional =>
    have fraction : f.avail.toNat ≤ f.excess := by
      have := short h
      omega
    have share : (a.req - a.min) * f.avail.toNat / f.excess ≤ a.req - a.min :=
      Nat.div_le_of_le_mul (Nat.mul_comm f.excess _ ▸ Nat.mul_le_mul_left _ fraction)
    rw [grantOf_proportional a h]
    omega

end

/-! The flows granted together. -/

/-- Each share rounded down, the shares of an excess together are at most the flow shared out. -/
theorem sum_shares_mul_le (asks : List Ask) (avail excess : Nat) :
    (asks.map fun a => (a.req - a.min) * avail / excess * a.q).sum * excess ≤
      (asks.map fun a => (a.req - a.min) * a.q).sum * avail := by
  rw [← List.sum_map_mul_right, ← List.sum_map_mul_right]
  refine List.sum_le_sum fun a _ => ?_
  calc (a.req - a.min) * avail / excess * a.q * excess
      = (a.req - a.min) * avail / excess * excess * a.q := Nat.mul_right_comm _ _ _
    _ ≤ (a.req - a.min) * avail * a.q := Nat.mul_le_mul_right _ (Nat.div_mul_le_self _ _)
    _ = (a.req - a.min) * a.q * avail := Nat.mul_right_comm _ _ _

/-- In the proportional case the shares of the excess fit in the available flow, so the grants fit in the capacity. -/
theorem sum_grantOf_proportional_le {cap : Int} {asks : List Ask} (h : (figures cap asks).allocCase = .proportional) :
    ((asks.map fun a => grantOf (figures cap asks) a * a.q).sum : Int) ≤ cap := by
  obtain ⟨-, positive, excess_ne⟩ := (figures_proportional_iff cap asks).1 h
  have shares := sum_shares_mul_le asks (figures cap asks).avail.toNat (figures cap asks).excess
  rw [← figures_excess cap, Nat.mul_comm (figures cap asks).excess] at shares
  have fits := Nat.le_of_mul_le_mul_right shares (Nat.pos_of_ne_zero excess_ne)
  simp only [grantOf_proportional _ h, Nat.add_mul, List.sum_map_add, ← figures_sumMin cap]
  have avail := figures_avail cap asks
  omega

/-- The capacity of a shaft is kept, but for the minimums (R125). -/
theorem sum_grantOf_le (cap : Int) (asks : List Ask) :
    ((asks.map fun a => grantOf (figures cap asks) a * a.q).sum : Int) ≤ max cap (figures cap asks).sumMin := by
  cases h : (figures cap asks).allocCase with
  | unconstrained =>
    simp only [grantOf_unconstrained _ h, ← figures_sumReq cap]
    exact le_max_of_le_left ((figures_unconstrained_iff cap asks).1 h)
  | minimum =>
    simp only [grantOf_minimum _ h, ← figures_sumMin cap]
    exact le_max_right _ _
  | proportional => exact le_max_of_le_left (sum_grantOf_proportional_le h)

/-! A grant set: the shaft records stay, and the member's entry has its min, req and grant. -/

section
variable (f : Figures) (a : Ask) (s : State)

@[simp] theorem setGrant_shaft (g : Shaft) : (State.setGrant f a s).shaft g = s.shaft g := by
  unfold State.setGrant
  dsimp only
  split_ifs <;> simp

theorem setGrant_share (k : Train) : (State.setGrant f a s).share k =
    if a.train = k then { s.share a.train with share := some ⟨a.min, a.req, grantOf f a⟩ } else s.share k := by
  unfold State.setGrant
  dsimp only
  split <;> simp [setShare_share]

end

/-- After a run over the members, each of them has what it asked for and its grant. -/
theorem forEach_setGrant_share (f : Figures) (s₀ : State) {ks : List Train} {k : Train} (hk : k ∈ ks) (s : State) :
    ((forEach (ks.map s₀.ask) (State.setGrant f) s).share k).share =
      some ⟨(s₀.ask k).min, (s₀.ask k).req, grantOf f (s₀.ask k)⟩ := by
  induction ks generalizing s with
  | nil => simp at hk
  | cons j js ih =>
    rw [List.map_cons, forEach_cons]
    rcases List.mem_cons.1 hk with rfl | later
    · refine forEach_induct (P := fun t => (t.share k).share = some ⟨_, _, _⟩) ?_ (by simp [setGrant_share])
      intro a ha t granted
      obtain ⟨i, -, rfl⟩ := List.mem_map.1 ha
      rw [setGrant_share, ask_train]
      split_ifs with same
      · rw [same]
      · exact granted
    · exact ih later _

/-! A shaft recomputed. -/

/-- The figures of a shaft's recomputation: those of what its allocated members ask for. -/
def State.shaftFigures (s : State) (h : Shaft) : Figures :=
  figures (capF s.active h) ((s.allocatedMembers h).map s.ask)

theorem recomputeShaft_eq (s : State) (h : Shaft) : s.recomputeShaft h =
    forEach ((s.allocatedMembers h).map s.ask) (State.setGrant (s.shaftFigures h)) (s.setFigures h (s.shaftFigures h)) := rfl

theorem setFigures_shaft_self (s : State) (h : Shaft) (f : Figures) : (s.setFigures h f).shaft h =
    { s.shaft h with sumMin := f.sumMin, sumReq := f.sumReq, avail := f.avail, excess := f.excess, allocCase := f.allocCase } :=
  setShaft_shaft_self s h _

theorem recomputeShaft_shaft_self (s : State) (h : Shaft) :
    (s.recomputeShaft h).shaft h = (s.setFigures h (s.shaftFigures h)).shaft h := by
  rw [recomputeShaft_eq]
  exact forEach_induct (P := fun t => t.shaft h = _) (fun _ _ _ kept => (setGrant_shaft _ _ _ _).trans kept) rfl

/-- The recomputed shaft's record shows the figures and the case of its recomputation. -/
theorem recomputeShaft_figures (s : State) (h : Shaft) :
    ((s.recomputeShaft h).shaft h).sumMin = (s.shaftFigures h).sumMin ∧
    ((s.recomputeShaft h).shaft h).sumReq = (s.shaftFigures h).sumReq ∧
    ((s.recomputeShaft h).shaft h).avail = (s.shaftFigures h).avail ∧
    ((s.recomputeShaft h).shaft h).excess = (s.shaftFigures h).excess ∧
    ((s.recomputeShaft h).shaft h).allocCase = (s.shaftFigures h).allocCase := by
  rw [recomputeShaft_shaft_self, setFigures_shaft_self]
  exact ⟨rfl, rfl, rfl, rfl, rfl⟩

theorem recomputeShaft_share {s : State} {h : Shaft} {k : Train} (hk : k ∈ s.allocatedMembers h) :
    ((s.recomputeShaft h).share k).share =
      some ⟨(s.ask k).min, (s.ask k).req, grantOf (s.shaftFigures h) (s.ask k)⟩ :=
  forEach_setGrant_share _ s hk _

section
variable (s : State) (h : Shaft)

theorem shaftFigures_sumReq : (s.shaftFigures h).sumReq =
    ((s.allocatedMembers h).map fun k => (s.ask k).req * (s.params k).q).sum := sum_map_ask s _ Ask.req

theorem shaftFigures_sumMin : (s.shaftFigures h).sumMin =
    ((s.allocatedMembers h).map fun k => (s.ask k).min * (s.params k).q).sum := sum_map_ask s _ Ask.min

theorem shaftFigures_excess : (s.shaftFigures h).excess =
    ((s.allocatedMembers h).map fun k => ((s.ask k).req - (s.ask k).min) * (s.params k).q).sum :=
  sum_map_ask s _ fun a => a.req - a.min

theorem asked_min_le_req : ∀ a ∈ (s.allocatedMembers h).map s.ask, a.min ≤ a.req := by
  intro a ha
  obtain ⟨k, -, rfl⟩ := List.mem_map.1 ha
  exact ask_min_le_req s k

theorem shaftFigures_avail_lt_excess (past : capF s.active h < (s.shaftFigures h).sumReq) :
    (s.shaftFigures h).avail < (s.shaftFigures h).excess := figures_avail_lt_excess (asked_min_le_req s h) past

/-- A shaft whose members all have the basis ZERO is asked for nothing, which any capacity allows. -/
theorem shaftFigures_of_all_zero (zero : ∀ k ∈ s.allocatedMembers h, (s.share k).basis = .zero) :
    (s.shaftFigures h).allocCase = .unconstrained := by
  have nothing : (s.shaftFigures h).sumReq = 0 := by
    rw [shaftFigures_sumReq, List.sum_eq_zero_iff]
    intro flow mem
    obtain ⟨k, hk, rfl⟩ := List.mem_map.1 mem
    rw [ask_req_of_zero (zero k hk), Nat.zero_mul]
  refine (figures_unconstrained_iff _ _).2 ?_
  change ((s.shaftFigures h).sumReq : Int) ≤ _
  rw [nothing, capF]
  omega

end

/-- The flows granted on a recomputed shaft, as the members' entries read. -/
theorem sum_recomputed_grants (s : State) (h : Shaft) :
    ((s.allocatedMembers h).map fun k =>
      (((s.recomputeShaft h).share k).share.map (·.grant)).getD 0 * (s.params k).q).sum =
      (((s.allocatedMembers h).map s.ask).map fun a => grantOf (s.shaftFigures h) a * a.q).sum := by
  rw [sum_map_ask]
  congr 1
  refine List.map_congr_left fun k hk => ?_
  rw [recomputeShaft_share hk]
  rfl

/-- Settles O36: the recomputed shaft reads as its figures and each member's entry as its grant, and the rest is said of these. -/
theorem grantsWithinCapacity : Obligations.GrantsWithinCapacity := by
  unfold Obligations.GrantsWithinCapacity
  intro h s t f members cap flow grant
  obtain ⟨sumMin, sumReq, avail, excess, allocCase⟩ := recomputeShaft_figures s h
  have shared : ∀ k ∈ members, (t.share k).share =
      some ⟨(s.ask k).min, (s.ask k).req, grantOf (s.shaftFigures h) (s.ask k)⟩ := fun k => recomputeShaft_share
  have granted : ∀ k ∈ members, grant k = grantOf (s.shaftFigures h) (s.ask k) := fun k hk => by
    simp only [grant, shared k hk, Option.map_some, Option.getD_some]
  have short : (s.shaftFigures h).allocCase = .proportional → (s.shaftFigures h).avail < (s.shaftFigures h).excess :=
    fun proportional => shaftFigures_avail_lt_excess s h ((figures_proportional_iff _ _).1 proportional).1
  rw [sumMin, sumReq, avail, excess, allocCase]
  refine ⟨shaftFigures_sumReq s h, shaftFigures_sumMin s h, figures_avail _ _, shaftFigures_excess s h,
    figures_excess_add_sumMin (asked_min_le_req s h), figures_unconstrained_iff _ _, figures_minimum_iff _ _,
    figures_proportional_iff _ _, short, ?no_excess, ?members, ?capacity, ?no_members, shaftFigures_of_all_zero s h⟩
  case no_excess =>
    intro no_excess past
    have := shaftFigures_avail_lt_excess s h past
    rwa [no_excess] at this
  case members =>
    intro k hk
    have above := min_le_grantOf (f := s.shaftFigures h) (s.ask k) (ask_min_le_req s k)
    have below := grantOf_le_req (s.ask k) (ask_min_le_req s k) short
    rw [granted k hk]
    exact ⟨shared k hk, above, below, below.trans, grantOf_unconstrained _, grantOf_minimum _, fun proportional =>
      have ⟨_, positive, _⟩ := (figures_proportional_iff _ _).1 proportional
      coe_grantOf_proportional _ proportional positive⟩
  case capacity =>
    change ((members.map fun k => grant k * (s.params k).q).sum : Int) ≤ _
    rw [sum_recomputed_grants s h]
    exact sum_grantOf_le _ _
  case no_members =>
    intro empty
    have nobody : s.allocatedMembers h = [] := empty
    have none_asked : s.shaftFigures h = figures cap [] := by
      rw [State.shaftFigures, nobody]
      rfl
    have unconstrained := shaftFigures_of_all_zero s h (by simp [nobody])
    rw [none_asked] at unconstrained ⊢
    exact ⟨rfl, rfl, rfl, Int.sub_zero cap, unconstrained⟩

end Sys2Proof.Machine
end

section
/-! Requests answered on an idle transmitter (R161, R169): the payload and right checks, and the outcome of a request whose effect leaves the
Link Ports alone. -/

namespace Sys2Proof

@[simp] theorem Vec.set_set {n : Nat} {α : Type} (v : Vec n α) (i : Fin n) (x y : α) : (v.set i x).set i y = v.set i y :=
  Vec.ext_get fun j => by
    simp only [Vec.get_set]
    split <;> rfl

end Sys2Proof

namespace Sys2Proof.Machine

/-! The checks before a request's effect. -/

@[simp] theorem whenEmpty_nil (f : RequestMeaning) : whenEmpty [] f = f := rfl

@[simp] theorem whenEmpty_cons (b : Byte) (payload : List Byte) (f : RequestMeaning) :
    whenEmpty (b :: payload) f = refuse .badLength := rfl

section
variable {l : Link} {f : RequestMeaning} {s : State}

theorem whenConfig_of_right (right : (s.right l).config = true) : whenConfig l f s = f s := if_pos right

theorem whenConfig_of_no_right (noRight : (s.right l).config = false) : whenConfig l f s = refuse .noRight s := by
  simp [whenConfig, noRight]

end

/-! The outcome of the request event. -/

section
variable {l : Link} {kind tag : Byte} {f : RequestMeaning} {s t : State} {r : Reply}

/-- A request carried out on the hunting receiver, whose effect leaves the Link Ports alone, leaves its effect and the reply being sent. -/
theorem answerRequest_of_ports_kept (ready : s.ready l) (effect : f (s.setPort l (s.port l).hunt) = (t, r))
    (kept : t.ports = (s.setPort l (s.port l).hunt).ports) :
    answerRequest l kind tag f s = .next { t with ports := s.repliedPorts l kind tag r.status r.data } := by
  obtain ⟨live, transmitterIdle⟩ := ready
  have hunting : t.port l = (s.port l).hunt := by
    rw [State.port, kept]
    exact setPort_port_self s l _
  rw [answerRequest_live live, answer_idle transmitterIdle, effect, hunting, State.setPort, kept, setPort_ports, Vec.set_set]
  rfl

/-- A refused request leaves only its refusal being sent (R169). -/
theorem answerRequest_of_refused {x : Status} (ready : s.ready l)
    (refused : f (s.setPort l (s.port l).hunt) = refuse x (s.setPort l (s.port l).hunt)) :
    answerRequest l kind tag f s = .next { s with ports := s.repliedPorts l kind tag x [] } :=
  answerRequest_of_ports_kept ready refused rfl

end

end Sys2Proof.Machine
end

section
/-! The Parameter Store's DISCARD (R164). -/

namespace Sys2Proof.Machine

/-- A DISCARD is the request event of its kind, with its payload checked empty and its right checked before the effect. -/
theorem exec_discard (l : Link) (tag : Byte) (payload : List Byte) (s : State) :
    exec (.discard l tag payload) s = answerRequest l kindDiscard tag
      (whenEmpty payload (whenConfig l fun s => ({ s with staged := s.active }, .ok []))) s := rfl

/-- Settles O47: a payload or a missing right is refused, and otherwise the effect replaces only the staged set. -/
theorem discardRestoresStagedSet : Obligations.DiscardRestoresStagedSet := by
  unfold Obligations.DiscardRestoresStagedSet
  intro l tag b payload s ready
  rw [exec_discard, exec_discard, whenEmpty_cons, whenEmpty_nil, ← setPort_right s l (s.port l).hunt l]
  refine ⟨?with_payload, ?without_right, ?taken⟩
  case with_payload => exact answerRequest_of_refused ready rfl
  case without_right =>
    intro noRight
    exact answerRequest_of_refused ready (whenConfig_of_no_right noRight)
  case taken =>
    intro right
    exact answerRequest_of_ports_kept (t := { s.setPort l (s.port l).hunt with staged := s.active }) (r := .ok []) ready
      (whenConfig_of_right right) rfl

end Sys2Proof.Machine
end

section
/-! The uptime counter (R173): each operation of the blocks and each request leaves it as it was. -/

namespace Sys2Proof.Machine

/-! The branches and runs that operations are made of. -/

theorem uptime_ite {p : Prop} [Decidable p] {s t u : State} (ht : t.uptime = s.uptime) (hu : u.uptime = s.uptime) :
    (if p then t else u).uptime = s.uptime := by
  split
  · exact ht
  · exact hu

theorem forEach_uptime {α : Type} {f : α → State → State} (kept : ∀ x s, (f x s).uptime = s.uptime) (xs : List α) (s : State) :
    (forEach xs f s).uptime = s.uptime :=
  forEach_induct (P := fun t => t.uptime = s.uptime) (fun x _ t h => (kept x t).trans h) rfl

theorem takeHandoff_uptime {s s' : State} {p : Handoff → Bool} {x : Handoff} (h : s.takeHandoff p = some (x, s')) :
    s'.uptime = s.uptime := by
  rw [(takeHandoff_some h).2, setHandoffs_uptime]

/-! The ends of events, and the notices. -/

@[simp] theorem endEvent_uptime (s : State) : s.endEvent.uptime = s.uptime := by rw [endEvent_frame]

@[simp] theorem completePostures_uptime (s : State) : s.completePostures.uptime = s.uptime := by
  have frame := completePostures_frame s
  unfold SameButEvent at frame
  rw [frame]

@[simp] theorem fileRaise_uptime (x : Raise) (s : State) : (s.fileRaise x).uptime = s.uptime := by rw [fileRaise_frame]

/-! Observations, evaluations and demands. -/

@[simp] theorem publish_uptime (l : Link) (c : Channel) (v : Int) (s : State) : (s.publish l c v).uptime = s.uptime :=
  (stationPublished_same _ _ _).uptime

@[simp] theorem judgePair_uptime (l : Link) (pair : ReportPair) (s : State) : (s.judgePair l pair).1.uptime = s.uptime := by
  unfold State.judgePair
  split
  · rfl
  · split_ifs
    · rfl
    · rfl
    · rfl
    · exact publish_uptime _ _ _ _

@[simp] theorem judgePairs_uptime (l : Link) (pairs : List ReportPair) (s : State) :
    (s.judgePairs l pairs).1.uptime = s.uptime := by
  induction pairs generalizing s with
  | nil => rfl
  | cons pair rest ih => exact (ih _).trans (judgePair_uptime l pair s)

@[simp] theorem goStale_uptime (c : Channel) (s : State) : (s.goStale c).uptime = s.uptime :=
  uptime_ite (redecide_same _).uptime rfl

@[simp] theorem raiseFlips_uptime (k : Train) (qs : Vec 8 (SlotRec × Bool)) (s : State) :
    (s.raiseFlips k qs).uptime = s.uptime := by
  unfold State.raiseFlips
  refine forEach_uptime (fun c s => ?_) _ s
  split <;> rfl

@[simp] theorem evaluate_uptime (k : Train) (s : State) : (s.evaluate k).uptime = s.uptime := by
  unfold State.evaluate
  simp only [handOn_uptime, setBank_uptime, raiseFlips_uptime]

@[simp] theorem changeTable_uptime (k : Train) (table : List DemandEntry) (s : State) :
    (s.changeTable k table).uptime = s.uptime := by
  rw [changeTable_frame]

/-! The Train Sequencer. -/

@[simp] theorem expireStep_uptime (k : Train) (s : State) : (s.expireStep k).uptime = s.uptime := by
  unfold State.expireStep
  split
  · exact uptime_ite ((endEvent_uptime _).trans (completeStep_same _ _ _).uptime) rfl
  · rfl

@[simp] theorem wheelAtRest_uptime (k : Train) (s : State) : (s.wheelAtRest k).uptime = s.uptime := by
  unfold State.wheelAtRest
  split
  · refine uptime_ite ?_ rfl
    split
    · exact (completeStep_same _ _ _).uptime
    · rfl
  · rfl

@[simp] theorem startLockout_uptime (k : Train) (s : State) : (s.startLockout k).uptime = s.uptime := rfl

@[simp] theorem endLockout_uptime (k : Train) (s : State) : (s.endLockout k).uptime = s.uptime := by
  unfold State.endLockout
  dsimp only
  split
  · exact uptime_ite (completeStep_same _ _ _).uptime rfl
  · rfl

@[simp] theorem enterHeld_uptime (k : Train) (h : OutputValues) (s : State) : (s.enterHeld k h).uptime = s.uptime := by
  unfold State.enterHeld
  split
  · rfl
  · exact (takeOver_same _ _ _ _).uptime

/-! The Life-Safety Interface. -/

@[simp] theorem decidePostures_uptime (old : Params) (s : State) : (s.decidePostures old).uptime = s.uptime :=
  (decidePostures_same s old).uptime

@[simp] theorem senseLow_uptime (n : Line) (s : State) : (s.senseLow n).uptime = s.uptime :=
  uptime_ite rfl (decidePostures_uptime _ _)

@[simp] theorem senseHigh_uptime (n : Line) (s : State) : (s.senseHigh n).uptime = s.uptime := by
  refine uptime_ite rfl ?_
  split
  · rfl
  · exact decidePostures_uptime _ _

@[simp] theorem endAssertion_uptime (n : Line) (s : State) : (s.endAssertion n).uptime = s.uptime :=
  decidePostures_uptime _ _

@[simp] theorem samplePosture_uptime (k : Train) (s : State) : (State.samplePosture k s).uptime = s.uptime := by
  unfold State.samplePosture
  dsimp only
  split
  · rfl
  · exact (applyPosture_same _ _ _).uptime.trans (enterSafe_same _ _).uptime

@[simp] theorem sampleLines_uptime (levels : Vec 4 Level) (s : State) : (s.sampleLines levels).uptime = s.uptime :=
  (endEvent_uptime _).trans (forEach_uptime samplePosture_uptime _ _)

/-- The end of a reset event resets no uptime: that is left to the resets that do (`State.toDefaults`). -/
@[simp] theorem resetBlocks_uptime (cause : ResetCause) (levels : Vec 4 Level) (s : State) :
    (s.resetBlocks cause levels).uptime = s.uptime := by
  unfold State.resetBlocks
  rw [sampleLines_uptime, fileRaise_uptime]
  rfl

@[simp] theorem restart_uptime (s : State) : s.restart.uptime = s.uptime := by
  unfold State.restart
  rw [resetBlocks_uptime]

/-! What the blocks take up at an accepted APPLY (R162). -/

theorem markPending_uptime (old : Params) (s : State) : (State.markPending old s).uptime = s.uptime := rfl

theorem rerouteClass_uptime (old : Params) (l : Link) (c : NoticeClass) (s : State) :
    (State.rerouteClass old l c s).uptime = s.uptime :=
  uptime_ite (setEntries_uptime s l _) (uptime_ite (setEntries_uptime s l _) rfl)

theorem reroute_uptime (old : Params) (s : State) : (State.reroute old s).uptime = s.uptime := by
  unfold State.reroute
  exact forEach_uptime (fun l => forEach_uptime (rerouteClass_uptime old l) _) _ s

theorem applyChannel_uptime (old : Params) (c : Channel) (s : State) : (State.applyChannel old c s).uptime = s.uptime :=
  uptime_ite rfl rfl

theorem applyStations_uptime (old : Params) (s : State) : (State.applyStations old s).uptime = s.uptime :=
  (redecide_same _).uptime.trans (uptime_ite rfl rfl)

theorem applySlots_uptime (old : Params) (k : Train) (s : State) : (State.applySlots old k s).uptime = s.uptime := rfl

theorem applyDemands_uptime (old : Params) (k : Train) (s : State) : (State.applyDemands old k s).uptime = s.uptime :=
  changeTable_uptime k _ s

theorem applyLimit_uptime (old : Params) (h : Shaft) (s : State) : (State.applyLimit old h s).uptime = s.uptime :=
  uptime_ite (handOut_same _ _ _).uptime rfl

theorem applyShaft_uptime (old : Params) (h : Shaft) (s : State) : (State.applyShaft old h s).uptime = s.uptime :=
  uptime_ite (recomputeShaft_same _ _).uptime rfl

theorem applyDrive_uptime (old : Params) (k : Train) (s : State) : (State.applyDrive old k s).uptime = s.uptime := by
  unfold State.applyDrive
  extract_lets s1 d s2
  have formed : s1.uptime = s.uptime := uptime_ite (formRequest_same s k).uptime rfl
  have banded : s2.uptime = s.uptime := uptime_ite formed formed
  exact uptime_ite ((recompute_same s2 k).uptime.trans banded) banded

@[simp] theorem applyStaged_uptime (s : State) : s.applyStaged.uptime = s.uptime := by
  unfold State.applyStaged
  dsimp only
  rw [decidePostures_uptime, forEach_uptime (applyDrive_uptime _), forEach_uptime (applyShaft_uptime _), endEvent_uptime,
    forEach_uptime (applyLimit_uptime _), forEach_uptime (applyDemands_uptime _), forEach_uptime (applySlots_uptime _),
    applyStations_uptime, forEach_uptime (applyChannel_uptime _), reroute_uptime, markPending_uptime]

/-! The requests. -/

/-- Whether a request leaves the uptime as it was. -/
def KeepsUptime (f : RequestMeaning) : Prop := ∀ s, (f s).1.uptime = s.uptime

theorem refuse_keepsUptime (x : Status) : KeepsUptime (refuse x) := fun _ => rfl

theorem whenEmpty_keepsUptime {f : RequestMeaning} (kept : KeepsUptime f) (payload : List Byte) :
    KeepsUptime (whenEmpty payload f) := by
  cases payload with
  | nil => exact kept
  | cons b rest => exact refuse_keepsUptime _

theorem whenConfig_keepsUptime {f : RequestMeaning} (kept : KeepsUptime f) (l : Link) : KeepsUptime (whenConfig l f) := by
  intro s
  unfold whenConfig
  split
  · exact kept s
  · rfl

theorem requestReport_keepsUptime (l : Link) (payload : List Byte) : KeepsUptime (requestReport l payload) := by
  intro s
  unfold requestReport
  split
  · rfl
  · split
    · rfl
    · exact judgePairs_uptime l _ s

theorem requestDemand_keepsUptime (l : Link) (payload : List Byte) : KeepsUptime (requestDemand l payload) := by
  intro s
  unfold requestDemand
  split
  · rfl
  split
  · rfl
  split
  · rfl
  split
  · rfl
  · exact changeTable_uptime _ _ s

theorem requestWithdraw_keepsUptime (l : Link) (payload : List Byte) : KeepsUptime (requestWithdraw l payload) := by
  intro s
  unfold requestWithdraw
  split
  case h_2 => rfl
  split
  · rfl
  split_ifs
  · rfl
  · exact changeTable_uptime _ _ s
  · rfl

theorem requestHold_keepsUptime (l : Link) (payload : List Byte) : KeepsUptime (requestHold l payload) := by
  intro s
  unfold requestHold
  split
  · rfl
  split
  · rfl
  split_ifs
  · rfl
  · rfl
  · exact (endEvent_uptime _).trans (enterHeld_uptime _ _ s)

theorem requestRelease_keepsUptime (l : Link) (payload : List Byte) : KeepsUptime (requestRelease l payload) := by
  intro s
  unfold requestRelease
  split
  case h_2 => rfl
  split
  · rfl
  split
  · rfl
  · exact (endEvent_uptime _).trans (leaveHeld_same s _).uptime

theorem requestStage_keepsUptime (l : Link) (payload : List Byte) : KeepsUptime (requestStage l payload) := by
  intro s
  unfold requestStage
  repeat' split
  all_goals rfl

theorem requestApply_keepsUptime (l : Link) (payload : List Byte) : KeepsUptime (requestApply l payload) := by
  refine whenEmpty_keepsUptime (whenConfig_keepsUptime (fun s => ?_) l) payload
  unfold State.judgeApply
  split
  · rfl
  · exact applyStaged_uptime s

theorem requestDiscard_keepsUptime (l : Link) (payload : List Byte) : KeepsUptime (requestDiscard l payload) :=
  whenEmpty_keepsUptime (whenConfig_keepsUptime (fun _ => rfl) l) payload

@[simp] theorem setLock_uptime (s : State) : s.setLock.uptime = s.uptime := uptime_ite rfl rfl

theorem requestLock_keepsUptime (l : Link) (payload : List Byte) : KeepsUptime (requestLock l payload) :=
  whenEmpty_keepsUptime (whenConfig_keepsUptime (fun s => setLock_uptime s) l) payload

theorem requestRestart_keepsUptime (l : Link) (payload : List Byte) : KeepsUptime (requestRestart l payload) := by
  refine whenEmpty_keepsUptime (whenConfig_keepsUptime ?_ l) payload
  exact restart_uptime

/-! The requests that read. -/

theorem readIndexed_keepsUptime {α : Type} (rest : List Byte) (index : Byte → Option α) (record : State → α → List Byte) :
    KeepsUptime (readIndexed rest index record) := by
  intro s
  unfold readIndexed
  repeat' split
  all_goals rfl

theorem readSection_keepsUptime (n m : Nat) (rest : List Byte) (record : State → Fin n → Fin m → List Byte) :
    KeepsUptime (readSection n m rest record) := by
  intro s
  unfold readSection
  repeat' split
  all_goals rfl

theorem readItem_keepsUptime (rest : List Byte) (record : State → Item → List Byte) : KeepsUptime (readItem rest record) := by
  intro s
  unfold readItem
  repeat' split
  all_goals rfl

theorem requestReadIdentity_keepsUptime (rest : List Byte) : KeepsUptime (requestReadIdentity rest) :=
  whenEmpty_keepsUptime (fun _ => rfl) rest

theorem requestReadLinkStatus_keepsUptime (rest : List Byte) : KeepsUptime (requestReadLinkStatus rest) := by
  intro s
  unfold requestReadLinkStatus
  repeat' split
  all_goals rfl

theorem requestReadReference_keepsUptime (rest : List Byte) : KeepsUptime (requestReadReference rest) :=
  whenEmpty_keepsUptime (fun _ => rfl) rest

/-- A READ of any record kind keeps the uptime. -/
theorem requestRead_keepsUptime (payload : List Byte) : KeepsUptime (requestRead payload) := by
  unfold requestRead
  split
  case h_1 => exact refuse_keepsUptime _
  case h_2 kind rest =>
    split
    · exact requestReadIdentity_keepsUptime rest
    · exact requestReadLinkStatus_keepsUptime rest
    · exact readIndexed_keepsUptime rest _ _
    · exact readIndexed_keepsUptime rest _ _
    · exact requestReadReference_keepsUptime rest
    · exact readSection_keepsUptime _ _ rest _
    · exact readIndexed_keepsUptime rest _ _
    · exact readSection_keepsUptime _ _ rest _
    · exact readItem_keepsUptime rest _
    · exact readItem_keepsUptime rest _
    · exact refuse_keepsUptime _

theorem requestLatchTrains_keepsUptime (l : Link) (rest : List Byte) : KeepsUptime (requestLatchTrains l rest) :=
  whenEmpty_keepsUptime (fun _ => rfl) rest

theorem requestLatchReference_keepsUptime (l : Link) (rest : List Byte) : KeepsUptime (requestLatchReference l rest) :=
  whenEmpty_keepsUptime (fun _ => rfl) rest

theorem requestLatchShafts_keepsUptime (l : Link) (rest : List Byte) : KeepsUptime (requestLatchShafts l rest) :=
  whenEmpty_keepsUptime (fun _ => rfl) rest

/-- A LATCH of any scope keeps the uptime. -/
theorem requestLatch_keepsUptime (l : Link) (payload : List Byte) : KeepsUptime (requestLatch l payload) := by
  unfold requestLatch
  split
  case h_1 => exact refuse_keepsUptime _
  case h_2 scope rest =>
    split
    · exact requestLatchTrains_keepsUptime l rest
    · exact requestLatchReference_keepsUptime l rest
    · exact requestLatchShafts_keepsUptime l rest
    · exact whenEmpty_keepsUptime (refuse_keepsUptime _) rest

theorem requestReadLatched_keepsUptime (l : Link) (payload : List Byte) : KeepsUptime (requestReadLatched l payload) := by
  intro s
  unfold requestReadLatched
  repeat' split
  all_goals rfl

theorem requestTake_keepsUptime (l : Link) (payload : List Byte) : KeepsUptime (requestTake l payload) := by
  refine whenEmpty_keepsUptime (fun s => ?_) payload
  split <;> rfl

theorem requestPeek_keepsUptime (l : Link) (payload : List Byte) : KeepsUptime (requestPeek l payload) := by
  refine whenEmpty_keepsUptime (fun s => ?_) payload
  split <;> rfl

theorem requestAck_keepsUptime (l : Link) (payload : List Byte) : KeepsUptime (requestAck l payload) := by
  intro s
  unfold requestAck
  repeat' split
  all_goals rfl

/-- Whatever request a frame carries, it keeps the uptime. -/
theorem requestOf_keepsUptime (l : Link) (kind : Byte) (payload : List Byte) : KeepsUptime (requestOf l kind payload) := by
  unfold requestOf
  split
  · exact requestReport_keepsUptime l payload
  · exact requestDemand_keepsUptime l payload
  · exact requestWithdraw_keepsUptime l payload
  · exact requestHold_keepsUptime l payload
  · exact requestRelease_keepsUptime l payload
  · exact requestStage_keepsUptime l payload
  · exact requestApply_keepsUptime l payload
  · exact requestDiscard_keepsUptime l payload
  · exact requestLock_keepsUptime l payload
  · exact requestRestart_keepsUptime l payload
  · exact requestRead_keepsUptime payload
  · exact requestLatch_keepsUptime l payload
  · exact requestReadLatched_keepsUptime l payload
  · exact requestTake_keepsUptime l payload
  · exact requestPeek_keepsUptime l payload
  · exact requestAck_keepsUptime l payload
  · exact refuse_keepsUptime _

/-- Answered or dropped, a request that keeps the uptime leaves it as it was. -/
theorem answer_uptime {f : RequestMeaning} (kept : KeepsUptime f) (l : Link) (kind tag : Byte) (s : State) :
    (s.answer l kind tag f).uptime = s.uptime := by
  unfold State.answer
  split
  · exact dropFrame_uptime s l
  · exact kept (s.setPort l (s.port l).hunt)

/-! The receiver. -/

@[simp] theorem dropPartial_uptime (l : Link) (s : State) : (s.dropPartial l).uptime = s.uptime := by
  unfold State.dropPartial
  split
  · rfl
  · exact dropFrame_uptime s l

@[simp] theorem completeFrame_uptime (l : Link) (f : Frame) (check : BitVec 16) (s : State) :
    (s.completeFrame l f check).uptime = s.uptime :=
  uptime_ite (dropFrame_uptime s l) (answer_uptime (requestOf_keepsUptime _ _ _) _ _ _ _)

@[simp] theorem judgeBuffer_uptime (l : Link) (bytes : List Byte) (s : State) : (s.judgeBuffer l bytes).uptime = s.uptime := by
  unfold State.judgeBuffer
  split
  case h_1 =>
    refine uptime_ite (dropFrame_uptime s l) ?_
    split
    · exact completeFrame_uptime _ _ _ _
    · rfl
  case h_2 => rfl

@[simp] theorem receiveByte_uptime (l : Link) (b : Byte) (s : State) : (s.receiveByte l b).uptime = s.uptime := by
  unfold State.receiveByte
  split
  · exact uptime_ite rfl rfl
  · exact judgeBuffer_uptime _ _ _

end Sys2Proof.Machine
end

section
/-! The uptime counter (R173) at every command, and the records that carry it. -/

namespace Sys2Proof.Machine

/-! What an event and a request event keep. -/

section
variable {s t : State} {f : State → State}

theorem whenLive_uptime (h : whenLive f s = .next t) (kept : ∀ s, (f s).uptime = s.uptime) : t.uptime = s.uptime := by
  rcases whenLive_next h with ⟨-, rfl⟩ | ⟨-, rfl⟩
  · exact kept s
  · rfl

theorem takeEvent_uptime (h : takeEvent f s = .next t) (kept : ∀ s, (f s).uptime = s.uptime) : t.uptime = s.uptime :=
  whenLive_uptime h fun s => (kept _).trans (completePostures_uptime s)

theorem answerRequest_uptime {l : Link} {kind tag : Byte} {f : RequestMeaning} (h : answerRequest l kind tag f s = .next t)
    (kept : KeepsUptime f) : t.uptime = s.uptime :=
  takeEvent_uptime h (answer_uptime kept l kind tag)

end

/-! The commands that take a hand-off. -/

section
variable {s t : State} {k : Train}

theorem execTargetDecision_uptime {src : DecisionSource} (h : execTargetDecision k src s = .next t) :
    t.uptime = s.uptime := by
  refine takeEvent_uptime h fun s => ?_
  split
  case h_1 taken => exact (endEvent_uptime _).trans ((decideTarget_same _ k).uptime.trans (takeHandoff_uptime taken))
  case h_2 => rfl

theorem execWheelZeroEvent_uptime (h : execWheelZeroEvent k s = .next t) : t.uptime = s.uptime := by
  refine takeEvent_uptime h fun s => ?_
  split
  case h_1 taken => exact (endEvent_uptime _).trans ((wheelAtRest_uptime k _).trans
      ((startLockout_uptime k _).trans (takeHandoff_uptime taken)))
  case h_2 => rfl

theorem execSafeEntry_uptime (h : execSafeEntry k s = .next t) : t.uptime = s.uptime := by
  refine whenLive_uptime h fun s => ?_
  split
  case h_1 taken => exact (endEvent_uptime _).trans ((enterSafe_same _ k).uptime.trans (takeHandoff_uptime taken))
  case h_2 => rfl

theorem execSafeExit_uptime (h : execSafeExit k s = .next t) : t.uptime = s.uptime := by
  refine whenLive_uptime h fun s => ?_
  split
  case h_1 taken => exact (endEvent_uptime _).trans ((leaveSafe_same _ k).uptime.trans (takeHandoff_uptime taken))
  case h_2 => rfl

theorem execShaftRecompute_uptime {src : ShaftSource} (h : execShaftRecompute k src s = .next t) :
    t.uptime = s.uptime := by
  refine takeEvent_uptime h fun s => ?_
  split
  case h_1 taken => exact (takeBasis_same _ k _ _).uptime.trans (takeHandoff_uptime taken)
  case h_2 taken => exact (takeRequest_same _ k _).uptime.trans (takeHandoff_uptime taken)
  case h_3 => rfl

theorem execCommandRecompute_uptime {src : DriveSource} (h : execCommandRecompute k src s = .next t) :
    t.uptime = s.uptime := by
  refine takeEvent_uptime h fun s => ?_
  split
  case h_1 taken =>
    exact (recompute_same _ k).uptime.trans ((store_same _ k _).uptime.trans (takeHandoff_uptime taken))
  case h_2 => rfl

theorem execPostureApply_uptime (h : execPostureApply k s = .next t) : t.uptime = s.uptime := by
  refine whenLive_uptime h fun s => ?_
  split
  case h_1 taken => exact (applyPosture_same _ k _).uptime.trans (takeHandoff_uptime taken)
  case h_2 taken => exact (endPosture_same _ k).uptime.trans (takeHandoff_uptime taken)
  case h_3 => rfl

end

/-- Every command but the tick, the power-on and the release of the reset line keeps the uptime. -/
theorem exec_uptime {c : Instr} {s t : State} (noTick : c ≠ .uptimeTick)
    (noReset : ∀ v, c ≠ .powerOn v ∧ c ≠ .resetLineReleased v) (h : exec c s = .next t) : t.uptime = s.uptime := by
  unfold exec at h
  cases c with
  | uptimeTick => exact absurd rfl noTick
  | powerOn v => exact absurd rfl (noReset v).1
  | resetLineReleased v => exact absurd rfl (noReset v).2
  | resetLineAsserted => cases h; rfl
  | interByteTimeout l | framingError l => exact takeEvent_uptime h (dropPartial_uptime l)
  | frameTooLong l | frameRejected l => exact takeEvent_uptime h fun s => dropFrame_uptime s l
  | breakLine l | responseSent l => exact takeEvent_uptime h fun _ => rfl
  | badKind l kind tag payload =>
    exact takeEvent_uptime h fun s => uptime_ite rfl (answer_uptime (requestOf_keepsUptime l kind payload) l kind tag s)
  | frameStart l => exact takeEvent_uptime h (receiveByte_uptime l _)
  | byteReceived l b => exact takeEvent_uptime h (receiveByte_uptime l b)
  | ageTimerExpiry c => exact takeEvent_uptime h fun s => uptime_ite (goStale_uptime c s) rfl
  | evaluation k => exact takeEvent_uptime h fun s => uptime_ite (evaluate_uptime k s) rfl
  | demandExpiry k l => exact takeEvent_uptime h fun s => uptime_ite (changeTable_uptime k _ _) rfl
  | targetDecision k src => exact execTargetDecision_uptime h
  | dwellExpiry k => exact takeEvent_uptime h fun _ => uptime_ite rfl rfl
  | stepTimerExpiry k => exact takeEvent_uptime h (expireStep_uptime k)
  | wheelZeroEvent k => exact execWheelZeroEvent_uptime h
  | restartLockoutExpiry k =>
    exact takeEvent_uptime h fun s => uptime_ite ((endEvent_uptime _).trans (endLockout_uptime k s)) rfl
  | safeEntry k => exact execSafeEntry_uptime h
  | safeExit k => exact execSafeExit_uptime h
  | shaftRecompute k src => exact execShaftRecompute_uptime h
  | commandRecompute k src => exact execCommandRecompute_uptime h
  | postureApply k => exact execPostureApply_uptime h
  | rampStep k => exact takeEvent_uptime h fun s => uptime_ite (ramp_same s k).uptime rfl
  | pwmPeriod => exact takeEvent_uptime h fun _ => rfl
  | lineSensedLow n => exact takeEvent_uptime h fun s => uptime_ite rfl (senseLow_uptime n s)
  | lineSensedHigh n => exact takeEvent_uptime h fun s => uptime_ite rfl (senseHigh_uptime n s)
  | releaseDelayExpiry n => exact takeEvent_uptime h fun s => uptime_ite (endAssertion_uptime n s) rfl
  | report l tag payload => exact answerRequest_uptime h (requestReport_keepsUptime l payload)
  | demand l tag payload => exact answerRequest_uptime h (requestDemand_keepsUptime l payload)
  | withdraw l tag payload => exact answerRequest_uptime h (requestWithdraw_keepsUptime l payload)
  | hold l tag payload => exact answerRequest_uptime h (requestHold_keepsUptime l payload)
  | release l tag payload => exact answerRequest_uptime h (requestRelease_keepsUptime l payload)
  | stage l tag payload => exact answerRequest_uptime h (requestStage_keepsUptime l payload)
  | apply l tag payload => exact answerRequest_uptime h (requestApply_keepsUptime l payload)
  | discard l tag payload => exact answerRequest_uptime h (requestDiscard_keepsUptime l payload)
  | lock l tag payload => exact answerRequest_uptime h (requestLock_keepsUptime l payload)
  | restart l tag payload => exact answerRequest_uptime h (requestRestart_keepsUptime l payload)
  | readIdentity l tag rest => exact answerRequest_uptime h (requestReadIdentity_keepsUptime rest)
  | readLinkStatus l tag rest => exact answerRequest_uptime h (requestReadLinkStatus_keepsUptime rest)
  | readReference l tag rest => exact answerRequest_uptime h (requestReadReference_keepsUptime rest)
  | readChannel l tag rest | readStation l tag rest | readDemands l tag rest =>
    exact answerRequest_uptime h (readIndexed_keepsUptime rest _ _)
  | readTrain l tag rest | readShaft l tag rest => exact answerRequest_uptime h (readSection_keepsUptime _ _ rest _)
  | readParamActive l tag rest | readParamStaged l tag rest => exact answerRequest_uptime h (readItem_keepsUptime rest _)
  | latchTrains l tag rest => exact answerRequest_uptime h (requestLatchTrains_keepsUptime l rest)
  | latchReference l tag rest => exact answerRequest_uptime h (requestLatchReference_keepsUptime l rest)
  | latchShafts l tag rest => exact answerRequest_uptime h (requestLatchShafts_keepsUptime l rest)
  | readLatched l tag payload => exact answerRequest_uptime h (requestReadLatched_keepsUptime l payload)
  | take l tag payload => exact answerRequest_uptime h (requestTake_keepsUptime l payload)
  | peek l tag payload => exact answerRequest_uptime h (requestPeek_keepsUptime l payload)
  | ack l tag payload => exact answerRequest_uptime h (requestAck_keepsUptime l payload)

/-! The tick and the two resets. -/

theorem exec_uptimeTick_of_live {s : State} (live : s.live) :
    exec .uptimeTick s = .next { s.tickTimers with uptime := s.uptime + 1 } :=
  takeEvent_live (f := fun s => { s.tickTimers with uptime := s.uptime + 1 }) live

theorem exec_powerOn (v : Vec 4 Level) (s : State) : exec (.powerOn v) s = .next (s.toDefaults.resetBlocks .powerOn v) := rfl

theorem exec_resetLineReleased (v : Vec 4 Level) (s : State) :
    exec (.resetLineReleased v) s = .next (s.toDefaults.resetBlocks .resetLine v) := rfl

/-- Both resets put the part at its defaults, the uptime at 0, before the blocks are reset. -/
theorem uptime_of_reset {v : Vec 4 Level} {s t : State}
    (h : exec (.powerOn v) s = .next t ∨ exec (.resetLineReleased v) s = .next t) : t.uptime = 0 := by
  have cleared : s.toDefaults.uptime = 0 := rfl
  rw [exec_powerOn, exec_resetLineReleased] at h
  rcases h with h | h <;> rw [← Host.Outcome.next.inj h, resetBlocks_uptime, cleared]

/-! The records that carry the uptime. -/

@[simp] theorem uptimeBytes_length (n : Nat) : (uptimeBytes n).length = 4 := by
  unfold uptimeBytes
  split <;> rfl

/-- The uptime of an IDENTITY record follows its ten bytes of identity (R172). -/
theorem identityRecord_uptime (s : State) : (s.identityRecord.drop 10).take 4 = uptimeBytes s.uptime :=
  List.take_left' (uptimeBytes_length s.uptime)

/-- The decision record of an evaluation carries the uptime of its event. -/
theorem evaluate_decision_uptime (k : Train) (s : State) :
    ((s.evaluate k).bank k).decision.map (·.uptime) = some s.uptime := by
  rw [evaluate_bank]
  rfl

/-- The link's port after a request answered on an idle transmitter: as the request leaves it, with the reply being sent. -/
theorem port_of_answerRequest {l : Link} {kind tag : Byte} {f : RequestMeaning} {s t : State} (ready : s.ready l)
    (h : answerRequest l kind tag f s = .next t) :
    let r := f (s.setPort l (s.port l).hunt)
    t.port l = { r.1.port l with sending := some ⟨kind ||| 0x80, tag, r.2.status, r.2.data⟩ } := by
  rw [answerRequest_live ready.1, answer_idle ready.2] at h
  cases h
  exact setPort_port_self _ _ _

/-- Settles O6: the uptime is traced through each command, and each record is made of the state before it. -/
theorem uptimeCounts : Obligations.UptimeCounts := by
  unfold Obligations.UptimeCounts
  refine ⟨fun v s t => uptime_of_reset, ?tick, fun c s t => exec_uptime, ?decision, ?answers⟩
  case tick =>
    intro s live
    exact ⟨_, exec_uptimeTick_of_live live, rfl⟩
  case decision =>
    intro k s t live due h
    rw [exec_evaluation_of_due live due] at h
    cases h
    exact evaluate_decision_uptime k s
  case answers =>
    intro l tag s t ready
    refine ⟨fun h => ?_, fun h => ?_, fun h => ?_, fun h => ?_⟩
    · rw [port_of_answerRequest ready h, requestLatchTrains, whenEmpty_nil, setPort_port_self]
      rfl
    · rw [port_of_answerRequest ready h, requestLatchReference, whenEmpty_nil, State.clearLostSinceRead, setReference_port,
        setPort_port_self]
      rfl
    · rw [port_of_answerRequest ready h, requestLatchShafts, whenEmpty_nil, setPort_port_self]
      rfl
    · rw [port_of_answerRequest ready h, requestReadIdentity, whenEmpty_nil]
      exact congrArg some (identityRecord_uptime _)

end Sys2Proof.Machine
end

section
/-! What a command can do: every command is a run of the block effects listed here, one after another, so that what each effect keeps every
step keeps. -/

namespace Sys2Proof.Machine

/-- An event of the Train Sequencer or of the Drive Stage, with what holds when it is carried out. -/
inductive TrainEvent : State → State → Prop
  /-- a hand-off other than a posture change leaves the list -/
  | handoffTaken (s : State) (p : Handoff → Bool) (news : ∀ x, p x = true → x.ofPosture = false) :
      TrainEvent s (s.setHandoffs (s.handoffs.eraseP p))
  /-- a target decision (R94) -/
  | decided (s : State) (k : Train) : TrainEvent s (s.decideTarget k).endEvent
  /-- the dwell ends (R97) -/
  | dwellEnded (s : State) (k : Train) : TrainEvent s (s.setDwell k none)
  /-- a step timer has run (R104) -/
  | stepEnded (s : State) (k : Train) (r : Changeover) (state : (s.train k).state = .changeover r) (timing : r.phase = .timing)
      (due : timeIsUp r.timer = true) : TrainEvent s (s.completeStep k r).endEvent
  /-- a wheel-zero event (R105) -/
  | wheelStopped (s : State) (k : Train) : TrainEvent s ((s.startLockout k).wheelAtRest k).endEvent
  /-- the restart lockout ends (R105) -/
  | lockoutEnded (s : State) (k : Train) : TrainEvent s (s.endLockout k).endEvent
  /-- HOLD (R109) -/
  | heldAt (s : State) (k : Train) (h : OutputValues) (free : s.inSafe k = false) (inRange : h.inRange) :
      TrainEvent s (s.enterHeld k h).endEvent
  /-- RELEASE (R110) -/
  | released (s : State) (k : Train) : TrainEvent s (s.leaveHeld k).endEvent
  /-- a posture change is taken by one block (R111, R112, R145) -/
  | postureTaken (s : State) (x : Handoff) (p : Handoff → Bool) (k : Train)
      (kind : p = Handoff.isPostureNews k ∨ p = Handoff.isPosture k) (found : s.handoffs.find? p = some x) :
      TrainEvent s (State.takePosture x (s.setHandoffs (s.handoffs.eraseP p)))
  /-- what is left of a posture change is taken (R154) -/
  | posturesCompleted (s : State) : TrainEvent s s.completePostures
  /-- an occasion at the Drive Stage (R133) -/
  | commanded (s : State) (k : Train) (src : DriveSource) (o : Occasion)
      (found : s.handoffs.find? (Handoff.isDrive k src) = some (.drive k o)) :
      TrainEvent s (((s.setHandoffs (s.handoffs.eraseP (Handoff.isDrive k src))).store k o).recompute k)
  /-- a ramp step (R143) -/
  | ramped (s : State) (k : Train) : TrainEvent s (s.ramp k)

/-- One effect of a block, or of a reset, with what holds when it is carried out. -/
inductive Effect : State → State → Prop
  /-- an event of the Train Sequencer or of the Drive Stage -/
  | event {s t : State} (h : TrainEvent s t) : Effect s t
  /-- a Link Port moves on (R167 to R174) -/
  | port (s : State) (l : Link) (x : LinkPort) : Effect s (s.setPort l x)
  /-- the lost-since-read flag is read (R31) -/
  | referenceRead (s : State) : Effect s s.clearLostSinceRead
  /-- a second passes (R173) -/
  | second (s : State) : Effect s { s.tickTimers with uptime := s.uptime + 1 }
  /-- the reset line goes low (R146, R179) -/
  | lineHeld (s : State) : Effect s { s with
      resetLow := true
      pwm := .replicate 24 0
      notices := s.notices.map fun x => { x with attention := false } }
  /-- power-on or the release of the reset line (R157) -/
  | defaults (s : State) (cause : ResetCause) (v : Vec 4 Level) : Effect s (s.toDefaults.resetBlocks cause v)
  /-- RESTART (R175) -/
  | restarted (s : State) (awake : s.awake) : Effect s s.restart
  /-- a link's set is emptied by a break (R181) -/
  | noticesCleared (s : State) (l : Link) (awake : s.awake) : Effect s (s.setEntries l [])
  /-- a notice is taken (R178) -/
  | noticeTaken (s : State) (l : Link) (e : NoticeEntry) (awake : s.awake) (found : firstUntaken (s.notice l).entries = some e) :
      Effect s (s.setEntries l (takeEntry e (s.notice l).entries))
  /-- a notice is acknowledged (R178) -/
  | noticeAcked (s : State) (l : Link) (c : Condition) (awake : s.awake) :
      Effect s (s.setEntries l (ackCondition c (s.notice l).entries))
  /-- the Notice Table handles a raise (R176) -/
  | noticeHandled (s : State) (awake : s.awake) : Effect s s.handleNotice
  /-- an implausible value is refused (R6) -/
  | reportRefused (s : State) (c : Channel) : Effect s (s.raise (.reportRefused c))
  /-- a value joins the accumulator (R7) -/
  | accumulated (s : State) (c : Channel) (v : Int) (short : (s.channel c).count + 1 < (s.active.channel c).target) :
      Effect s (s.accumulate c v)
  /-- the Nth value is published (R8) -/
  | published (s : State) (l : Link) (c : Channel) (v : Int) : Effect s (s.publish l c v)
  /-- a channel's age timer has run (R10) -/
  | wentStale (s : State) (c : Channel) (due : timeIsUp (s.channel c).age = true) : Effect s (s.goStale c)
  /-- a train is evaluated (R53) -/
  | evaluated (s : State) (k : Train) (due : (s.bank k).evalTimer = 0) : Effect s (s.evaluate k)
  /-- a demand is stored (R76) -/
  | demandAccepted (s : State) (l : Link) (k : Train) (f : Effective) (set : s.inSet l k = true) (inRange : f.inRange)
      (force : f.request.forced?.isSome = true → (s.right l).force = true) : Effect s (s.acceptDemand l k f)
  /-- a demand's age timer has run (R80) -/
  | demandExpired (s : State) (k : Train) (l : Link) : Effect s (s.expireDemand k l)
  /-- a demand is withdrawn (R82) -/
  | demandWithdrawn (s : State) (k : Train) (l : Link) : Effect s (s.changeTable k (withoutLink l (s.demand k)))
  /-- a basis hand-off at the allocator (R126) -/
  | basisTaken (s : State) (k : Train) (b : OaBasis) (a : Bool)
      (found : s.handoffs.find? (Handoff.isShaft k .sequencer) = some (.shaft k (.basis b a))) :
      Effect s ((s.setHandoffs (s.handoffs.eraseP (Handoff.isShaft k .sequencer))).takeBasis k b a)
  /-- an economizer request at the allocator (R124) -/
  | requestTaken (s : State) (k : Train) (v : Nat)
      (found : s.handoffs.find? (Handoff.isShaft k .driveStage) = some (.shaft k (.request v))) :
      Effect s ((s.setHandoffs (s.handoffs.eraseP (Handoff.isShaft k .driveStage))).takeRequest k v)
  /-- a PWM period begins (R146) -/
  | periodBegun (s : State) : Effect s s.beginPeriod
  /-- a line is sensed low or high, or its release delay has run (R152, R153) -/
  | sensedLow (s : State) (n : Line) : Effect s (s.senseLow n)
  | sensedHigh (s : State) (n : Line) (level : (s.line n).level ≠ .high) : Effect s (s.senseHigh n)
  | assertionEnded (s : State) (n : Line) (due : timeIsUp (s.line n).delay = true) : Effect s (s.endAssertion n)
  /-- an item is staged (R160) -/
  | staged (s : State) (i : Item) (w : BitVec 16) (p : Params) (free : (s.locked && i.locked) = false)
      (inRange : s.staged.stage? i w = some p) : Effect s { s with staged := p }
  /-- APPLY (R162), DISCARD (R164) and LOCK (R165) -/
  | applied (s : State) (awake : s.awake) (settled : s.settled) (sound : s.applyFault? = none) : Effect s s.applyStaged
  | discarded (s : State) : Effect s { s with staged := s.active }
  | lockSet (s : State) : Effect s s.setLock

/-- Effects one after another. -/
abbrev Effects : State → State → Prop := Relation.ReflTransGen Effect

theorem TrainEvent.run {s t : State} (h : TrainEvent s t) : Effects s t := .single (.event h)

theorem Effect.run {s t : State} (h : Effect s t) : Effects s t := .single h

/-- What every effect keeps, a run of effects keeps. -/
theorem Effects.keep {P : State → Prop} (kept : ∀ s t, Effect s t → P s → P t) {s t : State} (h : Effects s t) (start : P s) : P t := by
  induction h with
  | refl => exact start
  | tail _ last ih => exact kept _ _ last ih

theorem Effects.ite {p : Prop} [Decidable p] {s t u : State} (ht : p → Effects s t) (hu : ¬p → Effects s u) :
    Effects s (if p then t else u) := by
  split
  · exact ht ‹_›
  · exact hu ‹_›

/-! What the end of the last posture change leaves as it was. -/

section
variable {s t : State}

theorem SameButEvent.resetLow (h : SameButEvent s t) : t.resetLow = s.resetLow := by rw [h]
theorem SameButEvent.pending (h : SameButEvent s t) : t.pending = s.pending := by rw [h]

end

@[simp] theorem completePostures_awake {s : State} : s.completePostures.resetLow = s.resetLow := (completePostures_frame s).resetLow

/-! The requests. -/

/-- A request that the part takes is a run of effects. -/
def RunsEffects (f : RequestMeaning) : Prop := ∀ s : State, s.live → Effects s (f s).1

theorem refuse_runs (x : Status) : RunsEffects (refuse x) := fun _ _ => .refl

theorem whenEmpty_runs {f : RequestMeaning} (runs : RunsEffects f) (payload : List Byte) : RunsEffects (whenEmpty payload f) := by
  cases payload with
  | nil => exact runs
  | cons b rest => exact refuse_runs _

theorem whenConfig_runs {f : RequestMeaning} (runs : RunsEffects f) (l : Link) : RunsEffects (whenConfig l f) := by
  intro s live
  unfold whenConfig
  split
  · exact runs s live
  · exact .refl

theorem judgePair_runs (l : Link) (pair : ReportPair) (s : State) : Effects s (s.judgePair l pair).1 := by
  unfold State.judgePair
  split
  · exact .refl
  · split_ifs with right plausible short
    · exact .refl
    · exact (Effect.reportRefused s _).run
    · exact (Effect.accumulated s _ _ short).run
    · exact (Effect.published s l _ _).run

theorem judgePairs_runs (l : Link) (pairs : List ReportPair) (s : State) : Effects s (s.judgePairs l pairs).1 := by
  induction pairs generalizing s with
  | nil => exact .refl
  | cons pair rest ih => exact (judgePair_runs l pair s).trans (ih _)

theorem requestReport_runs (l : Link) (payload : List Byte) : RunsEffects (requestReport l payload) := by
  intro s _
  unfold requestReport
  split
  · exact .refl
  · split_ifs
    · exact .refl
    · exact judgePairs_runs l _ s

/-- The fields a DEMAND stores are within their ranges (R74, R75). -/
theorem storedFields_inRange {right : Bool} {f : DemandFields} {r : Request} (h : demandRequest right f = .ok r) :
    (storedFields f r).inRange := by
  refine ⟨le_max_left _ _, max_le (by decide) (min_le_left _ _), fun v hv => ?_, fun m hm => ?_⟩
  · obtain ⟨w, -, rfl⟩ := Option.map_eq_some_iff.1 hv
    exact clampPermille_le w
  · unfold demandRequest at h
    split at h
    · cases h; cases hm
    · split_ifs at h
      split at h
      · next forced =>
        cases h; cases hm
        unfold forcedMode? at forced
        split_ifs at forced with code
        obtain ⟨low, high⟩ := code
        have : ∀ n, n < 5 → 1 ≤ n → ∀ m, allModes[n]? = some m → m ≠ .offline := by decide
        exact this _ (by omega) low _ forced
      · cases h
    · cases h

/-- A DEMAND that spells a FORCE comes from a link with the force right (R74). -/
theorem force_of_demandRequest {right : Bool} {f : DemandFields} {r : Request} (h : demandRequest right f = .ok r)
    (forced : r.forced?.isSome = true) : right = true := by
  unfold demandRequest at h
  split at h
  · cases h; cases forced
  · split_ifs at h with noRight
    simpa using noRight
  · cases h

theorem requestDemand_runs (l : Link) (payload : List Byte) : RunsEffects (requestDemand l payload) := by
  intro s _
  unfold requestDemand
  split
  · exact .refl
  split
  · exact .refl
  split_ifs with set
  · exact .refl
  split
  · exact .refl
  · next k _ _ r ok =>
    exact (Effect.demandAccepted s l k _ (by simpa using set) (storedFields_inRange ok) (force_of_demandRequest ok)).run

theorem requestWithdraw_runs (l : Link) (payload : List Byte) : RunsEffects (requestWithdraw l payload) := by
  intro s _
  unfold requestWithdraw
  split
  · split
    · exact .refl
    · split_ifs
      · exact .refl
      · exact (Effect.demandWithdrawn s _ l).run
      · exact .refl
  · exact .refl

/-- The hold values of a HOLD are within 0..1000 (R87). -/
theorem holdFields_inRange {payload : List Byte} {t : Byte} {h : OutputValues} (fields : holdFields? payload = some (t, h)) : h.inRange := by
  unfold holdFields? at fields
  split at fields
  · cases fields
    exact ⟨clampPermille_le _, clampPermille_le _, clampPermille_le _⟩
  · cases fields

theorem requestHold_runs (l : Link) (payload : List Byte) : RunsEffects (requestHold l payload) := by
  intro s _
  unfold requestHold
  split
  · exact .refl
  · next t h fields =>
    split
    · exact .refl
    · split_ifs with right safe
      · exact .refl
      · exact .refl
      · exact (TrainEvent.heldAt s _ h (by simpa using safe) (holdFields_inRange fields)).run

theorem requestRelease_runs (l : Link) (payload : List Byte) : RunsEffects (requestRelease l payload) := by
  intro s _
  unfold requestRelease
  split
  · split
    · exact .refl
    · split_ifs
      · exact .refl
      · exact (TrainEvent.released s _).run
  · exact .refl

theorem requestStage_runs (l : Link) (payload : List Byte) : RunsEffects (requestStage l payload) := by
  intro s _
  unfold requestStage
  split
  · split_ifs
    · exact .refl
    split
    · exact .refl
    split_ifs with frozen
    · exact .refl
    split
    · exact .refl
    · next p staged => exact (Effect.staged s _ _ p (by simpa using frozen) staged).run
  · exact .refl

theorem requestApply_runs (l : Link) (payload : List Byte) : RunsEffects (requestApply l payload) :=
  whenEmpty_runs (whenConfig_runs (fun s live => by
    unfold State.judgeApply
    split
    · exact .refl
    · next accepted =>
      dsimp only
      exact (Effect.applied s live.1 live.2 accepted).run) l) payload

theorem requestDiscard_runs (l : Link) (payload : List Byte) : RunsEffects (requestDiscard l payload) :=
  whenEmpty_runs (whenConfig_runs (fun s _ => (Effect.discarded s).run) l) payload

theorem requestLock_runs (l : Link) (payload : List Byte) : RunsEffects (requestLock l payload) :=
  whenEmpty_runs (whenConfig_runs (fun s _ => (Effect.lockSet s).run) l) payload

theorem requestRestart_runs (l : Link) (payload : List Byte) : RunsEffects (requestRestart l payload) :=
  whenEmpty_runs (whenConfig_runs (fun s live => by
    dsimp only
    exact (Effect.restarted s live.1).run) l) payload

theorem readIndexed_runs {α : Type} (rest : List Byte) (index : Byte → Option α) (record : State → α → List Byte) :
    RunsEffects (readIndexed rest index record) := by
  intro s _
  unfold readIndexed
  repeat' split
  all_goals exact .refl

theorem readSection_runs (n m : Nat) (rest : List Byte) (record : State → Fin n → Fin m → List Byte) :
    RunsEffects (readSection n m rest record) := by
  intro s _
  unfold readSection
  repeat' split
  all_goals exact .refl

theorem readItem_runs (rest : List Byte) (record : State → Item → List Byte) : RunsEffects (readItem rest record) := by
  intro s _
  unfold readItem
  repeat' split
  all_goals exact .refl

theorem requestReadIdentity_runs (rest : List Byte) : RunsEffects (requestReadIdentity rest) :=
  whenEmpty_runs (fun _ _ => .refl) rest

theorem requestReadLinkStatus_runs (rest : List Byte) : RunsEffects (requestReadLinkStatus rest) := by
  intro s _
  unfold requestReadLinkStatus
  repeat' split
  · exact .refl
  · exact (Effect.port s _ _).run
  · exact .refl

theorem requestReadReference_runs (rest : List Byte) : RunsEffects (requestReadReference rest) :=
  whenEmpty_runs (fun s _ => (Effect.referenceRead s).run) rest

theorem requestRead_runs (payload : List Byte) : RunsEffects (requestRead payload) := by
  unfold requestRead
  split
  · exact refuse_runs _
  · split
    · exact requestReadIdentity_runs _
    · exact requestReadLinkStatus_runs _
    · exact readIndexed_runs _ _ _
    · exact readIndexed_runs _ _ _
    · exact requestReadReference_runs _
    · exact readSection_runs _ _ _ _
    · exact readIndexed_runs _ _ _
    · exact readSection_runs _ _ _ _
    · exact readItem_runs _ _
    · exact readItem_runs _ _
    · exact refuse_runs _

theorem requestLatchTrains_runs (l : Link) (rest : List Byte) : RunsEffects (requestLatchTrains l rest) :=
  whenEmpty_runs (fun s _ => (Effect.port s l _).run) rest

theorem requestLatchReference_runs (l : Link) (rest : List Byte) : RunsEffects (requestLatchReference l rest) :=
  whenEmpty_runs (fun s _ => (Effect.port s l _).run.tail (Effect.referenceRead _)) rest

theorem requestLatchShafts_runs (l : Link) (rest : List Byte) : RunsEffects (requestLatchShafts l rest) :=
  whenEmpty_runs (fun s _ => (Effect.port s l _).run) rest

theorem requestLatch_runs (l : Link) (payload : List Byte) : RunsEffects (requestLatch l payload) := by
  unfold requestLatch
  split
  · exact refuse_runs _
  · split
    · exact requestLatchTrains_runs l _
    · exact requestLatchReference_runs l _
    · exact requestLatchShafts_runs l _
    · exact whenEmpty_runs (refuse_runs _) _

theorem requestReadLatched_runs (l : Link) (payload : List Byte) : RunsEffects (requestReadLatched l payload) := by
  intro s _
  unfold requestReadLatched
  repeat' split
  all_goals exact .refl

theorem requestTake_runs (l : Link) (payload : List Byte) : RunsEffects (requestTake l payload) :=
  whenEmpty_runs (fun s live => by
    split
    · exact .refl
    · next e found => exact (Effect.noticeTaken s l e live.1 found).run) payload

theorem requestPeek_runs (l : Link) (payload : List Byte) : RunsEffects (requestPeek l payload) :=
  whenEmpty_runs (fun s _ => by
    split
    · exact .refl
    · exact .refl) payload

theorem requestAck_runs (l : Link) (payload : List Byte) : RunsEffects (requestAck l payload) := by
  intro s live
  unfold requestAck
  repeat' split
  · exact .refl
  · exact (Effect.noticeAcked s l _ live.1).run
  · exact .refl

/-- Whatever request a frame carries, taking it is a run of effects. -/
theorem requestOf_runs (l : Link) (kind : Byte) (payload : List Byte) : RunsEffects (requestOf l kind payload) := by
  unfold requestOf
  split
  · exact requestReport_runs l payload
  · exact requestDemand_runs l payload
  · exact requestWithdraw_runs l payload
  · exact requestHold_runs l payload
  · exact requestRelease_runs l payload
  · exact requestStage_runs l payload
  · exact requestApply_runs l payload
  · exact requestDiscard_runs l payload
  · exact requestLock_runs l payload
  · exact requestRestart_runs l payload
  · exact requestRead_runs payload
  · exact requestLatch_runs l payload
  · exact requestReadLatched_runs l payload
  · exact requestTake_runs l payload
  · exact requestPeek_runs l payload
  · exact requestAck_runs l payload
  · exact refuse_runs _

theorem answer_runs {f : RequestMeaning} (runs : RunsEffects f) (l : Link) (kind tag : Byte) {s : State} (live : s.live) :
    Effects s (s.answer l kind tag f) := by
  unfold State.answer
  split
  · exact (Effect.port s l _).run
  · exact ((Effect.port s l _).run.trans (runs _ live)).tail (Effect.port _ l _)

/-! The receiver. -/

theorem dropPartial_runs (l : Link) (s : State) : Effects s (s.dropPartial l) := by
  unfold State.dropPartial
  split
  · exact .refl
  · exact (Effect.port s l _).run

theorem judgeBuffer_runs (l : Link) (bytes : List Byte) {s : State} (live : s.live) : Effects s (s.judgeBuffer l bytes) := by
  unfold State.judgeBuffer
  split
  case h_1 =>
    refine .ite (fun _ => (Effect.port s l _).run) fun _ => ?_
    split
    · exact .ite (fun _ => (Effect.port s l _).run) fun _ => answer_runs (requestOf_runs _ _ _) _ _ _ live
    · exact (Effect.port s l _).run
  case h_2 => exact (Effect.port s l _).run

theorem receiveByte_runs (l : Link) (b : Byte) {s : State} (live : s.live) : Effects s (s.receiveByte l b) := by
  unfold State.receiveByte
  split
  · exact .ite (fun _ => (Effect.port s l _).run) fun _ => .refl
  · exact judgeBuffer_runs l _ live

/-! Events. -/

/-- An event of a part that is awake is a run of effects where its operation on a settled state is one. -/
theorem takeEvent_runs {f : State → State} {s t : State} (h : takeEvent f s = .next t) (runs : ∀ u : State, u.live → Effects u (f u)) :
    Effects s t := by
  rcases takeEvent_next h with ⟨awake, rfl⟩ | ⟨-, rfl⟩
  · exact (TrainEvent.posturesCompleted s).run.trans
      (runs _ ⟨completePostures_awake.trans awake, completePostures_settled s⟩)
  · exact .refl

theorem answerRequest_runs {l : Link} {kind tag : Byte} {f : RequestMeaning} {s t : State} (h : answerRequest l kind tag f s = .next t)
    (runs : RunsEffects f) : Effects s t :=
  takeEvent_runs h fun _ live => answer_runs runs l kind tag live

theorem whenLive_runs {f : State → State} {s t : State} (h : whenLive f s = .next t) (runs : Effects s (f s)) : Effects s t := by
  rcases whenLive_next h with ⟨-, rfl⟩ | ⟨-, rfl⟩
  · exact runs
  · exact .refl

section
variable {s t : State} {k : Train}

/-- No decision, wheel-zero event, shaft or drive hand-off is a posture change. -/
theorem isDecision_ofPosture {src : DecisionSource} {x : Handoff} (h : Handoff.isDecision k src x = true) : x.ofPosture = false := by
  cases x <;> simp_all [Handoff.isDecision, Handoff.ofPosture]

theorem isWheelZero_ofPosture {x : Handoff} (h : Handoff.isWheelZero k x = true) : x.ofPosture = false := by
  cases x <;> simp_all [Handoff.isWheelZero, Handoff.ofPosture]

theorem execTargetDecision_runs {src : DecisionSource} (h : execTargetDecision k src s = .next t) : Effects s t := by
  refine takeEvent_runs h fun u _ => ?_
  split
  case h_1 taken =>
    rw [(takeHandoff_some taken).2]
    exact (TrainEvent.handoffTaken u _ fun _ => isDecision_ofPosture).run.tail (.event (.decided _ k))
  case h_2 => exact .refl

theorem execWheelZeroEvent_runs (h : execWheelZeroEvent k s = .next t) : Effects s t := by
  refine takeEvent_runs h fun u _ => ?_
  split
  case h_1 taken =>
    rw [(takeHandoff_some taken).2]
    exact (TrainEvent.handoffTaken u _ fun _ => isWheelZero_ofPosture).run.tail (.event (.wheelStopped _ k))
  case h_2 => exact .refl

theorem execSafeEntry_runs (h : execSafeEntry k s = .next t) : Effects s t := by
  refine whenLive_runs h ?_
  split
  case h_1 taken =>
    obtain ⟨found, rfl⟩ := takeHandoff_some taken
    have same := List.find?_some found
    simp only [Handoff.isPostureNews, decide_eq_true_eq] at same
    subst same
    exact (TrainEvent.postureTaken s _ _ _ (.inl rfl) found).run
  case h_2 => exact .refl

theorem execSafeExit_runs (h : execSafeExit k s = .next t) : Effects s t := by
  refine whenLive_runs h ?_
  split
  case h_1 taken =>
    obtain ⟨found, rfl⟩ := takeHandoff_some taken
    have same := List.find?_some found
    simp only [Handoff.isPostureNews, decide_eq_true_eq] at same
    subst same
    exact (TrainEvent.postureTaken s _ _ _ (.inl rfl) found).run
  case h_2 => exact .refl

theorem execPostureApply_runs (h : execPostureApply k s = .next t) : Effects s t := by
  refine whenLive_runs h ?_
  split
  case h_1 taken =>
    obtain ⟨found, rfl⟩ := takeHandoff_some taken
    have same := List.find?_some found
    simp only [Handoff.isPosture, decide_eq_true_eq] at same
    subst same
    exact (TrainEvent.postureTaken s _ _ _ (.inr rfl) found).run
  case h_2 taken =>
    obtain ⟨found, rfl⟩ := takeHandoff_some taken
    have same := List.find?_some found
    simp only [Handoff.isPosture, decide_eq_true_eq] at same
    subst same
    exact (TrainEvent.postureTaken s _ _ _ (.inr rfl) found).run
  case h_3 => exact .refl

theorem execShaftRecompute_runs {src : ShaftSource} (h : execShaftRecompute k src s = .next t) : Effects s t := by
  refine takeEvent_runs h fun u _ => ?_
  split
  case h_1 taken =>
    obtain ⟨found, rfl⟩ := takeHandoff_some taken
    have same := List.find?_some found
    obtain ⟨rfl, rfl⟩ := of_decide_eq_true same
    exact (Effect.basisTaken u _ _ _ found).run
  case h_2 taken =>
    obtain ⟨found, rfl⟩ := takeHandoff_some taken
    have same := List.find?_some found
    obtain ⟨rfl, rfl⟩ := of_decide_eq_true same
    exact (Effect.requestTaken u _ _ found).run
  case h_3 => exact .refl

theorem execCommandRecompute_runs {src : DriveSource} (h : execCommandRecompute k src s = .next t) : Effects s t := by
  refine takeEvent_runs h fun u _ => ?_
  split
  case h_1 taken =>
    obtain ⟨found, rfl⟩ := takeHandoff_some taken
    have same := List.find?_some found
    simp only [Handoff.isDrive, decide_eq_true_eq] at same
    obtain ⟨rfl, rfl⟩ := same
    exact (TrainEvent.commanded u _ _ _ found).run
  case h_2 => exact .refl

theorem expireStep_runs (k : Train) (s : State) : Effects s (s.expireStep k) := by
  unfold State.expireStep
  split
  · next r state =>
    refine .ite (fun due => ?_) fun _ => .refl
    simp only [Bool.and_eq_true, decide_eq_true_eq] at due
    exact (TrainEvent.stepEnded s k r state due.1 due.2).run
  · exact .refl

end

/-- Every command is a run of effects. -/
theorem exec_runs {c : Instr} {s t : State} (h : exec c s = .next t) : Effects s t := by
  unfold exec at h
  cases c with
  | powerOn v => rw [← Host.Outcome.next.inj h]; exact (Effect.defaults s _ v).run
  | resetLineAsserted => cases h; exact (Effect.lineHeld s).run
  | resetLineReleased v => rw [← Host.Outcome.next.inj h]; exact (Effect.defaults s _ v).run
  | interByteTimeout l | framingError l => exact takeEvent_runs h fun u _ => dropPartial_runs l u
  | frameTooLong l | frameRejected l | responseSent l => exact takeEvent_runs h fun u _ => (Effect.port u l _).run
  | breakLine l => exact takeEvent_runs h fun u live => (Effect.port u l _).run.tail (Effect.noticesCleared _ l live.1)
  | badKind l kind tag payload =>
    exact takeEvent_runs h fun u live => .ite (fun _ => .refl) fun _ => answer_runs (requestOf_runs l kind payload) l kind tag live
  | frameStart l => exact takeEvent_runs h fun u live => receiveByte_runs l _ live
  | byteReceived l b => exact takeEvent_runs h fun u live => receiveByte_runs l b live
  | ageTimerExpiry c => exact takeEvent_runs h fun u _ => .ite (fun due => (Effect.wentStale u c due).run) fun _ => .refl
  | evaluation k => exact takeEvent_runs h fun u _ => .ite (fun due => (Effect.evaluated u k due).run) fun _ => .refl
  | demandExpiry k l => exact takeEvent_runs h fun u _ => .ite (fun _ => (Effect.demandExpired u k l).run) fun _ => .refl
  | targetDecision k src => exact execTargetDecision_runs h
  | dwellExpiry k => exact takeEvent_runs h fun u _ => .ite (fun _ => (TrainEvent.dwellEnded u k).run) fun _ => .refl
  | stepTimerExpiry k => exact takeEvent_runs h fun u _ => expireStep_runs k u
  | wheelZeroEvent k => exact execWheelZeroEvent_runs h
  | restartLockoutExpiry k => exact takeEvent_runs h fun u _ => .ite (fun _ => (TrainEvent.lockoutEnded u k).run) fun _ => .refl
  | safeEntry k => exact execSafeEntry_runs h
  | safeExit k => exact execSafeExit_runs h
  | shaftRecompute k src => exact execShaftRecompute_runs h
  | commandRecompute k src => exact execCommandRecompute_runs h
  | postureApply k => exact execPostureApply_runs h
  | rampStep k => exact takeEvent_runs h fun u _ => .ite (fun _ => (TrainEvent.ramped u k).run) fun _ => .refl
  | pwmPeriod => exact takeEvent_runs h fun u _ => (Effect.periodBegun u).run
  | uptimeTick => exact takeEvent_runs h fun u _ => (Effect.second u).run
  | lineSensedLow n => exact takeEvent_runs h fun u _ => .ite (fun _ => .refl) fun _ => (Effect.sensedLow u n).run
  | lineSensedHigh n => exact takeEvent_runs h fun u _ => .ite (fun _ => .refl) fun low => (Effect.sensedHigh u n low).run
  | releaseDelayExpiry n => exact takeEvent_runs h fun u _ => .ite (fun due => (Effect.assertionEnded u n due).run) fun _ => .refl
  | report l tag payload => exact answerRequest_runs h (requestReport_runs l payload)
  | demand l tag payload => exact answerRequest_runs h (requestDemand_runs l payload)
  | withdraw l tag payload => exact answerRequest_runs h (requestWithdraw_runs l payload)
  | hold l tag payload => exact answerRequest_runs h (requestHold_runs l payload)
  | release l tag payload => exact answerRequest_runs h (requestRelease_runs l payload)
  | stage l tag payload => exact answerRequest_runs h (requestStage_runs l payload)
  | apply l tag payload => exact answerRequest_runs h (requestApply_runs l payload)
  | discard l tag payload => exact answerRequest_runs h (requestDiscard_runs l payload)
  | lock l tag payload => exact answerRequest_runs h (requestLock_runs l payload)
  | restart l tag payload => exact answerRequest_runs h (requestRestart_runs l payload)
  | readIdentity l tag rest => exact answerRequest_runs h (requestReadIdentity_runs rest)
  | readLinkStatus l tag rest => exact answerRequest_runs h (requestReadLinkStatus_runs rest)
  | readReference l tag rest => exact answerRequest_runs h (requestReadReference_runs rest)
  | readChannel l tag rest | readStation l tag rest | readDemands l tag rest => exact answerRequest_runs h (readIndexed_runs rest _ _)
  | readTrain l tag rest | readShaft l tag rest => exact answerRequest_runs h (readSection_runs _ _ rest _)
  | readParamActive l tag rest | readParamStaged l tag rest => exact answerRequest_runs h (readItem_runs rest _)
  | latchTrains l tag rest => exact answerRequest_runs h (requestLatchTrains_runs l rest)
  | latchReference l tag rest => exact answerRequest_runs h (requestLatchReference_runs l rest)
  | latchShafts l tag rest => exact answerRequest_runs h (requestLatchShafts_runs l rest)
  | readLatched l tag payload => exact answerRequest_runs h (requestReadLatched_runs l payload)
  | take l tag payload => exact answerRequest_runs h (requestTake_runs l payload)
  | peek l tag payload => exact answerRequest_runs h (requestPeek_runs l payload)
  | ack l tag payload => exact answerRequest_runs h (requestAck_runs l payload)

/-- What every effect keeps, and the queue does not matter to, every step keeps. -/
theorem step_keeps {P : State → Prop} (queue : ∀ (s : State) rest, P s → P { s with pending := rest })
    (kept : ∀ s t, Effect s t → P s → P t) {s t : State} (start : P s) (h : step s = .next t) : P t := by
  unfold step at h
  split at h
  · unfold idle at h
    split at h
    · cases h; exact start
    · exact (takeEvent_runs h fun u live => (Effect.noticeHandled u live.1).run).keep kept start
  · exact (exec_runs h).keep kept (queue s _ start)

end Sys2Proof.Machine
end

section
/-! What the events of the Train Sequencer and the Drive Stage, the resets and an APPLY leave as it was. -/

namespace Sys2Proof.Machine

/-! Events. -/

section
variable {s t : State}

theorem SameButEvent.resetCause (h : SameButEvent s t) : t.resetCause = s.resetCause := by rw [h]
theorem SameButEvent.uptime (h : SameButEvent s t) : t.uptime = s.uptime := by rw [h]
theorem SameButEvent.active (h : SameButEvent s t) : t.active = s.active := by rw [h]
theorem SameButEvent.staged (h : SameButEvent s t) : t.staged = s.staged := by rw [h]
theorem SameButEvent.locked (h : SameButEvent s t) : t.locked = s.locked := by rw [h]
theorem SameButEvent.paramsPending (h : SameButEvent s t) : t.paramsPending = s.paramsPending := by rw [h]
theorem SameButEvent.ports (h : SameButEvent s t) : t.ports = s.ports := by rw [h]
theorem SameButEvent.channels (h : SameButEvent s t) : t.channels = s.channels := by rw [h]
theorem SameButEvent.stations (h : SameButEvent s t) : t.stations = s.stations := by rw [h]
theorem SameButEvent.reference (h : SameButEvent s t) : t.reference = s.reference := by rw [h]
theorem SameButEvent.banks (h : SameButEvent s t) : t.banks = s.banks := by rw [h]
theorem SameButEvent.demands (h : SameButEvent s t) : t.demands = s.demands := by rw [h]
theorem SameButEvent.shares (h : SameButEvent s t) : t.shares = s.shares := by rw [h]
theorem SameButEvent.lines (h : SameButEvent s t) : t.lines = s.lines := by rw [h]
theorem SameButEvent.postures (h : SameButEvent s t) : t.postures = s.postures := by rw [h]
theorem SameButEvent.notices (h : SameButEvent s t) : t.notices = s.notices := by rw [h]
theorem SameButEvent.held (h : SameButEvent s t) : t.held = s.held := by rw [h]
theorem SameButEvent.pwm (h : SameButEvent s t) : t.pwm = s.pwm := by rw [h]
theorem SameButEvent.channel (h : SameButEvent s t) (i : Channel) : t.channel i = s.channel i := by rw [h]; rfl
theorem SameButEvent.demand (h : SameButEvent s t) (i : Train) : t.demand i = s.demand i := by rw [h]; rfl
theorem SameButEvent.share (h : SameButEvent s t) (i : Train) : t.share i = s.share i := by rw [h]; rfl
theorem SameButEvent.line (h : SameButEvent s t) (i : Line) : t.line i = s.line i := by rw [h]; rfl
theorem SameButEvent.posture (h : SameButEvent s t) (i : Train) : t.posture i = s.posture i := by rw [h]; rfl
theorem SameButEvent.notice (h : SameButEvent s t) (i : Link) : t.notice i = s.notice i := by rw [h]; rfl
theorem SameButEvent.right (h : SameButEvent s t) (i : Link) : t.right i = s.right i := by rw [h]; rfl
theorem SameButEvent.params (h : SameButEvent s t) (i : Train) : t.params i = s.params i := by rw [h]; rfl
theorem SameButEvent.shaftOf (h : SameButEvent s t) (i : Train) : t.shaftOf i = s.shaftOf i := by rw [h]; rfl

end

theorem SameButEvent.refl (s : State) : SameButEvent s s := rfl

theorem wheelAtRest_same (s : State) (k : Train) : SameButTrains s (s.wheelAtRest k) := by
  unfold State.wheelAtRest
  repeat' split
  · exact completeStep_same s k _
  · exact setRecord_same s k _
  · exact SameButTrains.refl s
  · exact SameButTrains.refl s

theorem startLockout_same (s : State) (k : Train) : SameButEvent s (s.startLockout k) := rfl

theorem endLockout_same (s : State) (k : Train) : SameButEvent s (s.endLockout k) := by
  have start : SameButEvent s ((s.setTrain k { s.train k with lockout := none }).handOn (.drive k (.lockoutExpiry false))) := rfl
  unfold State.endLockout
  dsimp only
  repeat' split
  · exact start.trans ((setBases_same _ k _).trans (completeStep_same _ k _)).event
  · exact start
  · exact start

theorem enterHeld_same (s : State) (k : Train) (h : OutputValues) : SameButEvent s (s.enterHeld k h) := by
  unfold State.enterHeld
  split
  · rfl
  · exact (takeOver_same s k _ _).event

/-- An event of the Train Sequencer or the Drive Stage changes trains, slots, drive records, hand-offs and raises. -/
theorem TrainEvent.same {s t : State} (h : TrainEvent s t) : SameButEvent s t := by
  cases h with
  | handoffTaken p news => rfl
  | decided k => exact (decideTarget_same s k).event.trans (endEvent_same _)
  | dwellEnded k => rfl
  | stepEnded k r => exact (completeStep_same s k r).event.trans (endEvent_same _)
  | wheelStopped k => exact (startLockout_same s k).trans ((wheelAtRest_same _ k).event.trans (endEvent_same _))
  | lockoutEnded k => exact (endLockout_same s k).trans (endEvent_same _)
  | heldAt k h => exact (enterHeld_same s k h).trans (endEvent_same _)
  | released k => exact (leaveHeld_same s k).event.trans (endEvent_same _)
  | postureTaken x p => exact SameButEvent.trans (t := s.setHandoffs (s.handoffs.eraseP p)) rfl (takePosture_same x _)
  | posturesCompleted => exact completePostures_frame s
  | commanded k src o =>
    exact SameButEvent.trans (t := s.setHandoffs (s.handoffs.eraseP (Handoff.isDrive k src))) rfl
      ((store_same _ k o).trans (recompute_same _ k)).event
  | ramped k => exact (ramp_same s k).event

/-! The sampling of the lines after a reset. -/

/-- Two states that agree but for what the sampling of the lines can change. -/
def SameButSampled (s t : State) : Prop :=
  t = { s with
    trains := t.trains, shafts := t.shafts, drives := t.drives, raised := t.raised, handoffs := t.handoffs
    staleReads := t.staleReads, postures := t.postures, lines := t.lines }

theorem SameButSampled.refl (s : State) : SameButSampled s s := rfl

theorem SameButSampled.trans {s t u : State} (h : SameButSampled s t) (h' : SameButSampled t u) : SameButSampled s u := by
  unfold SameButSampled at h h' ⊢
  rw [h] at h'
  exact h'

theorem SameButEvent.sampled {s t : State} (h : SameButEvent s t) : SameButSampled s t := by
  unfold SameButEvent at h
  unfold SameButSampled
  rw [h]

theorem samplePosture_same (k : Train) (s : State) : SameButSampled s (State.samplePosture k s) := by
  have start : SameButSampled s (s.setPosture k (s.decidedPosture k)) := rfl
  unfold State.samplePosture
  dsimp only
  split
  · exact start
  · exact start.trans (SameButEvent.sampled ((enterSafe_same _ k).event.trans (applyPosture_same _ k _).event))

theorem sampleLines_same (s : State) (v : Vec 4 Level) : SameButSampled s (s.sampleLines v) :=
  SameButSampled.trans (t := { s with lines := v.map LineRec.sampled }) rfl (SameButSampled.trans
    (forEach_induct (P := SameButSampled _) (fun k _ _ h => h.trans (samplePosture_same k _)) (SameButSampled.refl _))
    (endEvent_same _).sampled)

section
variable {s t : State}

theorem SameButSampled.pending (h : SameButSampled s t) : t.pending = s.pending := by rw [h]
theorem SameButSampled.resetLow (h : SameButSampled s t) : t.resetLow = s.resetLow := by rw [h]
theorem SameButSampled.resetCause (h : SameButSampled s t) : t.resetCause = s.resetCause := by rw [h]
theorem SameButSampled.uptime (h : SameButSampled s t) : t.uptime = s.uptime := by rw [h]
theorem SameButSampled.active (h : SameButSampled s t) : t.active = s.active := by rw [h]
theorem SameButSampled.staged (h : SameButSampled s t) : t.staged = s.staged := by rw [h]
theorem SameButSampled.locked (h : SameButSampled s t) : t.locked = s.locked := by rw [h]
theorem SameButSampled.paramsPending (h : SameButSampled s t) : t.paramsPending = s.paramsPending := by rw [h]
theorem SameButSampled.ports (h : SameButSampled s t) : t.ports = s.ports := by rw [h]
theorem SameButSampled.channels (h : SameButSampled s t) : t.channels = s.channels := by rw [h]
theorem SameButSampled.stations (h : SameButSampled s t) : t.stations = s.stations := by rw [h]
theorem SameButSampled.reference (h : SameButSampled s t) : t.reference = s.reference := by rw [h]
theorem SameButSampled.banks (h : SameButSampled s t) : t.banks = s.banks := by rw [h]
theorem SameButSampled.demands (h : SameButSampled s t) : t.demands = s.demands := by rw [h]
theorem SameButSampled.shares (h : SameButSampled s t) : t.shares = s.shares := by rw [h]
theorem SameButSampled.notices (h : SameButSampled s t) : t.notices = s.notices := by rw [h]
theorem SameButSampled.held (h : SameButSampled s t) : t.held = s.held := by rw [h]
theorem SameButSampled.pwm (h : SameButSampled s t) : t.pwm = s.pwm := by rw [h]

end

/-- A reset's blocks before the sampling. -/
theorem resetBlocks_same (s : State) (cause : ResetCause) (v : Vec 4 Level) :
    SameButSampled ((s.clearRuntime cause).fileRaise (.begins .referenceLost)) (s.resetBlocks cause v) := sampleLines_same _ v

/-! The stages of an accepted APPLY (R162), in the order of assumption 17. -/

/-- The set copied, the flags and the pending sets. -/
def State.applyNotices (s : State) : State := State.reroute s.active (State.markPending s.active { s with active := s.staged })

/-- Then the channels, the stations and the reference. -/
def State.applyReference (s : State) : State :=
  State.applyStations s.active (forEach allChannels (State.applyChannel s.active) s.applyNotices)

/-- Then the criterion slots and the demand tables. -/
def State.applyTables (s : State) : State :=
  forEach allTrains (State.applyDemands s.active) (forEach allTrains (State.applySlots s.active) s.applyReference)

/-- Then the changeover slots, with the bases handed on. -/
def State.applyLimits (s : State) : State := (forEach allShafts (State.applyLimit s.active) s.applyTables).endEvent

/-- Then the shafts. -/
def State.applyShafts (s : State) : State := forEach allShafts (State.applyShaft s.active) s.applyLimits

/-- Then the drives; the postures are decided last. -/
def State.applyDrives (s : State) : State := forEach allTrains (State.applyDrive s.active) s.applyShafts

theorem applyStaged_eq (s : State) : s.applyStaged = s.applyDrives.decidePostures s.active := rfl

theorem rerouteClass_frame (old : Params) (l : Link) (c : NoticeClass) (s : State) :
    State.rerouteClass old l c s = { s with notices := (State.rerouteClass old l c s).notices } := by
  unfold State.rerouteClass
  repeat' split
  all_goals rfl

theorem reroute_frame (old : Params) (s : State) : State.reroute old s = { s with notices := (State.reroute old s).notices } :=
  forEach_induct (P := fun t => t = { s with notices := t.notices })
    (fun l _ _ h => forEach_induct (P := fun t => t = { s with notices := t.notices })
      (fun c _ _ h => frame_notices_trans h (rerouteClass_frame old l c _)) h) rfl

theorem applyNotices_frame (s : State) : s.applyNotices = { s with
    active := s.staged, paramsPending := s.applyNotices.paramsPending, notices := s.applyNotices.notices } := by
  unfold State.applyNotices
  rw [reroute_frame]
  rfl

theorem applyChannels_frame (old : Params) (s : State) : forEach allChannels (State.applyChannel old) s =
    { s with channels := (forEach allChannels (State.applyChannel old) s).channels } := by
  refine forEach_induct (P := fun t => t = { s with channels := t.channels }) (fun c _ t h => ?_) rfl
  unfold State.applyChannel
  dsimp only
  split
  · rw [h]; rfl
  · exact h

theorem applyStations_same (old : Params) (s : State) : SameButReference s (State.applyStations old s) := by
  unfold State.applyStations
  split
  · exact SameButReference.trans (t := { s with stations := _ }) rfl (redecide_same _)
  · exact redecide_same s

theorem frame_channels_trans {s t u : State} (h : t = { s with channels := t.channels }) (h' : SameButReference t u) :
    u = { s with channels := u.channels, stations := u.stations, reference := u.reference, raised := u.raised } := by
  unfold SameButReference at h'
  rw [h', h]

theorem applyReference_frame (s : State) : s.applyReference = { s.applyNotices with
    channels := s.applyReference.channels, stations := s.applyReference.stations, reference := s.applyReference.reference
    raised := s.applyReference.raised } :=
  frame_channels_trans (applyChannels_frame s.active s.applyNotices) (applyStations_same s.active _)

theorem applySlots_frame (old : Params) (s : State) : forEach allTrains (State.applySlots old) s =
    { s with banks := (forEach allTrains (State.applySlots old) s).banks } :=
  forEach_induct (P := fun t => t = { s with banks := t.banks }) (fun k _ t h => by rw [h]; rfl) rfl

theorem applyDemands_frame (old : Params) (s : State) : forEach allTrains (State.applyDemands old) s =
    { s with demands := (forEach allTrains (State.applyDemands old) s).demands
             handoffs := (forEach allTrains (State.applyDemands old) s).handoffs } := by
  refine forEach_induct (P := fun t => t = { s with demands := t.demands, handoffs := t.handoffs }) (fun k _ t h => ?_) rfl
  unfold State.applyDemands
  dsimp only
  rw [changeTable_frame, h]

theorem applyTables_frame (s : State) : s.applyTables = { s.applyReference with
    banks := s.applyTables.banks, demands := s.applyTables.demands, handoffs := s.applyTables.handoffs } := by
  unfold State.applyTables
  rw [applyDemands_frame, applySlots_frame]

theorem applyLimit_same (old : Params) (h : Shaft) (s : State) : SameButTrains s (State.applyLimit old h s) := by
  unfold State.applyLimit
  split
  · exact handOut_same _ _ _
  · exact SameButTrains.refl s

theorem applyLimits_same (s : State) : SameButEvent s.applyTables s.applyLimits :=
  SameButEvent.trans (forEach_induct (P := SameButEvent s.applyTables) (fun h _ _ same => same.trans (applyLimit_same _ h _).event) (SameButEvent.refl _))
    (endEvent_same _)

theorem applyShaft_same (old : Params) (h : Shaft) (s : State) : SameButShafts s (State.applyShaft old h s) := by
  unfold State.applyShaft
  split
  · exact recomputeShaft_same s h
  · exact SameButShafts.refl s

theorem applyShafts_same (s : State) : SameButShafts s.applyLimits s.applyShafts :=
  forEach_induct (P := SameButShafts s.applyLimits) (fun h _ _ same => same.trans (applyShaft_same _ h _)) (SameButShafts.refl _)

theorem applyDrive_same (old : Params) (k : Train) (s : State) : SameButDrives s (State.applyDrive old k s) := by
  unfold State.applyDrive
  extract_lets s1 d s2
  have formed : SameButDrives s s1 := by
    dsimp only [s1]
    split
    · exact formRequest_same s k
    · exact SameButDrives.refl s
  have banded : SameButDrives s s2 := by
    dsimp only [s2]
    split
    · exact formed.trans (setDrive_same _ _ _)
    · exact formed
  split
  · exact banded.trans (recompute_same _ k)
  · exact banded

theorem applyDrives_same (s : State) : SameButDrives s.applyShafts s.applyDrives :=
  forEach_induct (P := SameButDrives s.applyShafts) (fun k _ _ same => same.trans (applyDrive_same _ k _)) (SameButDrives.refl _)

section
variable {s a b c d e f t : State}

theorem frame_apply_trans
    (notices : a = { s with active := s.staged, paramsPending := a.paramsPending, notices := a.notices })
    (reference : b = { a with
      channels := b.channels, stations := b.stations, reference := b.reference, raised := b.raised })
    (tables : c = { b with banks := c.banks, demands := c.demands, handoffs := c.handoffs })
    (limits : SameButEvent c d) (shafts : SameButShafts d e) (drives : SameButDrives e f) (postures : SameButPostures f t) :
    t = { s with
      active := s.staged, paramsPending := t.paramsPending, channels := t.channels, stations := t.stations
      reference := t.reference, banks := t.banks, demands := t.demands, trains := t.trains, shafts := t.shafts
      shares := t.shares, drives := t.drives, postures := t.postures, notices := t.notices, raised := t.raised
      handoffs := t.handoffs, staleReads := t.staleReads } := by
  unfold SameButPostures at postures
  unfold SameButDrives at drives
  unfold SameButShafts at shafts
  unfold SameButEvent at limits
  rw [postures, drives, shafts, limits, tables, reference, notices]

end

/-- What an accepted APPLY can change. -/
theorem applyStaged_frame (s : State) : s.applyStaged = { s with
    active := s.staged, paramsPending := s.applyStaged.paramsPending, channels := s.applyStaged.channels
    stations := s.applyStaged.stations, reference := s.applyStaged.reference, banks := s.applyStaged.banks
    demands := s.applyStaged.demands, trains := s.applyStaged.trains, shafts := s.applyStaged.shafts
    shares := s.applyStaged.shares, drives := s.applyStaged.drives, postures := s.applyStaged.postures
    notices := s.applyStaged.notices, raised := s.applyStaged.raised, handoffs := s.applyStaged.handoffs
    staleReads := s.applyStaged.staleReads } :=
  frame_apply_trans (applyNotices_frame s) (applyReference_frame s) (applyTables_frame s) (applyLimits_same s) (applyShafts_same s)
    (applyDrives_same s) (decidePostures_same s.applyDrives s.active)

/-! The other effects. -/

theorem publish_frame (s : State) (l : Link) (c : Channel) (v : Int) : s.publish l c v = { s with
    channels := (s.publish l c v).channels, stations := (s.publish l c v).stations, reference := (s.publish l c v).reference
    raised := (s.publish l c v).raised } :=
  frame_channels_trans (t := s.setChannel c _) rfl (stationPublished_same _ c _)

theorem frame_stale_trans {s t u : State} (h : t = { s with channels := t.channels, raised := t.raised }) (h' : SameButReference t u) :
    u = { s with channels := u.channels, stations := u.stations, reference := u.reference, raised := u.raised } := by
  unfold SameButReference at h'
  rw [h', h]

theorem goStale_frame (s : State) (c : Channel) : s.goStale c = { s with
    channels := (s.goStale c).channels, stations := (s.goStale c).stations, reference := (s.goStale c).reference
    raised := (s.goStale c).raised } := by
  refine frame_stale_trans (t := (s.setChannel c { (s.channel c).emptied with state := .stale, age := none }).raise (.channelStale c)) rfl ?_
  show SameButReference _ (State.stationStale _ c)
  unfold State.stationStale
  split
  · exact redecide_same _
  · exact SameButReference.refl _

theorem raiseFlips_frame (s : State) (k : Train) (qs : Vec 8 (SlotRec × Bool)) :
    s.raiseFlips k qs = { s with raised := (s.raiseFlips k qs).raised } := by
  refine forEach_induct (P := fun t => t = { s with raised := t.raised }) (fun c _ t h => ?_) rfl
  split
  · rw [h]; rfl
  · exact h

theorem evaluate_frame (s : State) (k : Train) : s.evaluate k = { s with
    banks := (s.evaluate k).banks, paramsPending := (s.evaluate k).paramsPending, handoffs := (s.evaluate k).handoffs
    raised := (s.evaluate k).raised } := by
  have flips := raiseFlips_frame s k (s.qualified k (s.rawResults k (s.intake k (s.effective k).d)))
  unfold State.evaluate
  dsimp only
  generalize s.raiseFlips k _ = t at flips ⊢
  rw [flips]
  rfl

theorem acceptDemand_frame (s : State) (l : Link) (k : Train) (f : Effective) : s.acceptDemand l k f = { s with
    demands := (s.acceptDemand l k f).demands, handoffs := (s.acceptDemand l k f).handoffs } := by
  rw [State.acceptDemand, changeTable_frame]

theorem expireDemand_frame (s : State) (k : Train) (l : Link) : s.expireDemand k l = { s with
    demands := (s.expireDemand k l).demands, handoffs := (s.expireDemand k l).handoffs
    raised := s.raised ++ [.edge (.demandExpired k)] } := by
  rw [State.expireDemand, changeTable_frame]
  rfl

theorem handleNotice_frame (s : State) : s.handleNotice = { s with
    raised := s.raised.tail, held := s.handleNotice.held, notices := s.handleNotice.notices } := by
  unfold State.handleNotice
  split
  · next none => rw [none, List.tail_nil, ← none]
  · next x rest more => rw [fileRaise_frame, more]; rfl

theorem setLock_frame (s : State) : s.setLock = { s with locked := s.setLock.locked, staged := s.setLock.staged } := by
  unfold State.setLock
  split <;> rfl

section
variable {s t u : State}

theorem frame_lines_trans (h : t = { s with lines := t.lines }) (h' : SameButPostures t u) :
    u = { s with lines := t.lines, postures := u.postures, handoffs := u.handoffs } := by
  unfold SameButPostures at h'
  rw [h', h]

end

theorem senseLow_frame (s : State) (n : Line) : s.senseLow n = { s with
    lines := s.lines.set n ⟨.low, true, none⟩, postures := (s.senseLow n).postures, handoffs := (s.senseLow n).handoffs } := by
  unfold State.senseLow
  dsimp only
  split
  · rfl
  · exact frame_lines_trans (t := s.setLine n _) rfl (decidePostures_same _ _)

theorem senseHigh_frame (s : State) (n : Line) : s.senseHigh n = { s with
    lines := (s.senseHigh n).lines, postures := (s.senseHigh n).postures, handoffs := (s.senseHigh n).handoffs } := by
  unfold State.senseHigh
  dsimp only
  repeat' split
  · rfl
  · rfl
  · exact (frame_lines_trans (t := s.setLine n _) rfl (decidePostures_same _ _)).trans
      (by rw [frame_lines_trans (t := s.setLine n _) rfl (decidePostures_same _ _)])

theorem endAssertion_frame (s : State) (n : Line) : s.endAssertion n = { s with
    lines := s.lines.set n { s.line n with asserted := false, delay := none }, postures := (s.endAssertion n).postures
    handoffs := (s.endAssertion n).handoffs } :=
  frame_lines_trans (t := s.setLine n _) rfl (decidePostures_same _ _)

/-! The queue. -/

/-- No effect touches the queue. -/
theorem Effect.pending {s t : State} (h : Effect s t) : t.pending = s.pending := by
  cases h with
  | event h => exact h.same.pending
  | defaults cause v => rw [(resetBlocks_same _ cause v).pending, fileRaise_frame]; rfl
  | restarted => rw [State.restart, (resetBlocks_same _ _ _).pending, fileRaise_frame]; rfl
  | noticesCleared l | noticeTaken l | noticeAcked l => exact setEntries_pending s _ _
  | noticeHandled => rw [handleNotice_frame]
  | published l c v => rw [publish_frame]
  | wentStale c => rw [goStale_frame]
  | evaluated k => rw [evaluate_frame]
  | demandAccepted l k f => rw [acceptDemand_frame]
  | demandExpired k l => rw [expireDemand_frame]
  | demandWithdrawn k l => rw [changeTable_frame]
  | basisTaken k b a => exact (takeBasis_same _ k b a).pending
  | requestTaken k v => exact (takeRequest_same _ k v).pending
  | sensedLow n => rw [senseLow_frame]
  | sensedHigh n => rw [senseHigh_frame]
  | assertionEnded n => rw [endAssertion_frame]
  | applied => rw [applyStaged_frame]
  | lockSet => rw [setLock_frame]
  | port | referenceRead | second | lineHeld | reportRefused | accumulated | periodBegun | staged | discarded => rfl

end Sys2Proof.Machine
end

section
/-! The parameter sets (chapter 10) at every step. -/

namespace Sys2Proof.Machine

/-! Values read against a range (R160). -/

section
variable {w : BitVec 16}

theorem natIn_some {lo hi n : Nat} (h : natIn lo hi w = some n) : lo ≤ n ∧ n ≤ hi ∧ w = .ofNat 16 n := by
  unfold natIn at h
  split_ifs at h with range
  cases h
  exact ⟨range.1, range.2, by simp⟩

theorem intIn_some {lo hi v : Int} (h : intIn lo hi w = some v) : lo ≤ v ∧ v ≤ hi ∧ w = .ofInt 16 v := by
  unfold intIn at h
  split_ifs at h with range
  cases h
  exact ⟨range.1, range.2, (BitVec.ofInt_toInt).symm⟩

theorem limitIn_some {c : Channel} {v : Int} (h : limitIn c w = some v) : hardLow c ≤ v ∧ v ≤ hardHigh c := by
  unfold limitIn at h
  split_ifs at h with humid
  · obtain ⟨n, hn, rfl⟩ := Option.map_eq_some_iff.1 h
    obtain ⟨-, high, -⟩ := natIn_some hn
    rw [hardLow, hardHigh, if_pos humid, if_pos humid]
    exact ⟨Int.natCast_nonneg n, Int.ofNat_le.2 high⟩
  · obtain ⟨low, high, -⟩ := intIn_some h
    exact ⟨low, high⟩

theorem standInIn_some {c d : Channel} (h : standInIn c w = some (some d)) : 8 ≤ c.val ∧ 8 ≤ d.val := by
  unfold standInIn at h
  split_ifs at h with absent station train
  · cases h
  · obtain ⟨e, he, same⟩ := Option.map_eq_some_iff.1 h
    unfold index? at he
    split_ifs at he
    cases he
    cases same
    exact ⟨by omega, train⟩

end

/-! A set with one group replaced. -/

section
variable {p : Params}

theorem setTrain_inRange (h : p.inRange) (k : Train) {t : TrainParams} (ht : t.inRange) : (p.setTrain k t).inRange where
  trains j := by
    unfold Params.train Params.setTrain
    rw [Vec.get_set]
    split
    · exact ht
    · exact h.trains j
  slots := h.slots
  pool := h.pool
  channels := h.channels
  station := h.station
  shafts := h.shafts
  demandTimeout := h.demandTimeout
  ramp := h.ramp
  rights := h.rights
  lines := h.lines
  postures := h.postures

theorem setSlot_inRange (h : p.inRange) (k : Train) (c : Fin 8) {t : SlotParams}
    (ht : 1 ≤ t.onCount ∧ t.onCount ≤ 15 ∧ 1 ≤ t.offCount ∧ t.offCount ≤ 15) : (p.setSlot k c t).inRange where
  trains := h.trains
  slots j d := by
    unfold Params.setSlot
    rw [Vec.get_set]
    split
    · next same =>
      rw [Vec.get_set]
      split
      · exact ht
      · exact same ▸ h.slots k d
    · exact h.slots j d
  pool := h.pool
  channels := h.channels
  station := h.station
  shafts := h.shafts
  demandTimeout := h.demandTimeout
  ramp := h.ramp
  rights := h.rights
  lines := h.lines
  postures := h.postures

theorem setPermit_inRange (h : p.inRange) (k : Train) (c : Fin 3) (t : PermitParams) : (p.setPermit k c t).inRange where
  trains := h.trains
  slots := h.slots
  pool := h.pool
  channels := h.channels
  station := h.station
  shafts := h.shafts
  demandTimeout := h.demandTimeout
  ramp := h.ramp
  rights := h.rights
  lines := h.lines
  postures := h.postures

theorem setPool_inRange (h : p.inRange) (b : Fin 16) {v : Int} (hv : -4000 ≤ v ∧ v ≤ 4000) :
    ({ p with pool := p.pool.set b v } : Params).inRange where
  trains := h.trains
  slots := h.slots
  pool d := by
    rw [Vec.get_set]
    split
    · exact hv
    · exact h.pool d
  channels := h.channels
  station := h.station
  shafts := h.shafts
  demandTimeout := h.demandTimeout
  ramp := h.ramp
  rights := h.rights
  lines := h.lines
  postures := h.postures

theorem setChannel_inRange (h : p.inRange) (c : Channel) {t : ChannelParams} (ht : t.inRange c) : (p.setChannel c t).inRange where
  trains := h.trains
  slots := h.slots
  pool := h.pool
  channels d := by
    unfold Params.channel Params.setChannel
    rw [Vec.get_set]
    split
    · next same => exact same ▸ ht
    · exact h.channels d
  station := h.station
  shafts := h.shafts
  demandTimeout := h.demandTimeout
  ramp := h.ramp
  rights := h.rights
  lines := h.lines
  postures := h.postures

theorem setStation_inRange (h : p.inRange) {t : StationParams} (ht : t.inRange) : ({ p with station := t } : Params).inRange where
  trains := h.trains
  slots := h.slots
  pool := h.pool
  channels := h.channels
  station := ht
  shafts := h.shafts
  demandTimeout := h.demandTimeout
  ramp := h.ramp
  rights := h.rights
  lines := h.lines
  postures := h.postures

theorem setShaft_inRange (h : p.inRange) (g : Shaft) {t : ShaftParams}
    (ht : t.capacity ≤ 65535 ∧ 1 ≤ t.slotLimit ∧ t.slotLimit ≤ 8) : ({ p with shafts := p.shafts.set g t } : Params).inRange where
  trains := h.trains
  slots := h.slots
  pool := h.pool
  channels := h.channels
  station := h.station
  shafts f := by
    rw [Vec.get_set]
    split
    · exact ht
    · exact h.shafts f
  demandTimeout := h.demandTimeout
  ramp := h.ramp
  rights := h.rights
  lines := h.lines
  postures := h.postures

theorem setRights_inRange (h : p.inRange) (l : Link) {t : RightsParams} (ht : 1 ≤ t.priority ∧ t.priority ≤ 3) :
    (p.setRights l t).inRange where
  trains := h.trains
  slots := h.slots
  pool := h.pool
  channels := h.channels
  station := h.station
  shafts := h.shafts
  demandTimeout := h.demandTimeout
  ramp := h.ramp
  rights m := by
    unfold Params.priority Params.right Params.setRights
    rw [Vec.get_set]
    split
    · exact ht
    · exact h.rights m
  lines := h.lines
  postures := h.postures

theorem setLine_inRange (h : p.inRange) (n : Line) {t : LineParams} (ht : t.delay ≤ 300) :
    ({ p with lines := p.lines.set n t } : Params).inRange where
  trains := h.trains
  slots := h.slots
  pool := h.pool
  channels := h.channels
  station := h.station
  shafts := h.shafts
  demandTimeout := h.demandTimeout
  ramp := h.ramp
  rights := h.rights
  lines m := by
    rw [Vec.get_set]
    split
    · exact ht
    · exact h.lines m
  postures := h.postures

theorem setPosture_inRange (h : p.inRange) (c : PostureCode) {t : PostureParams} (ht : t.bp ≤ 1000 ∧ t.oa ≤ 1000) :
    (p.setPosture c t).inRange where
  trains := h.trains
  slots := h.slots
  pool := h.pool
  channels := h.channels
  station := h.station
  shafts := h.shafts
  demandTimeout := h.demandTimeout
  ramp := h.ramp
  rights := h.rights
  lines := h.lines
  postures d := by
    unfold Params.posture Params.setPosture
    rw [Vec.get_set]
    split
    · exact ht
    · exact h.postures d

end

/-! One item staged (R160). -/

section
variable {p q : Params} {w : BitVec 16}

theorem stageTrain_inRange (h : p.inRange) {k : Train} {f : TrainField} (staged : p.stage? (.train k f) w = some q) : q.inRange := by
  obtain ⟨t, ht, rfl⟩ := Option.map_eq_some_iff.1 staged
  refine setTrain_inRange h k ?_
  have old := h.trains k
  cases f <;> obtain ⟨n, hn, rfl⟩ := Option.map_eq_some_iff.1 ht <;>
    first
    | exact old
    | (have range := natIn_some hn
       dsimp only [TrainParams.inRange] at old ⊢
       omega)
    | (have range := intIn_some hn
       dsimp only [TrainParams.inRange] at old ⊢
       omega)

theorem stageSlot_inRange (h : p.inRange) {k : Train} {c : Fin 8} {f : SlotField} (staged : p.stage? (.slot k c f) w = some q) :
    q.inRange := by
  obtain ⟨t, ht, rfl⟩ := Option.map_eq_some_iff.1 staged
  refine setSlot_inRange h k c ?_
  have old := h.slots k c
  cases f <;> obtain ⟨n, hn, rfl⟩ := Option.map_eq_some_iff.1 ht <;>
    first
    | exact old
    | (have range := natIn_some hn
       dsimp only at old ⊢
       omega)

theorem stageChannel_inRange (h : p.inRange) {c : Channel} {f : ChannelField} (staged : p.stage? (.channel c f) w = some q) :
    q.inRange := by
  obtain ⟨t, ht, rfl⟩ := Option.map_eq_some_iff.1 staged
  refine setChannel_inRange h c ?_
  obtain ⟨target, target', low, low', high, high', stale, stale', standIn⟩ := h.channels c
  cases f <;> obtain ⟨n, hn, rfl⟩ := Option.map_eq_some_iff.1 ht
  case target => exact ⟨(natIn_some hn).1, (natIn_some hn).2.1, low, low', high, high', stale, stale', standIn⟩
  case low => exact ⟨target, target', (limitIn_some hn).1, (limitIn_some hn).2, high, high', stale, stale', standIn⟩
  case high => exact ⟨target, target', low, low', (limitIn_some hn).1, (limitIn_some hn).2, stale, stale', standIn⟩
  case stale => exact ⟨target, target', low, low', high, high', (natIn_some hn).1, (natIn_some hn).2.1, standIn⟩
  case standIn =>
    refine ⟨target, target', low, low', high, high', stale, stale', fun d hd => ?_⟩
    have present : n = some d := hd
    exact standInIn_some (present ▸ hn)

theorem stageReference_inRange (h : p.inRange) {f : ReferenceField} (staged : p.stage? (.reference f) w = some q) : q.inRange := by
  obtain ⟨t, ht, rfl⟩ := Option.map_eq_some_iff.1 staged
  refine setStation_inRange h ?_
  obtain ⟨heights, rest⟩ := h.station
  cases f <;> obtain ⟨n, hn, rfl⟩ := Option.map_eq_some_iff.1 ht <;> refine ⟨heights, ?_⟩ <;> dsimp only at rest ⊢
  case lapse =>
    have range := intIn_some hn
    omega
  all_goals
    have range := natIn_some hn
    omega

theorem stageRights_inRange (h : p.inRange) {l : Link} {f : RightsField} (staged : p.stage? (.rights l f) w = some q) : q.inRange := by
  obtain ⟨t, ht, rfl⟩ := Option.map_eq_some_iff.1 staged
  refine setRights_inRange h l ?_
  cases f <;> obtain ⟨n, hn, rfl⟩ := Option.map_eq_some_iff.1 ht
  case priority => exact ⟨(natIn_some hn).1, (natIn_some hn).2.1⟩
  all_goals exact h.rights l

theorem stageLine_inRange (h : p.inRange) {n : Line} {f : LineField} (staged : p.stage? (.line n f) w = some q) : q.inRange := by
  obtain ⟨t, ht, rfl⟩ := Option.map_eq_some_iff.1 staged
  refine setLine_inRange h n ?_
  cases f <;> obtain ⟨m, hm, rfl⟩ := Option.map_eq_some_iff.1 ht
  case delay => exact (natIn_some hm).2.1
  all_goals exact h.lines n

theorem stageShaft_inRange (h : p.inRange) {g : Shaft} {f : ShaftField} (staged : p.stage? (.shaft g f) w = some q) : q.inRange := by
  obtain ⟨t, ht, rfl⟩ := Option.map_eq_some_iff.1 staged
  refine setShaft_inRange h g ?_
  obtain ⟨capacity, low, high⟩ := h.shafts g
  cases f <;> obtain ⟨n, hn, rfl⟩ := Option.map_eq_some_iff.1 ht
  case capacity => exact ⟨(natIn_some hn).2.1, low, high⟩
  case slotLimit => exact ⟨capacity, (natIn_some hn).1, (natIn_some hn).2.1⟩

theorem stagePosture_inRange (h : p.inRange) {c : PostureCode} {f : PostureField} (staged : p.stage? (.posture c f) w = some q) :
    q.inRange := by
  obtain ⟨t, ht, rfl⟩ := Option.map_eq_some_iff.1 staged
  refine setPosture_inRange h c ?_
  obtain ⟨bp, oa⟩ := h.postures c
  cases f <;> obtain ⟨n, hn, rfl⟩ := Option.map_eq_some_iff.1 ht
  case bp => exact ⟨(natIn_some hn).2.1, oa⟩
  case oa => exact ⟨bp, (natIn_some hn).2.1⟩

/-- A set with an item staged is in range. -/
theorem stage_inRange (h : p.inRange) {i : Item} (staged : p.stage? i w = some q) : q.inRange := by
  cases i with
  | train k f => exact stageTrain_inRange h staged
  | slot k c f => exact stageSlot_inRange h staged
  | permit k c f =>
    obtain ⟨t, -, rfl⟩ := Option.map_eq_some_iff.1 staged
    exact setPermit_inRange h k c t
  | pool b =>
    obtain ⟨v, hv, rfl⟩ := Option.map_eq_some_iff.1 staged
    exact setPool_inRange h b ⟨(intIn_some hv).1, (intIn_some hv).2.1⟩
  | channel c f => exact stageChannel_inRange h staged
  | height st =>
    obtain ⟨n, hn, rfl⟩ := Option.map_eq_some_iff.1 staged
    refine setStation_inRange h ⟨fun tt => ?_, h.station.2⟩
    rw [Vec.get_set]
    split
    · exact (natIn_some hn).2.1
    · exact h.station.1 tt
  | reference f => exact stageReference_inRange h staged
  | shaft g f => exact stageShaft_inRange h staged
  | demandTimeout =>
    obtain ⟨n, hn, rfl⟩ := Option.map_eq_some_iff.1 staged
    exact ⟨h.trains, h.slots, h.pool, h.channels, h.station, h.shafts, ⟨(natIn_some hn).1, (natIn_some hn).2.1⟩, h.ramp, h.rights,
      h.lines, h.postures⟩
  | ramp =>
    obtain ⟨n, hn, rfl⟩ := Option.map_eq_some_iff.1 staged
    exact ⟨h.trains, h.slots, h.pool, h.channels, h.station, h.shafts, h.demandTimeout, ⟨(natIn_some hn).1, (natIn_some hn).2.1⟩,
      h.rights, h.lines, h.postures⟩
  | polarity o | routing c =>
    obtain ⟨x, -, rfl⟩ := Option.map_eq_some_iff.1 staged
    exact ⟨h.trains, h.slots, h.pool, h.channels, h.station, h.shafts, h.demandTimeout, h.ramp, h.rights, h.lines, h.postures⟩
  | rights l f => exact stageRights_inRange h staged
  | line n f => exact stageLine_inRange h staged
  | posture c f => exact stagePosture_inRange h staged

/-- Staging an item that LOCK does not freeze leaves the frozen groups as they were. -/
theorem stage_unlocked {i : Item} (unlocked : i.locked = false) (staged : p.stage? i w = some q) :
    q.rights = p.rights ∧ q.lines = p.lines ∧ q.postures = p.postures := by
  cases i with
  | rights l f | line n f | posture c f => cases unlocked
  | train k f | slot k c f | permit k c f | pool b | channel c f | height st | reference f | shaft g f | demandTimeout | ramp
  | polarity o | routing c =>
    obtain ⟨x, -, rfl⟩ := Option.map_eq_some_iff.1 staged
    exact ⟨rfl, rfl, rfl⟩

end

/-! The sets of a state. -/

theorem withLockedOf_eq_iff (p q : Params) :
    p.withLockedOf q = p ↔ p.rights = q.rights ∧ p.lines = q.lines ∧ p.postures = q.postures := by
  unfold Params.withLockedOf
  constructor
  · intro h
    exact ⟨(congrArg Params.rights h).symm, (congrArg Params.lines h).symm, (congrArg Params.postures h).symm⟩
  · rintro ⟨rights, lines, postures⟩
    rw [← rights, ← lines, ← postures]

@[simp] theorem withLockedOf_self (p : Params) : p.withLockedOf p = p := rfl

theorem defaultParams_inRange : defaultParams.inRange where
  trains := by decide
  slots := by decide
  pool := by decide
  channels := by decide
  station := by decide
  shafts := by decide
  demandTimeout := by decide
  ramp := by decide
  rights l := by cases l <;> decide
  lines := by decide
  postures c := by cases c <;> decide

theorem defaultParams_relationFault : defaultParams.relationFault? = none := by decide

theorem relationFault_of_applyFault {s : State} (h : s.applyFault? = none) : s.staged.relationFault? = none := by
  unfold State.applyFault? at h
  cases fault : s.staged.relationFault? with
  | none => rfl
  | some i => rw [fault] at h; cases h

/-- What an effect does to the sets and the lock: nothing, a reset to the defaults, an item staged, an APPLY, a DISCARD or a LOCK. -/
theorem Effect.sets {s t : State} (h : Effect s t) :
    (t.active = s.active ∧ t.staged = s.staged ∧ t.locked = s.locked) ∨
    (t.active = defaultParams ∧ t.staged = defaultParams ∧ t.locked = false) ∨
    (∃ i w, (s.locked && i.locked) = false ∧ s.staged.stage? i w = some t.staged ∧ t.active = s.active ∧ t.locked = s.locked) ∨
    (s.applyFault? = none ∧ t.active = s.staged ∧ t.staged = s.staged ∧ t.locked = s.locked) ∨
    (t.active = s.active ∧ t.staged = s.active ∧ t.locked = s.locked) ∨
    (s.locked = false ∧ t.active = s.active ∧ t.staged = s.staged.withLockedOf s.active ∧ t.locked = true) := by
  have same {t : State} : t.active = s.active → t.staged = s.staged → t.locked = s.locked →
      t.active = s.active ∧ t.staged = s.staged ∧ t.locked = s.locked := fun a b c => ⟨a, b, c⟩
  cases h with
  | event h => exact .inl ⟨h.same.active, h.same.staged, h.same.locked⟩
  | defaults cause v =>
    have sampled := resetBlocks_same s.toDefaults cause v
    refine .inr (.inl ?_)
    rw [sampled.active, sampled.staged, sampled.locked, fileRaise_frame]
    exact ⟨rfl, rfl, rfl⟩
  | restarted =>
    have sampled := resetBlocks_same { s with ports := s.ports.map LinkPort.restarted } .restart (s.lines.map LineRec.level)
    refine .inl ?_
    rw [State.restart, sampled.active, sampled.staged, sampled.locked, fileRaise_frame]
    exact ⟨rfl, rfl, rfl⟩
  | noticesCleared l | noticeTaken l | noticeAcked l => exact .inl ⟨setEntries_active s _ _, setEntries_staged s _ _, setEntries_locked s _ _⟩
  | noticeHandled => rw [handleNotice_frame]; exact .inl (same rfl rfl rfl)
  | published l c v => rw [publish_frame]; exact .inl (same rfl rfl rfl)
  | wentStale c => rw [goStale_frame]; exact .inl (same rfl rfl rfl)
  | evaluated k => rw [evaluate_frame]; exact .inl (same rfl rfl rfl)
  | demandAccepted l k f => rw [acceptDemand_frame]; exact .inl (same rfl rfl rfl)
  | demandExpired k l => rw [expireDemand_frame]; exact .inl (same rfl rfl rfl)
  | demandWithdrawn k l => rw [changeTable_frame]; exact .inl (same rfl rfl rfl)
  | basisTaken k b a => exact .inl ⟨(takeBasis_same _ k b a).active, (takeBasis_same _ k b a).staged, (takeBasis_same _ k b a).locked⟩
  | requestTaken k v => exact .inl ⟨(takeRequest_same _ k v).active, (takeRequest_same _ k v).staged, (takeRequest_same _ k v).locked⟩
  | sensedLow n => rw [senseLow_frame]; exact .inl (same rfl rfl rfl)
  | sensedHigh n => rw [senseHigh_frame]; exact .inl (same rfl rfl rfl)
  | assertionEnded n => rw [endAssertion_frame]; exact .inl (same rfl rfl rfl)
  | staged i w p free inRange => exact .inr (.inr (.inl ⟨i, w, free, inRange, rfl, rfl⟩))
  | applied _ _ accepted => rw [applyStaged_frame]; exact .inr (.inr (.inr (.inl ⟨accepted, rfl, rfl, rfl⟩)))
  | discarded => exact .inr (.inr (.inr (.inr (.inl ⟨rfl, rfl, rfl⟩))))
  | lockSet =>
    unfold State.setLock
    split
    · exact .inl ⟨rfl, rfl, rfl⟩
    · next clear => exact .inr (.inr (.inr (.inr (.inr ⟨by simpa using clear, rfl, rfl, rfl⟩))))
  | port | referenceRead | second | lineHeld | reportRefused | accumulated | periodBegun => exact .inl ⟨rfl, rfl, rfl⟩

/-- A set with the locked groups of another is in range where both are. -/
theorem withLockedOf_inRange {p q : Params} (hp : p.inRange) (hq : q.inRange) : (p.withLockedOf q).inRange :=
  ⟨hp.trains, hp.slots, hp.pool, hp.channels, hp.station, hp.shafts, hp.demandTimeout, hp.ramp, hq.rights, hq.lines, hq.postures⟩

theorem Effect.paramsSound {s t : State} (h : Effect s t) (sound : s.paramsSound) : t.paramsSound := by
  rcases h.sets with ⟨active, staged, locked⟩ | ⟨active, staged, locked⟩ | ⟨i, w, free, staged, active, locked⟩ |
    ⟨accepted, active, staged, locked⟩ | ⟨active, staged, locked⟩ | ⟨_, active, staged, locked⟩
  · exact ⟨active ▸ sound.active, staged ▸ sound.staged, active ▸ sound.relations, by rw [active, staged, locked]; exact sound.frozen⟩
  · exact ⟨active ▸ defaultParams_inRange, staged ▸ defaultParams_inRange, active ▸ defaultParams_relationFault, by
      rw [active, staged]; exact fun _ => rfl⟩
  · refine ⟨active ▸ sound.active, stage_inRange sound.staged staged, active ▸ sound.relations, fun lock => ?_⟩
    rw [locked] at lock
    have unlocked : i.locked = false := by rwa [lock, Bool.true_and] at free
    obtain ⟨rights, lines, postures⟩ := stage_unlocked unlocked staged
    rw [withLockedOf_eq_iff, rights, lines, postures, active]
    exact (withLockedOf_eq_iff _ _).1 (sound.frozen lock)
  · exact ⟨active ▸ sound.staged, staged ▸ sound.staged, active ▸ relationFault_of_applyFault accepted, by
      rw [active, staged]; exact fun _ => rfl⟩
  · exact ⟨active ▸ sound.active, staged ▸ sound.active, active ▸ sound.relations, by rw [active, staged]; exact fun _ => rfl⟩
  · exact ⟨active ▸ sound.active, staged ▸ withLockedOf_inRange sound.staged sound.active, active ▸ sound.relations, by
      rw [active, staged]; exact fun _ => rfl⟩

/-- Settles O54: each effect keeps the sets sound, and a step is a run of effects. -/
theorem parametersStaySound : Obligations.ParametersStaySound := by
  unfold Obligations.ParametersStaySound
  intro s t sound h
  exact step_keeps (P := State.paramsSound) (fun s _ h => ⟨h.active, h.staged, h.relations, h.frozen⟩) (fun _ _ => Effect.paramsSound)
    sound.params h

end Sys2Proof.Machine
end

section
/-! The demand tables (chapter 5) at every step. -/

namespace Sys2Proof.Machine

/-! Runs over a list that change one record each. -/

/-- What one turn of a run establishes from what the turns before it keep, and the turns after it keep, holds after the run. -/
theorem forEach_at {α : Type} {f : α → State → State} {P Q : State → Prop} {x : α} (before : ∀ y s, y ≠ x → P s → P (f y s))
    (turn : ∀ s, P s → Q (f x s)) (after : ∀ y s, y ≠ x → Q s → Q (f y s)) {xs : List α} (once : xs.Nodup) (mem : x ∈ xs) {s : State}
    (start : P s) : Q (forEach xs f s) := by
  induction xs generalizing s with
  | nil => cases mem
  | cons y ys ih =>
    obtain ⟨fresh, once⟩ := List.nodup_cons.1 once
    rw [forEach_cons]
    by_cases same : y = x
    · subst same
      exact forEach_induct (fun z hz u hu => after z u (fun e => fresh (e ▸ hz)) hu) (turn s start)
    · refine ih once ?_ (before y s same start)
      rcases List.mem_cons.1 mem with rfl | mem
      · exact absurd rfl same
      · exact mem

theorem allTrains_nodup : allTrains.Nodup := by decide
theorem allShafts_nodup : allShafts.Nodup := by decide
theorem allLinks_nodup : allLinks.Nodup := by decide
theorem allChannels_nodup : allChannels.Nodup := List.nodup_finRange 32

/-! Priorities (R73). -/

/-- A valid set gives the links different priorities (check 7). -/
theorem priority_injective {p : Params} (valid : p.relationFault? = none) {l m : Link} (same : p.priority l = p.priority m) : l = m := by
  have check : allLinks.find? p.repeatsPriority = none := by
    unfold Params.relationFault? at valid
    simp only [Option.orElse_eq_none, Option.map_eq_none_iff] at valid
    obtain ⟨-, -, -, -, -, -, distinct⟩ := valid
    exact distinct
  have distinct : ∀ l, p.repeatsPriority l = false := fun l => by
    simpa using List.find?_eq_none.1 check l (mem_allLinks l)
  have ab := distinct .b
  have c := distinct .c
  simp only [Params.repeatsPriority, decide_eq_false_iff_not, Bool.or_eq_false_iff] at ab c
  obtain ⟨ca, cb⟩ := c
  cases l <;> cases m <;> first | rfl | (exfalso; omega)

/-! Tables. -/

@[simp] theorem mem_insertEntry {priority : Link → Nat} {e x : DemandEntry} {table : List DemandEntry} :
    x ∈ insertEntry priority e table ↔ x = e ∨ x ∈ table := by
  induction table with
  | nil => simp [insertEntry]
  | cons y ys ih =>
    unfold insertEntry
    split
    · simp
    · simp only [List.mem_cons, ih]
      tauto

/-- An entry put into an ordered table where no entry has its priority leaves the table ordered. -/
theorem insertEntry_pairwise {priority : Link → Nat} {e : DemandEntry} {table : List DemandEntry}
    (order : table.Pairwise fun a b => priority b.link < priority a.link) (fresh : ∀ x ∈ table, priority x.link ≠ priority e.link) :
    (insertEntry priority e table).Pairwise fun a b => priority b.link < priority a.link := by
  induction table with
  | nil => simp [insertEntry]
  | cons y ys ih =>
    obtain ⟨below, order⟩ := List.pairwise_cons.1 order
    unfold insertEntry
    split
    · next lower =>
      refine List.pairwise_cons.2 ⟨fun x hx => ?_, List.pairwise_cons.2 ⟨below, order⟩⟩
      rcases List.mem_cons.1 hx with rfl | hx
      · exact lower
      · exact (below x hx).trans lower
    · next higher =>
      refine List.pairwise_cons.2 ⟨fun x hx => ?_, ih order fun x hx => fresh x (List.mem_cons_of_mem y hx)⟩
      rcases mem_insertEntry.1 hx with rfl | hx
      · exact lt_of_le_of_ne (not_lt.1 higher) (fresh y List.mem_cons_self).symm
      · exact below x hx

@[simp] theorem mem_orderTable {priority : Link → Nat} {x : DemandEntry} {table : List DemandEntry} :
    x ∈ orderTable priority table ↔ x ∈ table := by
  unfold orderTable
  induction table with
  | nil => simp
  | cons y ys ih => simp [ih]

/-- A table with one entry per link is in order once it has been put in the order of different priorities. -/
theorem orderTable_pairwise {priority : Link → Nat} (distinct : ∀ l m, priority l = priority m → l = m) {table : List DemandEntry}
    (once : table.Pairwise fun a b => a.link ≠ b.link) :
    (orderTable priority table).Pairwise fun a b => priority b.link < priority a.link := by
  induction table with
  | nil => exact .nil
  | cons y ys ih =>
    obtain ⟨fresh, once⟩ := List.pairwise_cons.1 once
    exact insertEntry_pairwise (ih once) fun x hx same => fresh x (mem_orderTable.1 hx) (distinct _ _ same).symm

/-! A train's table in a sound state. -/

theorem demandSound_of_same {s t : State} {k : Train} (sound : s.demandSound k) (active : t.active = s.active)
    (demand : t.demand k = s.demand k) : t.demandSound k where
  order := by rw [active, demand]; exact sound.order
  fields := by rw [demand]; exact sound.fields
  rights := by
    unfold State.inSet State.right
    rw [active, demand]
    exact sound.rights

theorem demandSound_of_empty {s : State} {k : Train} (empty : s.demand k = []) : s.demandSound k where
  order := by rw [empty]; exact .nil
  fields := by rw [empty]; exact fun _ he => absurd he List.not_mem_nil
  rights := by rw [empty]; exact fun _ he => absurd he List.not_mem_nil

/-- A change of a train's table that keeps it sound keeps every table sound. -/
theorem demandSound_of_changed {s t : State} {k : Train} {table : List DemandEntry} (sound : ∀ j, s.demandSound j)
    (active : t.active = s.active) (demands : t.demands = s.demands.set k table)
    (changed : (s.setDemand k table).demandSound k) (j : Train) : t.demandSound j := by
  by_cases same : k = j
  · subst same
    exact demandSound_of_same changed active (by rw [State.demand, demands]; rfl)
  · exact demandSound_of_same (sound j) active (by rw [State.demand, demands, Vec.get_set_ne _ same]; rfl)

theorem withoutLink_sound {s : State} {k : Train} (sound : s.demandSound k) (l : Link) :
    (s.setDemand k (withoutLink l (s.demand k))).demandSound k where
  order := by
    rw [setDemand_demand_self]
    exact sound.order.filter _
  fields := by
    rw [setDemand_demand_self]
    exact fun e he => sound.fields e (List.mem_filter.1 he).1
  rights := by
    rw [setDemand_demand_self]
    exact fun e he => sound.rights e (List.mem_filter.1 he).1

theorem accepted_sound {s : State} {l : Link} {k : Train} {f : Effective} (valid : s.active.relationFault? = none)
    (sound : s.demandSound k) (set : s.inSet l k = true) (inRange : f.inRange)
    (force : f.request.forced?.isSome = true → (s.right l).force = true) :
    (s.setDemand k (insertEntry s.active.priority ⟨l, f, s.active.demandTimeout⟩ (withoutLink l (s.demand k)))).demandSound k where
  order := by
    rw [setDemand_demand_self]
    refine insertEntry_pairwise (sound.order.filter _) fun x hx same => ?_
    have other : x.link ≠ l := by simpa using (List.mem_filter.1 hx).2
    exact other (priority_injective valid same)
  fields e he := by
    rw [setDemand_demand_self] at he
    rcases mem_insertEntry.1 he with rfl | he
    · exact inRange
    · exact sound.fields e (List.mem_filter.1 he).1
  rights e he := by
    rw [setDemand_demand_self] at he
    rcases mem_insertEntry.1 he with rfl | he
    · refine ⟨set, fun forces => force ?_⟩
      unfold DemandEntry.forces at forces
      split at forces
      · next m request =>
        rw [show f.request = .force m from request]
        rfl
      · cases forces
    · exact sound.rights e (List.mem_filter.1 he).1

/-! The tables at an APPLY (R84). -/

/-- What an APPLY makes of a train's table. -/
def appliedTable (old new : Params) (k : Train) (table : List DemandEntry) : List DemandEntry :=
  let kept := table.filter (DemandEntry.survives old new k)
  if allLinks.all (fun l => old.priority l = new.priority l) then kept else orderTable new.priority kept

theorem applyDemands_eq (old : Params) (k : Train) (s : State) :
    State.applyDemands old k s = s.changeTable k (appliedTable old s.active k (s.demand k)) := rfl

theorem changeTable_demand (s : State) (k j : Train) (table : List DemandEntry) :
    (s.changeTable k table).demand j = if k = j then table else s.demand j := by
  rw [changeTable_frame]
  unfold State.demand
  rw [Vec.get_set]

theorem changeTable_active (s : State) (k : Train) (table : List DemandEntry) : (s.changeTable k table).active = s.active := by
  rw [changeTable_frame]

theorem applyAllDemands_demand (old : Params) (s : State) (k : Train) :
    (forEach allTrains (State.applyDemands old) s).demand k = appliedTable old s.active k (s.demand k) := by
  refine forEach_at (P := fun u => u.active = s.active ∧ u.demand k = s.demand k)
    (Q := fun u => u.demand k = appliedTable old s.active k (s.demand k)) (fun j u other hu => ?_) (fun u hu => ?_)
    (fun j u other hu => ?_) allTrains_nodup (mem_allTrains k) ⟨rfl, rfl⟩
  · rw [applyDemands_eq, changeTable_active, changeTable_demand, if_neg other]
    exact hu
  · obtain ⟨active, demand⟩ := hu
    rw [applyDemands_eq, changeTable_demand, if_pos rfl, active, demand]
  · rw [applyDemands_eq, changeTable_demand, if_neg other]
    exact hu

/-- The entries an APPLY leaves are those of the table that survive. -/
theorem mem_of_appliedTable {old new : Params} {k : Train} {table : List DemandEntry} {e : DemandEntry}
    (h : e ∈ appliedTable old new k table) : e ∈ table ∧ e.survives old new k = true := by
  unfold appliedTable at h
  dsimp only at h
  split at h
  · exact List.mem_filter.1 h
  · exact List.mem_filter.1 (mem_orderTable.1 h)

theorem applyTables_demand (s : State) (k : Train) : s.applyTables.demand k = appliedTable s.active s.staged k (s.demand k) := by
  have before : (forEach allTrains (State.applySlots s.active) s.applyReference).demand k = s.demand k := by
    rw [applySlots_frame, applyReference_frame, applyNotices_frame]
    rfl
  have active : (forEach allTrains (State.applySlots s.active) s.applyReference).active = s.staged := by
    rw [applySlots_frame, applyReference_frame, applyNotices_frame]
  exact (applyAllDemands_demand s.active _ k).trans (by rw [active, before])

theorem applyStaged_demands (s : State) : s.applyStaged.demands = s.applyTables.demands := by
  rw [applyStaged_eq, (decidePostures_same _ _).demands, (applyDrives_same s).demands, (applyShafts_same s).demands,
    (applyLimits_same s).demands]

theorem applyStaged_demand (s : State) (k : Train) : s.applyStaged.demand k = appliedTable s.active s.staged k (s.demand k) := by
  rw [State.demand, applyStaged_demands]
  exact applyTables_demand s k

/-- An entry that survives a change of the rights is backed by the new ones. -/
theorem survives_rights {old new : Params} {k : Train} {e : DemandEntry} (survives : e.survives old new k = true)
    (set : inTrains (old.right e.link).trains k = true) (force : e.forces = true → (old.right e.link).force = true) :
    inTrains (new.right e.link).trains k = true ∧ (e.forces = true → (new.right e.link).force = true) := by
  unfold DemandEntry.survives at survives
  rw [set] at survives
  simp only [Bool.true_and, Bool.not_not, Bool.and_eq_true, Bool.not_eq_true'] at survives
  obtain ⟨newSet, newForce⟩ := survives
  refine ⟨newSet, fun forces => ?_⟩
  rw [force forces, forces] at newForce
  simpa using newForce

theorem applyStaged_demandSound {s : State} {k : Train} (sound : s.demandSound k)
    (valid : s.staged.relationFault? = none) : s.applyStaged.demandSound k := by
  have active : s.applyStaged.active = s.staged := by rw [applyStaged_frame]
  have kept : ∀ e ∈ s.applyStaged.demand k, e ∈ s.demand k ∧ e.survives s.active s.staged k = true := by
    intro e he
    rw [applyStaged_demand] at he
    exact mem_of_appliedTable he
  refine ⟨?order, fun e he => sound.fields e (kept e he).1, fun e he => ?rights⟩
  case order =>
    rw [active, applyStaged_demand, appliedTable]
    split
    · next same =>
      have same : ∀ l, s.active.priority l = s.staged.priority l := fun l => by
        simpa using List.all_eq_true.1 same l (mem_allLinks l)
      simp only [← same]
      exact sound.order.filter _
    · refine orderTable_pairwise (fun l m => priority_injective valid) ((sound.order.filter _).imp fun lower same => ?_)
      rw [same] at lower
      exact lt_irrefl _ lower
  case rights =>
    obtain ⟨mem, survives⟩ := kept e he
    obtain ⟨set, force⟩ := sound.rights e mem
    unfold State.inSet State.right
    rw [active]
    exact survives_rights survives set force

/-! Every effect. -/

theorem tick_demandSound {s : State} {k : Train} (sound : s.demandSound k) :
    ({ s.tickTimers with uptime := s.uptime + 1 } : State).demandSound k := by
  have demand : ({ s.tickTimers with uptime := s.uptime + 1 } : State).demand k = (s.demand k).map DemandEntry.tick := Vec.get_map _ _ _
  refine ⟨?_, fun e he => ?_, fun e he => ?_⟩
  · rw [demand]
    exact List.pairwise_map.2 sound.order
  · rw [demand] at he
    obtain ⟨x, hx, rfl⟩ := List.mem_map.1 he
    exact sound.fields x hx
  · rw [demand] at he
    obtain ⟨x, hx, rfl⟩ := List.mem_map.1 he
    exact sound.rights x hx

/-- The tables after a reset are empty. -/
theorem resetBlocks_demand (s : State) (cause : ResetCause) (v : Vec 4 Level) (k : Train) : (s.resetBlocks cause v).demand k = [] := by
  rw [State.demand, (resetBlocks_same s cause v).demands, fileRaise_frame]
  exact Vec.get_replicate _ _

theorem Effect.demandSound {s t : State} (h : Effect s t) (params : s.paramsSound) (sound : ∀ k, s.demandSound k) (k : Train) :
    t.demandSound k := by
  have same {t : State} (active : t.active = s.active) (demand : t.demand k = s.demand k) : t.demandSound k :=
    demandSound_of_same (sound k) active demand
  cases h with
  | event h => exact same h.same.active (h.same.demand k)
  | second => exact tick_demandSound (sound k)
  | defaults cause v => exact demandSound_of_empty (resetBlocks_demand _ _ _ k)
  | restarted => exact demandSound_of_empty (resetBlocks_demand _ _ _ k)
  | noticesCleared l | noticeTaken l | noticeAcked l => exact same (setEntries_active s _ _) (setEntries_demand s _ _ k)
  | noticeHandled => rw [handleNotice_frame]; exact same rfl rfl
  | published l c v => rw [publish_frame]; exact same rfl rfl
  | wentStale c => rw [goStale_frame]; exact same rfl rfl
  | evaluated k => rw [evaluate_frame]; exact same rfl rfl
  | demandAccepted l j f set inRange force =>
    exact demandSound_of_changed sound (changeTable_active _ _ _) (congrArg State.demands (changeTable_frame s j _) :)
      (accepted_sound params.relations (sound j) set inRange force) k
  | demandExpired j l =>
    exact demandSound_of_changed sound (changeTable_active (s.raise _) _ _)
      (congrArg State.demands (changeTable_frame (s.raise _) j _) :)
      (withoutLink_sound (sound j) l) k
  | demandWithdrawn j l =>
    exact demandSound_of_changed sound (changeTable_active _ _ _) (congrArg State.demands (changeTable_frame s j _) :)
      (withoutLink_sound (sound j) l) k
  | basisTaken j b a => exact same (takeBasis_same _ j b a).active ((takeBasis_same _ j b a).demand k)
  | requestTaken j v => exact same (takeRequest_same _ j v).active ((takeRequest_same _ j v).demand k)
  | sensedLow n => rw [senseLow_frame]; exact same rfl rfl
  | sensedHigh n => rw [senseHigh_frame]; exact same rfl rfl
  | assertionEnded n => rw [endAssertion_frame]; exact same rfl rfl
  | applied _ _ accepted => exact applyStaged_demandSound (sound k) (relationFault_of_applyFault accepted)
  | lockSet => rw [setLock_frame]; exact same rfl rfl
  | port | referenceRead | lineHeld | reportRefused | accumulated | periodBegun | staged | discarded => exact same rfl rfl

/-- Settles O57: each effect keeps the tables sound under sound parameter sets. -/
theorem demandsStaySound : Obligations.DemandsStaySound := by
  unfold Obligations.DemandsStaySound
  intro s t sound h
  refine (step_keeps (P := fun s => s.paramsSound ∧ ∀ k, s.demandSound k) (fun s _ h => ?queue) (fun s t e h => ?effect)
    ⟨sound.params, sound.demands⟩ h).2
  case queue => exact ⟨⟨h.1.active, h.1.staged, h.1.relations, h.1.frozen⟩, fun k => demandSound_of_same (h.2 k) rfl rfl⟩
  case effect => exact ⟨e.paramsSound h.1, e.demandSound h.1 h.2⟩

end Sys2Proof.Machine
end

section
/-! The channels, the stations and the reference (chapters 1 and 2) at every step. -/

namespace Sys2Proof.Machine

/-! What a re-decision reads. -/

/-- Two states whose stations and station channels a re-decision reads alike. -/
structure DecidesAlike (s t : State) : Prop where
  credit : ∀ st, (t.station st).credit = (s.station st).credit
  fresh : ∀ c : Channel, c.val < 8 → t.freshValue c = s.freshValue c
  station : t.active.station = s.active.station

/-- The reference record but for its lost-since-read flag. -/
def ReferenceRec.sameDecision (r q : ReferenceRec) : Prop := r = { q with lostSinceRead := r.lostSinceRead }

theorem sameDecision_iff {r q : ReferenceRec} :
    r.sameDecision q ↔ r.lost = q.lost ∧ r.usable = q.usable ∧ r.median = q.median ∧ r.wOA = q.wOA := by
  obtain ⟨lost, lostSinceRead, usable, median, wOA⟩ := r
  simp [ReferenceRec.sameDecision]

theorem stationTChannel_lt (st : Station) : (stationTChannel st).val < 8 := by unfold stationTChannel; dsimp only; omega
theorem stationWChannel_lt (st : Station) : (stationWChannel st).val < 8 := by unfold stationWChannel; dsimp only; omega

section
variable {s t : State}

theorem DecidesAlike.usableReduced (h : DecidesAlike s t) (st : Station) : t.usableReduced st = s.usableReduced st := by
  unfold State.usableReduced State.reduced
  rw [h.credit, h.fresh _ (stationTChannel_lt st), h.station]

theorem DecidesAlike.isUsable (h : DecidesAlike s t) (st : Station) : t.isUsable st = s.isUsable st := by
  unfold State.isUsable
  rw [h.credit, h.fresh _ (stationTChannel_lt st)]

theorem DecidesAlike.decided (h : DecidesAlike s t) : t.decidedReference.sameDecision s.decidedReference := by
  have usable : t.isUsable = s.isUsable := funext h.isUsable
  have reduced : t.usableReduced = s.usableReduced := funext h.usableReduced
  have humidity : (fun st => t.freshValue (stationWChannel st)) = fun st => s.freshValue (stationWChannel st) :=
    funext fun st => h.fresh _ (stationWChannel_lt st)
  rw [sameDecision_iff]
  unfold State.decidedReference
  rw [usable, reduced, humidity]
  exact ⟨rfl, rfl, rfl, rfl⟩

/-- A reference as its re-decision makes it stays so while the record and what a re-decision reads stay. -/
theorem decided_of_alike (h : DecidesAlike s t) (reference : t.reference.sameDecision s.reference)
    (decided : s.reference.sameDecision s.decidedReference) : t.reference.sameDecision t.decidedReference := by
  have new := sameDecision_iff.1 h.decided
  have old := sameDecision_iff.1 decided
  have kept := sameDecision_iff.1 reference
  rw [sameDecision_iff]
  exact ⟨kept.1.trans (old.1.trans new.1.symm), kept.2.1.trans (old.2.1.trans new.2.1.symm),
    kept.2.2.1.trans (old.2.2.1.trans new.2.2.1.symm), kept.2.2.2.trans (old.2.2.2.trans new.2.2.2.symm)⟩

end

theorem redecide_eq (s : State) : s.redecide = { s with
    reference := s.decidedReference
    raised := s.raised ++ (if s.decidedReference.lost = s.reference.lost then []
      else if s.decidedReference.lost = true then [.begins .referenceLost] else [.ends .referenceLost]) } := by
  unfold State.redecide
  cases new : s.decidedReference.lost <;> cases old : s.reference.lost <;>
    simp [State.beginLevel, State.endLevel, State.setReference, State.setRaised, new]

/-- A re-decision leaves the record as it would be made again. -/
theorem redecide_decided (s : State) : s.redecide.reference.sameDecision s.redecide.decidedReference := by
  have alike : DecidesAlike s s.redecide := by
    rw [redecide_eq]
    exact ⟨fun _ => rfl, fun _ _ => rfl, rfl⟩
  have new := sameDecision_iff.1 alike.decided
  rw [sameDecision_iff, new.1, new.2.1, new.2.2.1, new.2.2.2, redecide_eq]
  exact ⟨rfl, rfl, rfl, rfl⟩

/-! Stations (R18, R23). -/

/-- The count that would flip a station. -/
def StationParams.flipCount (p : StationParams) : Credit → Nat
  | .credited => p.discredit
  | .discredited => p.recredit

/-- The stations of a sound state: each counter below the count that would flip it, and one station CREDITED. -/
structure State.stationsSound (s : State) : Prop where
  counter : ∀ st, (s.station st).counter < s.active.station.flipCount (s.station st).credit
  credited : ∃ st, (s.station st).credit = .credited

theorem referenceSound_iff (s : State) : s.referenceSound ↔ s.stationsSound ∧ s.reference.sameDecision s.decidedReference := by
  have counts : ∀ st, (match (s.station st).credit with
      | .credited => s.active.station.discredit
      | .discredited => s.active.station.recredit) = s.active.station.flipCount (s.station st).credit := fun st => by
    cases (s.station st).credit <;> rfl
  constructor
  · rintro ⟨counter, credited, decided⟩
    exact ⟨⟨fun st => lt_of_lt_of_eq (counter st) (counts st), credited⟩, decided⟩
  · rintro ⟨⟨counter, credited⟩, decided⟩
    exact ⟨fun st => lt_of_lt_of_eq (counter st) (counts st).symm, credited, decided⟩

section
variable {s t : State}

theorem stationsSound_of_same (sound : s.stationsSound) (stations : t.stations = s.stations)
    (station : t.active.station = s.active.station) : t.stationsSound where
  counter st := by rw [State.station, stations, station]; exact sound.counter st
  credited := by
    obtain ⟨st, credited⟩ := sound.credited
    exact ⟨st, by rw [State.station, stations]; exact credited⟩

theorem flipCount_pos {p : StationParams} (inRange : p.inRange) (c : Credit) : 0 < p.flipCount c := by
  obtain ⟨-, -, -, -, -, discredit, -, recredit, -⟩ := inRange
  cases c
  · exact discredit
  · exact recredit

/-- The counting of a result keeps the counter below the count that would flip the station. -/
theorem countCredit_counter {p : StationParams} (inRange : p.inRange) {r : StationRec} (below : r.counter < p.flipCount r.credit)
    (agrees : Bool) : (countCredit p r agrees).1.counter < p.flipCount (countCredit p r agrees).1.credit := by
  have pos := flipCount_pos inRange
  cases credit : r.credit <;> rw [credit] at below <;> cases agrees
  case credited.true => rw [countCredit_credited_agrees credit]; exact pos _
  case credited.false =>
    by_cases reaching : r.counter + 1 = p.discredit
    · rw [countCredit_credited_disagrees_reaching credit reaching]; exact pos _
    · rw [countCredit_credited_disagrees_below credit reaching]
      dsimp only
      rw [credit]
      exact lt_of_le_of_ne below reaching
  case discredited.true =>
    rw [countCredit_discredited_agrees credit]
    split
    · exact pos _
    · next short =>
      dsimp only
      rw [credit]
      exact lt_of_le_of_ne below short
  case discredited.false => rw [countCredit_discredited_disagrees credit]; exact pos _

theorem lowerMedian_some_ne_nil {xs : List Int} {m : Int} (h : lowerMedian xs = some m) : xs ≠ [] := by
  rintro rfl
  cases h

/-- A station with others to compare with is not the only CREDITED one (R21). -/
theorem credited_other {st : Station} (h : s.others st ≠ []) : ∃ tt, tt ≠ st ∧ (s.station tt).credit = .credited := by
  obtain ⟨v, hv⟩ := List.exists_mem_of_ne_nil _ h
  obtain ⟨tt, mem, reduced⟩ := List.mem_filterMap.1 hv
  refine ⟨tt, by simpa using (List.mem_filter.1 mem).2, ?_⟩
  unfold State.usableReduced at reduced
  split at reduced
  · assumption
  · cases reduced

/-- A credit test changes the record of its station alone. -/
theorem creditTest_stations (s : State) (st : Station) (x : Int) :
    ∃ r, (s.creditTest st x).stations = s.stations.set st r ∧
      (r.counter = (s.station st).counter ∧ r.credit = (s.station st).credit ∨
        ∃ m agrees, lowerMedian (s.others st) = some m ∧ r = (countCredit s.active.station (s.testedStation st x m) agrees).1) := by
  cases median : lowerMedian (s.others st) with
  | none =>
    refine ⟨{ s.station st with lastReduced := some (s.reduced st x), lastDeviation := none }, ?_, .inl ⟨rfl, rfl⟩⟩
    simp only [State.creditTest, median]
    rfl
  | some m =>
    refine ⟨_, ?_, .inr ⟨m, decide (|s.reduced st x - m| ≤ s.active.station.tolerance), rfl, rfl⟩⟩
    rw [creditTest_of_median median]
    dsimp only
    split <;> rfl

theorem creditTest_stationsSound (inRange : s.active.station.inRange) (sound : s.stationsSound) (st : Station) (x : Int) :
    (s.creditTest st x).stationsSound := by
  have active : (s.creditTest st x).active = s.active := (creditTest_same s st x).active
  obtain ⟨r, stations, counted⟩ := creditTest_stations s st x
  have self : (s.creditTest st x).station st = r := by rw [State.station, stations, Vec.get_set_self]
  have other {tt : Station} (h : st ≠ tt) : (s.creditTest st x).station tt = s.station tt := by
    rw [State.station, stations, Vec.get_set_ne _ h]
    rfl
  refine ⟨fun tt => ?counter, ?credited⟩
  case counter =>
    rw [active]
    by_cases same : st = tt
    · subst same
      rw [self]
      rcases counted with ⟨counter, credit⟩ | ⟨m, agrees, -, rfl⟩
      · rw [counter, credit]
        exact sound.counter st
      · exact countCredit_counter inRange (r := s.testedStation st x m) (sound.counter st) agrees
    · rw [other same]
      exact sound.counter tt
  case credited =>
    rcases counted with ⟨-, credit⟩ | ⟨m, agrees, median, -⟩
    · obtain ⟨tt, credited⟩ := sound.credited
      refine ⟨tt, ?_⟩
      by_cases same : st = tt
      · subst same
        rw [self, credit, credited]
      · rw [other same, credited]
    · obtain ⟨tt, ne, credited⟩ := credited_other (lowerMedian_some_ne_nil median)
      exact ⟨tt, by rw [other ne.symm, credited]⟩

end

/-! Channels (R3, R7 to R10). -/

section
variable {s t : State}

theorem channelSound_of_same {c : Channel} (sound : s.channelSound c) (channel : t.channel c = s.channel c)
    (target : (t.active.channel c).target = (s.active.channel c).target) : t.channelSound c := by
  obtain ⟨fresh, published, count, sum⟩ := sound
  refine ⟨?_, ?_, ?_, ?_⟩
  · rw [channel]; exact fresh
  · rw [channel]; exact published
  · rw [channel, target]; exact count
  · rw [channel]; exact sum

/-- A channel replaced by a record that is sound for its count leaves every channel sound. -/
theorem channelSound_of_set {c d : Channel} {x : ChannelRec} (sound : ∀ c, s.channelSound c) (channels : t.channels = s.channels.set c x)
    (active : t.active = s.active) (new : (s.setChannel c x).channelSound c) : t.channelSound d := by
  by_cases same : c = d
  · subst same
    exact channelSound_of_same new (by rw [State.channel, channels]; rfl) (by rw [active]; rfl)
  · exact channelSound_of_same (sound d) (by rw [State.channel, channels, Vec.get_set_ne _ same]; rfl) (by rw [active])

theorem publishedRec_sound (inRange : s.active.inRange) (l : Link) (c : Channel) (v : Int) :
    (s.setChannel c (s.publishedRec l c v)).channelSound c := by
  obtain ⟨target, -, -, -, -, -, stale, -⟩ := inRange.channels c
  refine ⟨?_, ?_, ?_, ?_⟩ <;> rw [setChannel_channel_self]
  · exact iff_of_true rfl ((startTimer_isSome _).2 (by omega))
  · exact iff_of_false (Option.some_ne_none _) (fun h => by cases h)
  · exact target
  · exact fun _ => rfl

theorem accumulate_sound {c : Channel} (sound : s.channelSound c) (short : (s.channel c).count + 1 < (s.active.channel c).target)
    (v : Int) : (s.accumulate c v).channelSound c := by
  obtain ⟨fresh, published, -, -⟩ := sound
  unfold State.accumulate
  refine ⟨?_, ?_, ?_, ?_⟩ <;> rw [setChannel_channel_self]
  · exact fresh
  · exact published
  · exact short
  · exact fun h => absurd h (Nat.succ_ne_zero _)

/-- The record a channel has after its age timer has run. -/
theorem staleRec_sound {c : Channel} (inRange : s.active.inRange) (sound : s.channelSound c) (due : timeIsUp (s.channel c).age = true) :
    (s.setChannel c { (s.channel c).emptied with state := .stale, age := none }).channelSound c := by
  have age : (s.channel c).age = some 0 := of_decide_eq_true due
  have fresh : (s.channel c).state = .fresh := sound.fresh.2 (by rw [age]; rfl)
  have published : (s.channel c).published ≠ none := fun h => by
    have empty := sound.published.1 h
    rw [fresh] at empty
    cases empty
  refine ⟨?_, ?_, ?_, ?_⟩ <;> rw [setChannel_channel_self]
  · exact iff_of_false (fun h => by cases h) Bool.false_ne_true
  · exact iff_of_false published (fun h => by cases h)
  · exact (inRange.channels c).1
  · exact fun _ => rfl

theorem emptied_sound {c : Channel} (inRange : s.active.inRange) (fresh : (s.channel c).state = .fresh ↔ (s.channel c).age.isSome = true)
    (published : (s.channel c).published = none ↔ (s.channel c).state = .empty) : (s.setChannel c (s.channel c).emptied).channelSound c := by
  refine ⟨?_, ?_, ?_, ?_⟩ <;> rw [setChannel_channel_self]
  · exact fresh
  · exact published
  · exact (inRange.channels c).1
  · exact fun _ => rfl

theorem reset_channelSound {c : Channel} (inRange : s.active.inRange) (channel : s.channel c = .reset) : s.channelSound c := by
  refine ⟨?_, ?_, ?_, ?_⟩ <;> rw [channel]
  · exact iff_of_false (fun h => by cases h) Bool.false_ne_true
  · exact iff_of_true rfl rfl
  · exact (inRange.channels c).1
  · exact fun _ => rfl

end

/-! The channels, the stations and the reference together. -/

/-- The Observation Table and the Outdoor Reference Unit of a sound state. -/
structure State.observed (s : State) : Prop where
  channels : ∀ c, s.channelSound c
  stations : s.stationsSound
  decided : s.reference.sameDecision s.decidedReference

theorem observed_iff (s : State) : s.observed ↔ (∀ c, s.channelSound c) ∧ s.referenceSound := by
  rw [referenceSound_iff]
  exact ⟨fun ⟨a, b, c⟩ => ⟨a, b, c⟩, fun ⟨a, b, c⟩ => ⟨a, b, c⟩⟩

section
variable {s t : State}

theorem ReferenceRec.sameDecision.refl (r : ReferenceRec) : r.sameDecision r := rfl

theorem observed_of_same (sound : s.observed) (active : t.active = s.active) (channels : t.channels = s.channels)
    (stations : t.stations = s.stations) (reference : t.reference = s.reference) : t.observed where
  channels c := channelSound_of_same (sound.channels c) (by rw [State.channel, channels]; rfl) (by rw [active])
  stations := stationsSound_of_same sound.stations stations (by rw [active])
  decided := decided_of_alike (s := s)
    ⟨fun st => by rw [State.station, stations]; rfl, fun c _ => by unfold State.freshValue State.channel; rw [channels], by rw [active]⟩
    (by rw [reference]; exact .refl _) sound.decided

/-- A re-decision makes the reference what it would be made again, whatever it was. -/
theorem redecide_observed (channels : ∀ c, s.channelSound c) (stations : s.stationsSound) : s.redecide.observed where
  channels c := channelSound_of_same (channels c) ((redecide_same s).channel c) (by rw [(redecide_same s).active])
  stations := stationsSound_of_same stations (by rw [redecide_eq]) (by rw [redecide_eq])
  decided := redecide_decided s

/-- The channels of the stations are those of index 0..7. -/
theorem channelKind_of_ge {c : Channel} (h : 8 ≤ c.val) : channelKind c ≠ .stationT ∧ channelKind c ≠ .stationW := by
  unfold channelKind
  rw [if_neg (by omega)]
  split <;> exact ⟨ChannelKind.noConfusion, ChannelKind.noConfusion⟩

theorem stationChannel_of_kind {c : Channel} (h : channelKind c ≠ .stationT) (h' : channelKind c ≠ .stationW) : 8 ≤ c.val := by
  unfold channelKind at h h'
  by_contra low
  rw [if_pos (by omega)] at h h'
  split at h <;> simp_all

/-- A change of a train channel reads alike to a re-decision. -/
theorem alike_of_set {c : Channel} {x : ChannelRec} (high : 8 ≤ c.val) (channels : t.channels = s.channels.set c x)
    (active : t.active = s.active) (stations : t.stations = s.stations) : DecidesAlike s t where
  credit st := by rw [State.station, stations]; rfl
  fresh d low := by
    unfold State.freshValue State.channel
    rw [channels, Vec.get_set_ne]
    rintro rfl
    omega
  station := by rw [active]

/-- A channel's record replaced and the station publication that follows. -/
theorem stationPublished_observed (inRange : s.active.inRange) (sound : s.observed) {c : Channel} {x : ChannelRec}
    (new : (s.setChannel c x).channelSound c) (v : Int) : ((s.setChannel c x).stationPublished c v).observed := by
  have channels : ∀ d, (s.setChannel c x).channelSound d := fun d => channelSound_of_set sound.channels rfl rfl new
  have stations : (s.setChannel c x).stationsSound := stationsSound_of_same sound.stations rfl rfl
  unfold State.stationPublished
  split
  · refine redecide_observed (fun d => channelSound_of_same (channels d) ((creditTest_same _ _ _).channel d) ?_)
      (creditTest_stationsSound (s := s.setChannel c x) inRange.station stations _ _)
    rw [(creditTest_same _ _ _).active]
  · exact redecide_observed channels stations
  · next notT notW =>
    have alike : DecidesAlike s (s.setChannel c x) := alike_of_set (stationChannel_of_kind notT notW) rfl rfl rfl
    exact ⟨channels, stations, decided_of_alike alike (.refl _) sound.decided⟩

theorem goStale_observed (inRange : s.active.inRange) (sound : s.observed) {c : Channel} (due : timeIsUp (s.channel c).age = true) :
    (s.goStale c).observed := by
  unfold State.goStale State.stationStale
  dsimp only
  generalize stale : s.setChannel c { (s.channel c).emptied with state := .stale, age := none } = u
  have channels : ∀ d, (u.raise (.channelStale c)).channelSound d := fun d => by
    subst stale
    exact channelSound_of_set sound.channels rfl rfl (staleRec_sound inRange (sound.channels c) due)
  have stations : (u.raise (.channelStale c)).stationsSound := by
    subst stale
    exact stationsSound_of_same sound.stations rfl rfl
  split
  · exact redecide_observed channels stations
  · next high =>
    subst stale
    have alike : DecidesAlike s ((s.setChannel c { (s.channel c).emptied with state := .stale, age := none }).raise (.channelStale c)) :=
      alike_of_set (not_lt.1 high) rfl rfl rfl
    exact ⟨channels, stations, decided_of_alike alike (.refl _) sound.decided⟩

theorem accumulate_observed (sound : s.observed) {c : Channel} (short : (s.channel c).count + 1 < (s.active.channel c).target)
    (v : Int) : (s.accumulate c v).observed where
  channels _ := channelSound_of_set sound.channels rfl rfl (accumulate_sound (sound.channels c) short v)
  stations := stationsSound_of_same sound.stations rfl rfl
  decided := by
    refine decided_of_alike (s := s) ⟨fun _ => rfl, fun d _ => ?_, rfl⟩ (.refl _) sound.decided
    unfold State.freshValue State.accumulate
    rw [setChannel_channel]
    by_cases same : c = d
    · rw [if_pos same, same]
    · rw [if_neg same]

/-- The blocks after a reset under a set in range (R16, R34). -/
theorem reset_observed (inRange : s.active.inRange) (channels : s.channels = .replicate 32 .reset)
    (stations : s.stations = .replicate 4 .reset) (reference : s.reference = .reset) : s.observed := by
  have channel : ∀ c, s.channel c = .reset := fun c => by rw [State.channel, channels, Vec.get_replicate]
  have station : ∀ st, s.station st = .reset := fun st => by rw [State.station, stations, Vec.get_replicate]
  have silent : ∀ c, s.freshValue c = none := fun c => by rw [State.freshValue, channel]; rfl
  have noneUsable : s.isUsable = fun _ => false := funext fun st => by simp [State.isUsable, silent]
  have noneReduced : s.usableReduced = fun _ => none := funext fun st => by simp [State.usableReduced, silent]
  refine ⟨fun c => reset_channelSound inRange (channel c), ⟨fun st => ?_, 0, by rw [station]; rfl⟩, ?_⟩
  · rw [station]
    exact flipCount_pos inRange.station _
  · rw [sameDecision_iff, reference]
    unfold State.decidedReference
    simp only [noneUsable, noneReduced, silent]
    exact ⟨rfl, rfl, rfl, rfl⟩

theorem resetBlocks_observed (inRange : s.active.inRange) (cause : ResetCause) (v : Vec 4 Level) : (s.resetBlocks cause v).observed := by
  have same := resetBlocks_same s cause v
  refine reset_observed ?_ ?_ ?_ ?_
  · rw [same.active, fileRaise_frame]; exact inRange
  · rw [same.channels, fileRaise_frame]; rfl
  · rw [same.stations, fileRaise_frame]; rfl
  · rw [same.reference, fileRaise_frame]; rfl

/-! An APPLY (R15, R33). -/

/-- What an APPLY makes of a channel's record. -/
def appliedChannel (old new : Params) (c : Channel) (r : ChannelRec) : ChannelRec :=
  if (old.channel c).target ≠ (new.channel c).target ∨ (old.channel c).low ≠ (new.channel c).low ∨
    (old.channel c).high ≠ (new.channel c).high then r.emptied else r

theorem applyChannel_eq (old : Params) (c : Channel) (s : State) :
    State.applyChannel old c s = s.setChannel c (appliedChannel old s.active c (s.channel c)) := by
  unfold State.applyChannel appliedChannel
  dsimp only
  split
  · rfl
  · unfold State.setChannel State.channel
    rw [Vec.set_get]

theorem applyAllChannels_channel (old : Params) (s : State) (c : Channel) :
    (forEach allChannels (State.applyChannel old) s).channel c = appliedChannel old s.active c (s.channel c) := by
  refine forEach_at (P := fun u => u.active = s.active ∧ u.channel c = s.channel c)
    (Q := fun u => u.channel c = appliedChannel old s.active c (s.channel c)) (fun d u other hu => ?_) (fun u hu => ?_)
    (fun d u other hu => ?_) allChannels_nodup (mem_allChannels c) ⟨rfl, rfl⟩
  · rw [applyChannel_eq, setChannel_active, setChannel_channel, if_neg other]
    exact hu
  · obtain ⟨active, channel⟩ := hu
    rw [applyChannel_eq, setChannel_channel_self, active, channel]
  · rw [applyChannel_eq, setChannel_channel, if_neg other]
    exact hu

/-- The state at an APPLY before the stations and the reference take up the set. -/
abbrev State.applyChannels (s : State) : State := forEach allChannels (State.applyChannel s.active) s.applyNotices

theorem applyChannels_active (s : State) : s.applyChannels.active = s.staged := by
  rw [State.applyChannels, applyChannels_frame, applyNotices_frame]

theorem applyChannels_stations (s : State) : s.applyChannels.stations = s.stations := by
  rw [State.applyChannels, applyChannels_frame, applyNotices_frame]

theorem applyChannels_channel (s : State) (c : Channel) :
    s.applyChannels.channel c = appliedChannel s.active s.staged c (s.channel c) := by
  rw [State.applyChannels, applyAllChannels_channel, applyNotices_frame]
  rfl

theorem applyChannels_channelSound (inRange : s.staged.inRange) {c : Channel} (sound : s.channelSound c) : s.applyChannels.channelSound c := by
  have active := applyChannels_active s
  have channel := applyChannels_channel s c
  unfold appliedChannel at channel
  split at channel
  · refine channelSound_of_same (s := { s with active := s.staged, channels := s.channels.set c (s.channel c).emptied }) ?_ ?_ (by rw [active])
    · exact emptied_sound (s := { s with active := s.staged }) inRange sound.fresh sound.published
    · rw [channel]
      exact (Vec.get_set_self _ _ _).symm
  · next same =>
    rw [not_or, not_not] at same
    exact channelSound_of_same sound channel (by rw [active]; exact same.1.symm)

theorem applyStations_observed {old : Params} (inRange : s.active.inRange) (channels : ∀ c, s.channelSound c)
    (counter : old.station = s.active.station → ∀ st, (s.station st).counter < s.active.station.flipCount (s.station st).credit)
    (credited : ∃ st, (s.station st).credit = .credited) : (State.applyStations old s).observed := by
  unfold State.applyStations
  split
  · refine redecide_observed (fun c => channelSound_of_same (channels c) rfl rfl) ⟨fun st => ?_, ?_⟩
    · unfold State.station
      rw [Vec.get_map]
      exact flipCount_pos inRange.station _
    · obtain ⟨st, h⟩ := credited
      refine ⟨st, ?_⟩
      unfold State.station
      rw [Vec.get_map]
      exact h
  · next same => exact redecide_observed channels ⟨counter (not_not.1 same), credited⟩

theorem applyStaged_observed (params : s.paramsSound) (sound : s.observed) : s.applyStaged.observed := by
  have stations := applyChannels_stations s
  have active := applyChannels_active s
  have reference : s.applyReference.observed := by
    refine applyStations_observed (s := s.applyChannels) (by rw [active]; exact params.staged)
      (fun c => applyChannels_channelSound params.staged (sound.channels c)) (fun same st => ?_) ?_
    · rw [State.station, stations, ← same]
      exact sound.stations.counter st
    · obtain ⟨st, credited⟩ := sound.stations.credited
      exact ⟨st, by rw [State.station, stations]; exact credited⟩
  have postures := decidePostures_same s.applyDrives s.active
  have drives := applyDrives_same s
  have shafts := applyShafts_same s
  have limits := applyLimits_same s
  refine observed_of_same reference ?_ ?_ ?_ ?_ <;>
    rw [applyStaged_eq]
  · rw [postures.active, drives.active, shafts.active, limits.active, applyTables_frame]
  · rw [postures.channels, drives.channels, shafts.channels, limits.channels, applyTables_frame]
  · rw [postures.stations, drives.stations, shafts.stations, limits.stations, applyTables_frame]
  · rw [postures.reference, drives.reference, shafts.reference, limits.reference, applyTables_frame]

/-! Every effect. -/

theorem tick_observed (sound : s.observed) : ({ s.tickTimers with uptime := s.uptime + 1 } : State).observed := by
  have channel : ∀ c, ({ s.tickTimers with uptime := s.uptime + 1 } : State).channel c = (s.channel c).tick := fun c => Vec.get_map _ _ _
  refine ⟨fun c => ?_, stationsSound_of_same sound.stations rfl rfl, decided_of_alike (s := s) ⟨fun _ => rfl, fun c _ => ?_, rfl⟩
    (.refl _) sound.decided⟩
  · obtain ⟨fresh, published, count, sum⟩ := sound.channels c
    refine ⟨?_, ?_, ?_, ?_⟩ <;> rw [channel]
    · unfold ChannelRec.tick
      rw [tickTimer_isSome]
      exact fresh
    · exact published
    · exact count
    · exact sum
  · unfold State.freshValue
    rw [channel]
    rfl

end

theorem Effect.observed {s t : State} (h : Effect s t) (params : s.paramsSound) (sound : s.observed) : t.observed := by
  have same {t : State} := observed_of_same (t := t) sound
  cases h with
  | event h => exact same h.same.active h.same.channels h.same.stations h.same.reference
  | referenceRead =>
    exact ⟨fun c => channelSound_of_same (sound.channels c) rfl rfl, stationsSound_of_same sound.stations rfl rfl,
      decided_of_alike (s := s) ⟨fun _ => rfl, fun _ _ => rfl, rfl⟩ rfl sound.decided⟩
  | second => exact tick_observed sound
  | defaults cause v => exact resetBlocks_observed (s := s.toDefaults) defaultParams_inRange cause v
  | restarted => exact resetBlocks_observed (s := { s with ports := s.ports.map LinkPort.restarted }) params.active _ _
  | noticesCleared l | noticeTaken l | noticeAcked l =>
    exact same (setEntries_active s _ _) (setEntries_channels s _ _) (setEntries_stations s _ _) (setEntries_reference s _ _)
  | noticeHandled => rw [handleNotice_frame]; exact same rfl rfl rfl rfl
  | accumulated c v short => exact accumulate_observed sound short v
  | published l c v => exact stationPublished_observed params.active sound (publishedRec_sound params.active l c v) _
  | wentStale c due => exact goStale_observed params.active sound due
  | evaluated k => rw [evaluate_frame]; exact same rfl rfl rfl rfl
  | demandAccepted l k f => rw [acceptDemand_frame]; exact same rfl rfl rfl rfl
  | demandExpired k l => rw [expireDemand_frame]; exact same rfl rfl rfl rfl
  | demandWithdrawn k l => rw [changeTable_frame]; exact same rfl rfl rfl rfl
  | basisTaken k b a =>
    have frame := takeBasis_same (s.setHandoffs (s.handoffs.eraseP (Handoff.isShaft k .sequencer))) k b a
    exact same frame.active frame.channels frame.stations frame.reference
  | requestTaken k v =>
    have frame := takeRequest_same (s.setHandoffs (s.handoffs.eraseP (Handoff.isShaft k .driveStage))) k v
    exact same frame.active frame.channels frame.stations frame.reference
  | sensedLow n => rw [senseLow_frame]; exact same rfl rfl rfl rfl
  | sensedHigh n => rw [senseHigh_frame]; exact same rfl rfl rfl rfl
  | assertionEnded n => rw [endAssertion_frame]; exact same rfl rfl rfl rfl
  | applied => exact applyStaged_observed params sound
  | lockSet => rw [setLock_frame]; exact same rfl rfl rfl rfl
  | port | lineHeld | reportRefused | periodBegun | staged | discarded => exact same rfl rfl rfl rfl

/-- Settles O56: each effect keeps the channels, the stations and the reference sound under sound parameter sets. -/
theorem referenceStaysSound : Obligations.ReferenceStaysSound := by
  unfold Obligations.ReferenceStaysSound
  intro s t sound h
  rw [← observed_iff]
  refine (step_keeps (P := fun s => s.paramsSound ∧ s.observed) (fun s _ h => ?queue) (fun s t e h => ?effect)
    ⟨sound.params, (observed_iff s).2 ⟨sound.channels, sound.reference⟩⟩ h).2
  case queue => exact ⟨⟨h.1.active, h.1.staged, h.1.relations, h.1.frozen⟩, observed_of_same h.2 rfl rfl rfl rfl⟩
  case effect => exact ⟨e.paramsSound h.1, e.observed h.1 h.2⟩

end Sys2Proof.Machine
end

section
/-! The Drive Stage (chapter 8): what each of its operations makes of the records, and what it hands on. -/

namespace Sys2Proof.Machine

section
variable {s : State}

/-- What is handed to the trains that follow a train's wheel (R139). -/
def State.toFollowers (s : State) (k : Train) : List Handoff :=
  (allTrains.filter fun j => (s.params j).wheelSource = .follow ∧ (s.params j).leader = k).map (.drive · .leader)

theorem forEach_handOn {α : Type} (f : α → Handoff) (xs : List α) (s : State) :
    forEach xs (fun x s => s.handOn (f x)) s = s.setHandoffs (s.handoffs ++ xs.map f) := by
  induction xs generalizing s with
  | nil => exact (congrArg s.setHandoffs (List.append_nil _)).symm
  | cons x xs ih =>
    calc forEach (x :: xs) (fun x s => s.handOn (f x)) s
        = (s.handOn (f x)).setHandoffs ((s.handOn (f x)).handoffs ++ xs.map f) := ih _
      _ = s.setHandoffs (s.handoffs ++ (x :: xs).map f) := by
        rw [List.map_cons, List.append_cons]
        rfl

theorem handToFollowers_eq (s : State) (k : Train) (before : Nat) : s.handToFollowers k before =
    s.setHandoffs (s.handoffs ++ if (s.drive k).wheel.command = before then [] else s.toFollowers k) := by
  unfold State.handToFollowers
  split
  · rw [List.append_nil]
    rfl
  · exact forEach_handOn _ _ _

/-- A drive record as a recomputation leaves it (R134 to R141). -/
def State.recomputed (s : State) (k : Train) : DriveRec :=
  let d := s.drive k
  let hold := d.lockoutHold && s.keepsHold k
  let w := s.wheelCommand k hold (s.bandAfter k)
  { d with
    wheel := { d.wheel with command := w.1 }
    bypass := .jump (s.bypassCommand k)
    oa := .jump (s.oaCommand k)
    ramp := rampAfter d.ramp { d.wheel with command := w.1 }
    band := s.bandAfter k
    lockoutHold := hold
    frostCap := w.2 }

theorem recompute_eq (s : State) (k : Train) : s.recompute k = { s with
    drives := s.drives.set k (s.recomputed k)
    staleReads := s.staleReads + if s.readsStaleHold k then 1 else 0
    handoffs := s.handoffs ++
      if (s.recomputed k).wheel.command = (s.drive k).wheel.command then [] else s.toFollowers k } := by
  have self : ({ s with
      drives := s.drives.set k (s.recomputed k), staleReads := s.staleReads + if s.readsStaleHold k then 1 else 0 } : State).drive k =
      s.recomputed k := Vec.get_set_self _ _ _
  unfold State.recompute
  dsimp only
  rw [handToFollowers_eq]
  unfold State.setDrive
  rw [← State.recomputed.eq_1]
  simp only [self]
  rfl

theorem recompute_drive_self (s : State) (k : Train) : (s.recompute k).drive k = s.recomputed k := by
  rw [recompute_eq]
  exact Vec.get_set_self _ _ _

theorem recompute_drive_ne {j k : Train} (h : k ≠ j) (s : State) : (s.recompute k).drive j = s.drive j := by
  rw [recompute_eq]
  exact Vec.get_set_ne _ h _

theorem wheelZero_eq (s : State) (k : Train) (before : Nat) : s.wheelZero k before =
    if before ≠ 0 ∧ (s.drive k).wheel.effective = 0 then { s with
      drives := s.drives.set k { s.drive k with lockoutHold := true }
      handoffs := s.handoffs ++ [.wheelZero k] }
    else s := rfl

theorem formRequest_eq (s : State) (k : Train) : s.formRequest k =
    if economizerRequest (s.params k).oaMin (s.effective k).d = (s.drive k).lastRequest then s
    else { s with
      drives := s.drives.set k { s.drive k with lastRequest := economizerRequest (s.params k).oaMin (s.effective k).d }
      handoffs := s.handoffs ++ [.shaft k (.request (economizerRequest (s.params k).oaMin (s.effective k).d))] } := rfl

end

/-! Values within their ranges. -/

theorem effectiveOf_inRange {table : List DemandEntry} (h : ∀ e ∈ table, e.fields.inRange) : (effectiveOf table).inRange := by
  unfold effectiveOf effectiveEntry?
  split
  · next e found =>
    split at found
    · next e' first => cases found; exact h _ (List.mem_of_find?_eq_some first)
    · exact h _ (List.mem_of_head? found)
  · exact ⟨by decide, by decide, fun _ h => (Option.not_mem_none _ h).elim, fun _ h => (Option.not_mem_none _ h).elim⟩

theorem computedSpeed_le {p : TrainParams} {d : Int} (low : p.wsMin ≤ 1000) (high : p.wsMax ≤ 1000) (size : |d| ≤ 100) :
    computedSpeed p d ≤ 1000 := by
  have step : ((p.wsMax : Int) - p.wsMin) * |d| ≤ (1000 - p.wsMin) * 100 := by
    have := abs_nonneg d
    nlinarith
  have := roundDiv_le (by decide) step
  unfold computedSpeed
  omega

theorem economizerRequest_le {oaMin : Nat} {d : Int} (low : oaMin ≤ 1000) (size : -100 ≤ d) : economizerRequest oaMin d ≤ 1000 := by
  have step : (1000 - (oaMin : Int)) * max 0 (-d) ≤ (1000 - oaMin) * 100 := by
    have : max 0 (-d) ≤ 100 := max_le (by decide) (by omega)
    exact mul_le_mul_of_nonneg_left this (by omega)
  have := roundDiv_le (by decide) step
  unfold economizerRequest
  omega

theorem clampPermille_le_thousand (n : Nat) : clampPermille n ≤ 1000 := min_le_right _ _

theorem highCounts_le {v : Nat} (h : v ≤ 1000) (p : Polarity) : highCounts p v ≤ 1000 := by
  cases p
  · exact h
  · exact Nat.sub_le _ _

theorem rampStep_le {r : Nat} {w : OutputRec} (command : w.command ≤ 1000) (effective : w.effective ≤ 1000) : rampStep r w ≤ 1000 := by
  unfold rampStep
  split
  · exact (min_le_left _ _).trans command
  · exact max_le command ((Nat.sub_le _ _).trans effective)

/-- The hold values of the trains in HELD, in their ranges. -/
def State.holdsInRange (s : State) : Prop := ∀ k h, (s.train k).state = .held h → h.inRange

/-- What the commands of a train are drawn from besides the records of the Drive Stage and the hold values: the active set and the
demands, in their ranges. -/
structure State.supplied (s : State) : Prop where
  active : s.active.inRange
  demands : ∀ k, (s.effective k).inRange

section
variable {s : State}

theorem holdValues_inRange (holds : s.holdsInRange) (k : Train) : (s.holdValues k).inRange := by
  unfold State.holdValues
  split
  · exact holds k _ ‹_›
  · exact ⟨clampPermille_le_thousand _, clampPermille_le_thousand _, clampPermille_le_thousand _⟩

theorem sourceValue_le (supplied : s.supplied) (wheels : ∀ j, (s.drive j).wheel.command ≤ 1000) (k : Train) (band : Option BandLevel) :
    s.sourceValue k band ≤ 1000 := by
  obtain ⟨-, -, -, low, high, -⟩ := supplied.active.trains k
  obtain ⟨dLow, dHigh, fixed, -⟩ := supplied.demands k
  unfold State.sourceValue
  dsimp only
  split
  · exact computedSpeed_le low high (abs_le.2 ⟨dLow, dHigh⟩)
  · split
    · exact high
    · exact low
  · cases speed : (s.effective k).fixedSpeed with
    | none => exact low
    | some v => exact fixed v speed
  · exact wheels _

theorem wheelCommand_le (supplied : s.supplied) (holds : s.holdsInRange) (drives : ∀ j, (s.drive j).wheel.command ≤ 1000)
    (posture : ∀ v ∈ (s.drive k).posture, v.inRange) (hold : Bool) (band : Option BandLevel) :
    (s.wheelCommand k hold band).1 ≤ 1000 := by
  unfold State.wheelCommand
  dsimp only
  split
  · exact (posture _ ‹_›).1
  · split
    · exact Nat.zero_le _
    · split
      · exact Nat.zero_le _
      · exact drives k
      · exact (holdValues_inRange holds k).1
      · split
        · exact (min_le_left _ _).trans (sourceValue_le supplied drives k band)
        · exact sourceValue_le supplied drives k band

theorem bypassCommand_le (holds : s.holdsInRange) (sound : (s.drive k).sound) : s.bypassCommand k ≤ 1000 := by
  unfold State.bypassCommand
  dsimp only
  split
  · exact (sound.posture _ ‹_›).2.1
  · split
    · exact Nat.zero_le _
    · exact le_rfl
    · exact (holdValues_inRange holds k).2.1
    · exact sound.bypass.1

theorem oaCommand_le (holds : s.holdsInRange) (sound : (s.drive k).sound) : s.oaCommand k ≤ 1000 := by
  have granted : (s.drive k).grant.getD (s.drive k).oa.command ≤ 1000 := by
    cases grant : (s.drive k).grant with
    | none => exact sound.oa.1
    | some g => exact sound.grant g grant
  unfold State.oaCommand
  dsimp only
  split
  · exact (sound.posture _ ‹_›).2.2
  · split
    · exact Nat.zero_le _
    · exact granted
    · exact granted
    · exact (holdValues_inRange holds k).2.2
    · exact sound.oa.1

theorem rampAfter_isSome (t : Timer) (w : OutputRec) : (rampAfter t w).isSome = true ↔ w.effective ≠ w.command := by
  unfold rampAfter
  split
  · next same => exact iff_of_false Bool.false_ne_true (not_not.2 same)
  · next apart => cases t <;> exact iff_of_true rfl apart

/-- The record of a recomputation is sound, whatever the ramp timer was. -/
theorem recomputed_sound (supplied : s.supplied) (holds : s.holdsInRange) (drives : ∀ j, (s.drive j).sound) (k : Train) : (s.recomputed k).sound where
  wheel := ⟨wheelCommand_le supplied holds (fun j => (drives j).wheel.1) (drives k).posture _ _, (drives k).wheel.2⟩
  bypass := ⟨bypassCommand_le holds (drives k), rfl⟩
  oa := ⟨oaCommand_le holds (drives k), rfl⟩
  ramp := rampAfter_isSome _ _
  grant := (drives k).grant
  posture := (drives k).posture
  request := (drives k).request

end

end Sys2Proof.Machine
end

section
/-! The Train Sequencer (chapter 6) and its slots: every operation is a run of small moves, which change train records, shaft records, raises
of MODE_CHANGED and hand-offs of bases, and which take no train into SAFE or HELD or out of it. -/

namespace Sys2Proof.Machine

/-- Whether a train is in a steady mode or in CHANGEOVER. -/
def TrainState.underway : TrainState → Bool
  | .steady _ | .changeover _ => true
  | .safe | .held _ => false

/-- A change of a train's state that is no entry to SAFE or HELD and no exit from it. -/
def StaysUnderway (a b : TrainState) : Prop := b = a ∨ a.underway = true ∧ b.underway = true

/-- The hand-offs of the Train Sequencer. -/
def Handoff.ofSequencer : Handoff → Bool
  | .drive _ o => o.source = .sequencer
  | .shaft _ n => n.source = .sequencer
  | _ => false

/-- One move of the Train Sequencer. -/
inductive SequencerMove : State → State → Prop
  | train (s : State) (k : Train) (x : TrainRec) (stays : StaysUnderway (s.train k).state x.state) : SequencerMove s (s.setTrain k x)
  | shaft (s : State) (h : Shaft) (x : ShaftRec) : SequencerMove s (s.setShaft h x)
  | raised (s : State) (k : Train) : SequencerMove s (s.raise (.modeChanged k))
  | handedOn (s : State) (x : Handoff) (own : x.ofSequencer = true) : SequencerMove s (s.handOn x)

/-- Moves one after another. -/
abbrev SequencerMoves : State → State → Prop := Relation.ReflTransGen SequencerMove

section
variable {s t u : State} {k : Train}

theorem SequencerMove.run (h : SequencerMove s t) : SequencerMoves s t := .single h

theorem StaysUnderway.refl (a : TrainState) : StaysUnderway a a := .inl rfl

/-- A change of a train record that is no change of its state. -/
theorem setTrain_moves {x : TrainRec} (same : x.state = (s.train k).state) : SequencerMoves s (s.setTrain k x) :=
  (SequencerMove.train s k x (.inl same)).run

theorem setBases_moves (s : State) (k : Train) (b : Bases) : SequencerMoves s (s.setBases k b) :=
  setTrain_moves rfl

theorem setDwell_moves (s : State) (k : Train) (d : Timer) : SequencerMoves s (s.setDwell k d) :=
  setTrain_moves rfl

theorem setWaiting_moves (s : State) (k : Train) (w : Option Mode) : SequencerMoves s (s.setWaiting k w) :=
  setTrain_moves rfl

theorem setPendingForce_moves (s : State) (k : Train) (b : Bool) : SequencerMoves s (s.setPendingForce k b) :=
  setTrain_moves rfl

theorem setShaft_moves (s : State) (h : Shaft) (x : ShaftRec) : SequencerMoves s (s.setShaft h x) := (SequencerMove.shaft s h x).run

theorem handOn_moves {x : Handoff} (own : x.ofSequencer = true) (s : State) : SequencerMoves s (s.handOn x) :=
  (SequencerMove.handedOn s x own).run

/-- A change of state that stays underway. -/
theorem enterState_moves {st : TrainState} (stays : StaysUnderway (s.train k).state st) : SequencerMoves s (s.enterState k st) :=
  .tail (SequencerMove.train s k { s.train k with
    state := st
    touched := { (s.train k).touched with standing := (s.train k).touched.standing || st.allocated != (s.train k).state.allocated } }
    stays).run (.raised _ k)

theorem SequencerMove.stays (h : SequencerMove s t) (j : Train) : StaysUnderway (s.train j).state (t.train j).state := by
  cases h with
  | train k x stays =>
    rw [setTrain_train]
    split
    · next same => rwa [← same]
    · exact .refl _
  | shaft | raised | handedOn => exact .refl _

/-- Moves take no train into SAFE or HELD and none out of it. -/
theorem SequencerMoves.stays (h : SequencerMoves s t) (j : Train) : StaysUnderway (s.train j).state (t.train j).state := by
  induction h with
  | refl => exact .refl _
  | tail _ last ih =>
    rcases last.stays j with same | ⟨now, later⟩
    · rw [same]; exact ih
    · rcases ih with same | ⟨before, -⟩
      · exact .inr ⟨same ▸ now, later⟩
      · exact .inr ⟨before, later⟩

theorem SequencerMoves.underway (h : SequencerMoves s t) (j : Train) : (t.train j).state.underway = (s.train j).state.underway := by
  rcases h.stays j with same | ⟨before, after⟩
  · rw [same]
  · rw [before, after]

/-- The moves change no record but those of trains and shafts. -/
theorem SequencerMoves.frame (h : SequencerMoves s t) :
    t = { s with trains := t.trains, shafts := t.shafts, raised := t.raised, handoffs := t.handoffs } := by
  induction h with
  | refl => rfl
  | tail _ last ih =>
    cases last <;> rw [ih] <;> rfl

theorem enterSteady_moves (underway : (s.train k).state.underway = true) (m : Mode) : SequencerMoves s (s.enterSteady k m) :=
  ((enterState_moves (.inr ⟨underway, rfl⟩)).trans (setBases_moves _ k _)).trans (setDwell_moves _ k _)

theorem leaveWaitList_moves (s : State) (k : Train) : SequencerMoves s (s.leaveWaitList k) := setShaft_moves _ _ _

theorem dropWaiting_moves (s : State) (k : Train) : SequencerMoves s (s.dropWaiting k) :=
  (setWaiting_moves s k _).trans (leaveWaitList_moves _ k)

theorem replaceWaiting_moves (s : State) (k : Train) (m : Mode) : SequencerMoves s (s.replaceWaiting k m) :=
  (setWaiting_moves s k _).trans (setShaft_moves _ _ _)

theorem joinWaitList_moves (s : State) (k : Train) (m : Mode) : SequencerMoves s (s.joinWaitList k m) :=
  (setWaiting_moves s k _).trans (setShaft_moves _ _ _)

theorem runSteps_moves (k : Train) (target : Mode) (steps : List Step) (i : Nat) (s : State) :
    SequencerMoves s (State.runSteps k target steps i s).1 := by
  induction steps generalizing i s with
  | nil => exact .refl
  | cons st rest ih =>
    have begun := setBases_moves s k (beginBasis target (s.train k).bases st)
    unfold State.runSteps
    dsimp only
    split
    · split
      · exact begun
      · exact (begun.trans (setBases_moves _ k _)).trans (ih _ _)
    · split
      · exact begun
      · split
        · exact begun.trans (ih _ _)
        · exact begun
    · split
      · exact begun.trans (ih _ _)
      · exact begun

theorem proceed_moves (underway : (s.train k).state.underway = true) (r : Changeover) (i : Nat) :
    SequencerMoves s (s.proceed k r i).1 := by
  have ran := runSteps_moves k r.target (r.steps.drop (i - 1)) i s
  unfold State.proceed
  dsimp only
  split
  · exact ran
  · exact ran.tail (.train _ k _ (.inr ⟨(ran.underway k).trans underway, rfl⟩))

theorem startChangeover_moves (underway : (s.train k).state.underway = true) (source target : Mode) :
    SequencerMoves s (s.startChangeover k source target).1 := by
  have begun : SequencerMoves s (((s.enterState k (.changeover ⟨source, target, stepList source target, 1, .timing, none⟩)).setPendingForce
      k false).setDwell k none) :=
    ((enterState_moves (.inr ⟨underway, rfl⟩)).trans (setPendingForce_moves _ k _)).trans (setDwell_moves _ k _)
  exact begun.trans (proceed_moves ((begun.underway k).trans underway) _ _)

theorem addHolder_moves (s : State) (h : Shaft) (k : Train) : SequencerMoves s (s.addHolder h k) := setShaft_moves _ _ _

theorem dropHolder_moves (s : State) (h : Shaft) (k : Train) : SequencerMoves s (s.dropHolder h k) := setShaft_moves _ _ _

theorem underway_of_steady {st : TrainState} {m : Mode} (h : st.steady? = some m) : st.underway = true := by
  cases st <;> first | rfl | cases h

theorem grantHead_moves (s : State) (h : Shaft) (e : WaitEntry) (rest : List WaitEntry) : SequencerMoves s (s.grantHead h e rest).1 := by
  have granted := ((setShaft_moves s h { s.shaft h with waitList := rest }).trans (addHolder_moves _ h e.train)).trans
    (setWaiting_moves _ e.train none)
  unfold State.grantHead
  dsimp only
  split
  · exact granted
  · next m steady =>
    have underway := underway_of_steady steady
    have started := startChangeover_moves underway m e.target
    split
    · exact ((granted.trans started).trans (enterSteady_moves ((started.underway _).trans underway) _)).trans (dropHolder_moves _ h _)
    · exact granted.trans started

theorem grantChain_moves (n : Nat) (h : Shaft) (s : State) : SequencerMoves s (State.grantChain n h s) := by
  induction n generalizing s with
  | zero => exact .refl
  | succ n ih =>
    unfold State.grantChain
    split
    · exact .refl
    · dsimp only
      split
      · exact (grantHead_moves s h _ _).trans (ih _)
      · exact grantHead_moves s h _ _

theorem releaseSlot_moves (s : State) (k : Train) : SequencerMoves s (s.releaseSlot k) :=
  (dropHolder_moves s _ k).trans (grantChain_moves _ _ _)

theorem handOut_moves (n : Nat) (h : Shaft) (s : State) : SequencerMoves s (State.handOut n h s) := by
  induction n generalizing s with
  | zero => exact .refl
  | succ n ih =>
    unfold State.handOut
    split
    · exact .refl
    · split
      · exact (grantHead_moves s h _ _).trans (ih _)
      · exact .refl

theorem applyLimit_moves (old : Params) (h : Shaft) (s : State) : SequencerMoves s (State.applyLimit old h s) := by
  unfold State.applyLimit
  split
  · exact handOut_moves _ _ _
  · exact .refl

theorem complete_moves (underway : (s.train k).state.underway = true) (target : Mode) : SequencerMoves s (s.complete k target) := by
  have entered := (enterSteady_moves underway target).trans (setPendingForce_moves _ k false)
  have still := (SequencerMoves.underway entered k).trans underway
  unfold State.complete
  dsimp only
  split
  · split
    · exact entered.trans (releaseSlot_moves _ k)
    · split
      · exact (entered.trans (enterSteady_moves still _)).trans (releaseSlot_moves _ k)
      · have started := startChangeover_moves still target ‹Mode›
        split
        · exact ((entered.trans started).trans (enterSteady_moves ((started.underway k).trans still) _)).trans (releaseSlot_moves _ k)
        · exact entered.trans started
  · exact entered.trans (releaseSlot_moves _ k)

theorem completeStep_moves (underway : (s.train k).state.underway = true) (r : Changeover) : SequencerMoves s (s.completeStep k r) := by
  have proceeded := proceed_moves underway r (r.index + 1)
  unfold State.completeStep
  dsimp only
  split
  · exact proceeded.trans (complete_moves ((proceeded.underway k).trans underway) _)
  · exact proceeded

theorem handOnBases_moves (k : Train) (s : State) : SequencerMoves s (State.handOnBases k s) := by
  have bases : SequencerMoves s (if (s.train k).touched.bases then s.handOn (.drive k (.bases (s.train k).bases)) else s) := by
    split
    · exact handOn_moves rfl s
    · exact .refl
  have standing : SequencerMoves s
      (if (s.train k).touched.oa || (s.train k).touched.standing then
        (if (s.train k).touched.bases then s.handOn (.drive k (.bases (s.train k).bases)) else s).handOn
          (.shaft k (.basis (s.train k).bases.oa (s.train k).state.allocated))
      else if (s.train k).touched.bases then s.handOn (.drive k (.bases (s.train k).bases)) else s) := by
    split
    · exact bases.trans (handOn_moves rfl _)
    · exact bases
  refine standing.tail (.train _ k _ (.inl ?_))
  split <;> split <;> rfl

theorem endEvent_moves (s : State) : SequencerMoves s s.endEvent :=
  forEach_induct (P := SequencerMoves s) (fun k _ _ moves => moves.trans (handOnBases_moves k _)) .refl

theorem requestSlot_moves (underway : (s.train k).state.underway = true) (m target : Mode) :
    SequencerMoves s (s.requestSlot k m target) := by
  unfold State.requestSlot
  dsimp only
  split
  · split
    · exact .refl
    · exact replaceWaiting_moves s k target
  · split
    · have started := startChangeover_moves (s := s.addHolder (s.shaftOf k) k) underway m target
      have held := addHolder_moves s (s.shaftOf k) k
      split
      · exact ((held.trans started).trans (enterSteady_moves ((started.underway k).trans underway) _)).trans (releaseSlot_moves _ k)
      · exact held.trans started
    · exact joinWaitList_moves s k target

theorem decideSteady_moves (underway : (s.train k).state.underway = true) (m target : Mode) (force : Bool) :
    SequencerMoves s (s.decideSteady k m target force) := by
  have dropped := dropWaiting_moves s k
  have left (m : Mode) := dropped.trans (enterSteady_moves ((dropped.underway k).trans underway) m)
  have idle : SequencerMoves s (if (s.train k).waiting.isSome then s.dropWaiting k else s) := by
    split
    · exact dropped
    · exact .refl
  unfold State.decideSteady
  dsimp only
  split_ifs
  · exact dropped
  · exact .refl
  · exact left _
  · exact dropped
  · exact .refl
  · exact left _
  · exact requestSlot_moves underway m target

theorem decideChangeover_moves (underway : (s.train k).state.underway = true) (r : Changeover) (target : Mode) (force : Bool) :
    SequencerMoves s (s.decideChangeover k r target force) := by
  unfold State.decideChangeover
  split_ifs
  · exact ((enterSteady_moves underway _).trans (setPendingForce_moves _ k _)).trans (releaseSlot_moves _ k)
  · exact setPendingForce_moves s k true
  · exact .refl

theorem decideTarget_moves (s : State) (k : Train) : SequencerMoves s (s.decideTarget k) := by
  unfold State.decideTarget
  split
  · exact .refl
  · split
    · next steady => exact decideSteady_moves (by rw [steady]; rfl) _ _ _
    · next changeover => exact decideChangeover_moves (by rw [changeover]; rfl) _ _ _
    · exact .refl
    · exact .refl

theorem startLockout_moves (s : State) (k : Train) : SequencerMoves s (s.startLockout k) := by
  unfold State.startLockout
  dsimp only
  have timed : SequencerMoves s (s.setTrain k { s.train k with lockout := startTimer (s.params k).restartLockout }) := setTrain_moves rfl
  refine timed.trans (handOn_moves ?_ _)
  split <;> rfl

theorem wheelAtRest_moves (s : State) (k : Train) : SequencerMoves s (s.wheelAtRest k) := by
  unfold State.wheelAtRest
  split
  · next changeover =>
    have underway : (s.train k).state.underway = true := by rw [changeover]; rfl
    split
    · split
      · exact completeStep_moves underway _
      · exact (SequencerMove.train s k _ (.inr ⟨underway, rfl⟩)).run
    · exact .refl
  · exact .refl

theorem endLockout_moves (s : State) (k : Train) : SequencerMoves s (s.endLockout k) := by
  have stopped : SequencerMoves s ((s.setTrain k { s.train k with lockout := none }).handOn (.drive k (.lockoutExpiry false))) :=
    have timed : SequencerMoves s (s.setTrain k { s.train k with lockout := none }) := setTrain_moves rfl
    timed.trans (handOn_moves rfl _)
  unfold State.endLockout
  dsimp only
  split
  · next changeover =>
    have bases := setBases_moves ((s.setTrain k { s.train k with lockout := none }).handOn (.drive k (.lockoutExpiry false))) k
    split
    · exact (stopped.trans (bases _)).trans (completeStep_moves (((bases _).underway k).trans (by rw [changeover]; rfl)) _)
    · exact stopped
  · exact stopped

end

/-! Entries to SAFE and HELD and exits from them. -/

/-- A train's state set, between moves. -/
def MovesThrough (k : Train) (st : TrainState) (s t : State) : Prop :=
  ∃ u x, SequencerMoves s u ∧ x.state = st ∧ SequencerMoves (u.setTrain k x) t

section
variable {s t : State} {k : Train} {st : TrainState}

/-- What moves and the change of state keep, the whole event keeps. -/
theorem MovesThrough.keep {P : State → Prop} (h : MovesThrough k st s t) (moves : ∀ u v, SequencerMoves u v → P u → P v)
    (entered : ∀ u x, x.state = st → P u → P (u.setTrain k x)) (start : P s) : P t := by
  obtain ⟨u, x, before, state, after⟩ := h
  exact moves _ _ after (entered _ _ state (moves _ _ before start))

theorem MovesThrough.tail {u : State} (h : MovesThrough k st s t) (moves : SequencerMoves t u) : MovesThrough k st s u := by
  obtain ⟨v, x, before, state, after⟩ := h
  exact ⟨v, x, before, state, after.trans moves⟩

theorem MovesThrough.head {u : State} (h : MovesThrough k st t u) (moves : SequencerMoves s t) : MovesThrough k st s u := by
  obtain ⟨v, x, before, state, after⟩ := h
  exact ⟨v, x, moves.trans before, state, after⟩

theorem enterState_through (s : State) (k : Train) (st : TrainState) : MovesThrough k st s (s.enterState k st) :=
  ⟨s, { s.train k with
    state := st
    touched := { (s.train k).touched with standing := (s.train k).touched.standing || st.allocated != (s.train k).state.allocated } },
    .refl, rfl, (SequencerMove.raised _ k).run⟩

theorem enterSteady_through (s : State) (k : Train) (m : Mode) : MovesThrough k (.steady m) s (s.enterSteady k m) :=
  ((enterState_through s k _).tail (setBases_moves _ k _)).tail (setDwell_moves _ k _)

theorem takeOver_through (s : State) (k : Train) (st : TrainState) (b : Bases) : MovesThrough k st s (s.takeOver k st b) := by
  have entered (s : State) : MovesThrough k st s (((s.enterState k st).setBases k b).setDwell k none) :=
    ((enterState_through s k st).tail (setBases_moves _ k _)).tail (setDwell_moves _ k _)
  unfold State.takeOver
  dsimp only
  split
  · exact ((entered s).tail (setPendingForce_moves _ k _)).tail (releaseSlot_moves _ k)
  · exact (entered _).head (dropWaiting_moves s k)
  · exact entered s
  · exact entered s

theorem enterHeld_through (s : State) (k : Train) (h : OutputValues) : MovesThrough k (.held h) s (s.enterHeld k h) := by
  unfold State.enterHeld
  split
  · exact ⟨s, { s.train k with state := .held h }, .refl, rfl, (setBases_moves _ k _).trans (handOn_moves rfl _)⟩
  · exact takeOver_through s k _ _

/-- The state of the train at the end of the event. -/
theorem MovesThrough.state_self (h : MovesThrough k st s t) : StaysUnderway st (t.train k).state := by
  obtain ⟨u, x, before, state, after⟩ := h
  have stays := after.stays k
  rwa [setTrain_train_self, state] at stays

theorem MovesThrough.state_ne (h : MovesThrough k st s t) {j : Train} (ne : k ≠ j) : StaysUnderway (s.train j).state (t.train j).state := by
  obtain ⟨u, x, before, state, after⟩ := h
  have later := after.stays j
  rw [setTrain_train, if_neg ne] at later
  rcases later with same | ⟨now, later⟩
  · rw [same]; exact before.stays j
  · rw [before.underway j] at now
    exact .inr ⟨now, later⟩

end

end Sys2Proof.Machine
end

section
/-! The outputs (chapter 8) at every step. -/

namespace Sys2Proof.Machine

section
variable {s t : State}

theorem supplied_of_same (supplied : s.supplied) (active : t.active = s.active) (demands : t.demands = s.demands) : t.supplied where
  active := by rw [active]; exact supplied.active
  demands k := by
    rw [State.effective, State.demand, demands]
    exact supplied.demands k

theorem supplied_setHandoffs (supplied : s.supplied) (xs : List Handoff) : (s.setHandoffs xs).supplied := supplied_of_same supplied rfl rfl

theorem supplied_of_demands (active : s.active.inRange) (demands : ∀ k, ∀ e ∈ s.demand k, e.fields.inRange) : s.supplied where
  active := active
  demands k := effectiveOf_inRange (demands k)

theorem outputsSound_of_same (sound : s.outputsSound) (drives : t.drives = s.drives) (pwm : t.pwm = s.pwm)
    (handoffs : t.handoffs = s.handoffs) (shares : t.shares = s.shares) (trains : t.trains = s.trains) : t.outputsSound where
  drives k := by rw [State.drive, drives]; exact sound.drives k
  pwm o := by rw [pwm]; exact sound.pwm o
  handoffs x hx := sound.handoffs x (handoffs ▸ hx)
  shares k := by rw [State.share, shares]; exact sound.shares k
  holds k h held := sound.holds k h (by rw [State.train, ← trains]; exact held)

/-- A change of the hand-offs to others in range. -/
theorem outputsSound_of_handoffs (sound : s.outputsSound) (drives : t.drives = s.drives) (pwm : t.pwm = s.pwm)
    (shares : t.shares = s.shares) (trains : t.trains = s.trains) (handoffs : ∀ x ∈ t.handoffs, x ∈ s.handoffs ∨ x.inRange) :
    t.outputsSound where
  drives k := by rw [State.drive, drives]; exact sound.drives k
  pwm o := by rw [pwm]; exact sound.pwm o
  handoffs x hx := (handoffs x hx).elim (sound.handoffs x) id
  shares k := by rw [State.share, shares]; exact sound.shares k
  holds k h held := sound.holds k h (by rw [State.train, ← trains]; exact held)

theorem outputsSound_setHandoffs (sound : s.outputsSound) {xs : List Handoff} (sub : xs ⊆ s.handoffs) : (s.setHandoffs xs).outputsSound :=
  outputsSound_of_handoffs sound rfl rfl rfl rfl fun _ hx => .inl (sub hx)

theorem outputsSound_handOn (sound : s.outputsSound) {x : Handoff} (inRange : x.inRange) : (s.handOn x).outputsSound :=
  outputsSound_of_handoffs sound rfl rfl rfl rfl fun y hy => (List.mem_append.1 hy).imp_right fun h => by
    rw [List.mem_singleton.1 h]; exact inRange

theorem outputsSound_setDrive (sound : s.outputsSound) {k : Train} {d : DriveRec} (new : d.sound) : (s.setDrive k d).outputsSound where
  drives j := by
    rw [setDrive_drive]
    split
    · exact new
    · exact sound.drives j
  pwm := sound.pwm
  handoffs := sound.handoffs
  shares := sound.shares
  holds := sound.holds

theorem outputsSound_setShare (sound : s.outputsSound) {k : Train} {x : AllocEntry} (request : x.request ≤ 1000)
    (grant : ∀ g ∈ x.share, g.grant ≤ 1000) : (s.setShare k x).outputsSound where
  drives := sound.drives
  pwm := sound.pwm
  handoffs := sound.handoffs
  shares j := by
    rw [setShare_share]
    split
    · exact ⟨request, grant⟩
    · exact sound.shares j
  holds := sound.holds

theorem outputsSound_setRaised (sound : s.outputsSound) (xs : List Raise) : (s.setRaised xs).outputsSound :=
  outputsSound_of_same sound rfl rfl rfl rfl rfl

/-- A train record whose hold values, if it has any, are in range. -/
theorem outputsSound_setTrain (sound : s.outputsSound) {k : Train} {x : TrainRec} (held : ∀ h, x.state = .held h → h.inRange) :
    (s.setTrain k x).outputsSound where
  drives := sound.drives
  pwm := sound.pwm
  handoffs := sound.handoffs
  shares := sound.shares
  holds j h state := by
    rw [setTrain_train] at state
    split at state
    · exact held h state
    · exact sound.holds j h state

/-! The Train Sequencer. -/

theorem inRange_of_ofSequencer {x : Handoff} (own : x.ofSequencer = true) : x.inRange := by
  unfold Handoff.ofSequencer at own
  split at own
  · next o =>
    cases o
    case grant => cases own
    all_goals trivial
  · next n =>
    cases n
    case request => cases own
    case basis => trivial
  · cases own

theorem held_of_stays {a : TrainState} {h : OutputValues} (stays : StaysUnderway a (.held h)) : a = .held h := by
  rcases stays with same | ⟨-, underway⟩
  · exact same.symm
  · cases underway

theorem SequencerMove.outputsSound (h : SequencerMove s t) (sound : s.outputsSound) : t.outputsSound := by
  cases h with
  | train k x stays => exact outputsSound_setTrain sound fun h held => sound.holds k h (held_of_stays (held ▸ stays))
  | shaft h x => exact outputsSound_of_same sound rfl rfl rfl rfl rfl
  | raised k => exact outputsSound_of_same sound rfl rfl rfl rfl rfl
  | handedOn x own => exact outputsSound_handOn sound (inRange_of_ofSequencer own)

theorem SequencerMoves.outputsSound (h : SequencerMoves s t) (sound : s.outputsSound) : t.outputsSound := by
  induction h with
  | refl => exact sound
  | tail _ last ih => exact last.outputsSound ih

theorem MovesThrough.outputsSound {k : Train} {st : TrainState} (h : MovesThrough k st s t)
    (held : ∀ h, st = .held h → h.inRange) (sound : s.outputsSound) : t.outputsSound :=
  h.keep (fun _ _ => SequencerMoves.outputsSound) (fun _ _ state sound => outputsSound_setTrain sound fun h e => held h (state ▸ e)) sound

theorem enterSafe_outputsSound (sound : s.outputsSound) (k : Train) : (s.enterSafe k).outputsSound := by
  unfold State.enterSafe
  split
  · exact sound
  · exact outputsSound_setRaised ((takeOver_through s k _ _).outputsSound (fun h e => TrainState.noConfusion e) sound) _

theorem leaveSafe_outputsSound (sound : s.outputsSound) (k : Train) : (s.leaveSafe k).outputsSound := by
  unfold State.leaveSafe
  split
  · exact outputsSound_setRaised ((enterSteady_through s k _).outputsSound (fun h e => TrainState.noConfusion e) sound) _
  · exact sound

theorem leaveHeld_outputsSound (sound : s.outputsSound) (k : Train) : (s.leaveHeld k).outputsSound := by
  unfold State.leaveHeld
  split
  · exact (enterSteady_through s k _).outputsSound (fun h e => TrainState.noConfusion e) sound
  · exact sound

theorem endEvent_outputsSound (sound : s.outputsSound) : s.endEvent.outputsSound := (endEvent_moves s).outputsSound sound

/-! The Drive Stage. -/

theorem toFollowers_inRange {k : Train} {x : Handoff} (h : x ∈ s.toFollowers k) : x.inRange := by
  obtain ⟨j, -, rfl⟩ := List.mem_map.1 h
  trivial

theorem recompute_outputsSound (supplied : s.supplied) (sound : s.outputsSound) (k : Train) : (s.recompute k).outputsSound := by
  rw [recompute_eq]
  refine outputsSound_of_handoffs (outputsSound_setDrive sound (recomputed_sound supplied sound.holds sound.drives k))
    rfl rfl rfl rfl fun x hx => ?_
  refine (List.mem_append.1 hx).imp_right fun told => ?_
  split at told
  · cases told
  · exact toFollowers_inRange told

theorem formRequest_outputsSound (supplied : s.supplied) (sound : s.outputsSound) (k : Train) : (s.formRequest k).outputsSound := by
  obtain ⟨-, -, -, -, -, -, -, -, -, -, oaMin, -⟩ := supplied.active.trains k
  have request := economizerRequest_le oaMin (supplied.demands k).1
  have old := sound.drives k
  unfold State.formRequest
  dsimp only
  split
  · exact sound
  · refine outputsSound_handOn (outputsSound_setDrive sound ?_) request
    exact ⟨old.wheel, old.bypass, old.oa, old.ramp, old.grant, old.posture, request⟩

theorem store_outputsSound (supplied : s.supplied) (sound : s.outputsSound) {k : Train} {o : Occasion}
    (inRange : (Handoff.drive k o).inRange) : (s.store k o).outputsSound := by
  have old := sound.drives k
  cases o with
  | bases b =>
    refine outputsSound_setDrive sound ⟨old.wheel, old.bypass, old.oa, old.ramp, fun g hg => ?_, old.posture, old.request⟩
    cases oa : b.oa <;> rw [oa] at hg
    case min | econ => exact old.grant g hg
    all_goals cases hg
  | grant g =>
    exact outputsSound_setDrive sound ⟨old.wheel, old.bypass, old.oa, old.ramp, fun g' hg => by cases hg; exact inRange, old.posture, old.request⟩
  | demand => exact formRequest_outputsSound supplied sound k
  | record | lockoutStart | lockoutExpiry | holdValues | leader => exact sound

theorem wheelZero_outputsSound (sound : s.outputsSound) (k : Train) (before : Nat) : (s.wheelZero k before).outputsSound := by
  have old := sound.drives k
  unfold State.wheelZero
  split
  · refine outputsSound_handOn (x := .wheelZero k) (outputsSound_setDrive sound ?_) trivial
    exact ⟨old.wheel, old.bypass, old.oa, old.ramp, old.grant, old.posture, old.request⟩
  · exact sound

theorem ramp_outputsSound (sound : s.outputsSound) (k : Train) : (s.ramp k).outputsSound := by
  have old := sound.drives k
  refine wheelZero_outputsSound (outputsSound_setDrive sound ?_) k _
  refine ⟨⟨old.wheel.1, rampStep_le old.wheel.1 old.wheel.2⟩, old.bypass, old.oa, ?_, old.grant, old.posture, old.request⟩
  dsimp only
  split
  · next reached => exact iff_of_false Bool.false_ne_true (not_not.2 reached)
  · next apart => exact iff_of_true rfl apart

theorem stopRamp_outputsSound (sound : s.outputsSound) (k : Train) : (s.stopRamp k).outputsSound := by
  have old := sound.drives k
  refine outputsSound_setDrive sound ?_
  exact ⟨⟨old.wheel.1, old.wheel.1⟩, old.bypass, old.oa, iff_of_false Bool.false_ne_true (not_not.2 rfl),
    old.grant, old.posture, old.request⟩

theorem applyPosture_outputsSound (supplied : s.supplied) (sound : s.outputsSound) {v : OutputValues} (inRange : v.inRange) (k : Train) :
    (s.applyPosture k v).outputsSound := by
  have old := sound.drives k
  have posed : (s.setDrive k { s.drive k with posture := some v }).outputsSound := by
    refine outputsSound_setDrive sound ?_
    exact ⟨old.wheel, old.bypass, old.oa, old.ramp, old.grant, fun w hw => by cases hw; exact inRange, old.request⟩
  have supplied' : (s.setDrive k { s.drive k with posture := some v }).supplied := supplied_of_same supplied rfl rfl
  exact wheelZero_outputsSound (stopRamp_outputsSound (recompute_outputsSound supplied' posed k) k) k _

theorem endPosture_outputsSound (supplied : s.supplied) (sound : s.outputsSound) (k : Train) : (s.endPosture k).outputsSound := by
  have old := sound.drives k
  have freed : (s.setDrive k { s.drive k with posture := none }).outputsSound := by
    refine outputsSound_setDrive sound ?_
    exact ⟨old.wheel, old.bypass, old.oa, old.ramp, old.grant, fun w hw => (Option.not_mem_none _ hw).elim, old.request⟩
  exact recompute_outputsSound (supplied_of_same supplied rfl rfl : (s.setDrive k _).supplied) freed k

theorem takePosture_outputsSound (supplied : s.supplied) (sound : s.outputsSound) {x : Handoff} (inRange : x.inRange) :
    (State.takePosture x s).outputsSound := by
  unfold State.takePosture
  split
  · exact endEvent_outputsSound (enterSafe_outputsSound sound _)
  · exact endEvent_outputsSound (leaveSafe_outputsSound sound _)
  · exact applyPosture_outputsSound supplied sound inRange _
  · exact endPosture_outputsSound supplied sound _
  · exact sound

theorem completePostures_outputsSound (supplied : s.supplied) (sound : s.outputsSound) : s.completePostures.outputsSound := by
  refine (forEach_induct (P := fun u => u.supplied ∧ u.outputsSound) (fun x hx u hu => ⟨?_, ?_⟩) ⟨?_, ?_⟩).2
  · have same := takePosture_same x u
    exact supplied_of_same hu.1 same.active same.demands
  · exact takePosture_outputsSound hu.1 hu.2 (sound.handoffs x (List.mem_filter.1 hx).1)
  · exact supplied_of_same supplied rfl rfl
  · exact outputsSound_setHandoffs sound (List.filter_sublist).subset

theorem TrainEvent.outputsSound (h : TrainEvent s t) (supplied : s.supplied) (sound : s.outputsSound) : t.outputsSound := by
  cases h with
  | handoffTaken p => exact outputsSound_setHandoffs sound List.eraseP_subset
  | decided k => exact endEvent_outputsSound ((decideTarget_moves s k).outputsSound sound)
  | dwellEnded k => exact (setDwell_moves s k none).outputsSound sound
  | stepEnded k r state =>
    exact endEvent_outputsSound ((completeStep_moves (by rw [state]; rfl) r).outputsSound sound)
  | wheelStopped k =>
    exact endEvent_outputsSound ((wheelAtRest_moves _ k).outputsSound ((startLockout_moves s k).outputsSound sound))
  | lockoutEnded k => exact endEvent_outputsSound ((endLockout_moves s k).outputsSound sound)
  | heldAt k h _ inRange =>
    exact endEvent_outputsSound ((enterHeld_through s k h).outputsSound (fun h e => by cases e; exact inRange) sound)
  | released k => exact endEvent_outputsSound (leaveHeld_outputsSound sound k)
  | postureTaken x p k _ found =>
    have taken : (s.setHandoffs (s.handoffs.eraseP p)).supplied := supplied_of_same supplied rfl rfl
    exact takePosture_outputsSound taken (outputsSound_setHandoffs sound List.eraseP_subset)
      (sound.handoffs x (List.mem_of_find?_eq_some found))
  | posturesCompleted => exact completePostures_outputsSound supplied sound
  | commanded k src o found =>
    have taken : (s.setHandoffs (s.handoffs.eraseP (Handoff.isDrive k src))).supplied := supplied_of_same supplied rfl rfl
    have sound' : (s.setHandoffs (s.handoffs.eraseP (Handoff.isDrive k src))).outputsSound :=
      outputsSound_setHandoffs sound List.eraseP_subset
    have inRange := sound.handoffs _ (List.mem_of_find?_eq_some found)
    generalize s.setHandoffs (s.handoffs.eraseP (Handoff.isDrive k src)) = u at taken sound'
    have stored := store_same u k o
    exact recompute_outputsSound (supplied_of_same taken stored.active stored.demands) (store_outputsSound taken sound' inRange) k
  | ramped k => exact ramp_outputsSound sound k

/-! The Shaft Allocator. -/

theorem ask_req_le (supplied : s.supplied) (sound : s.outputsSound) (k : Train) : (s.ask k).req ≤ 1000 := by
  obtain ⟨-, -, -, -, -, -, -, -, -, -, oaMin, -⟩ := supplied.active.trains k
  unfold State.ask memberReq
  dsimp only
  split
  · exact oaMin
  · exact max_le (sound.shares k).1 oaMin
  all_goals exact Nat.zero_le _

theorem setGrant_outputsSound (sound : s.outputsSound) {f : Figures} {a : Ask} (grant : grantOf f a ≤ 1000) :
    (State.setGrant f a s).outputsSound := by
  have granted := outputsSound_setShare (k := a.train) (x := { s.share a.train with share := some ⟨a.min, a.req, grantOf f a⟩ }) sound
    (sound.shares a.train).1 fun g hg => by cases hg; exact grant
  unfold State.setGrant
  dsimp only
  split
  · exact granted
  · exact outputsSound_handOn granted grant

theorem recomputeShaft_outputsSound (supplied : s.supplied) (sound : s.outputsSound) (h : Shaft) : (s.recomputeShaft h).outputsSound := by
  rw [recomputeShaft_eq]
  refine forEach_induct (P := State.outputsSound) (fun a ha u hu => setGrant_outputsSound hu ?_) (outputsSound_of_same sound rfl rfl rfl rfl rfl)
  have asked := asked_min_le_req s h a ha
  have least : a.req ≤ 1000 := by
    obtain ⟨k, -, rfl⟩ := List.mem_map.1 ha
    exact ask_req_le supplied sound k
  exact (grantOf_le_req a asked fun proportional => shaftFigures_avail_lt_excess s h ((figures_proportional_iff _ _).1 proportional).1).trans least

theorem takeBasis_outputsSound (supplied : s.supplied) (sound : s.outputsSound) (k : Train) (b : OaBasis) (a : Bool) :
    (s.takeBasis k b a).outputsSound := by
  have stored : (s.setShare k { s.share k with
      allocated := a, basis := b, share := if a then (s.share k).share else none }).outputsSound := by
    refine outputsSound_setShare sound (sound.shares k).1 fun g hg => ?_
    dsimp only at hg
    split at hg
    · exact (sound.shares k).2 g hg
    · cases hg
  have supplied' : (s.setShare k { s.share k with
      allocated := a, basis := b, share := if a then (s.share k).share else none }).supplied := supplied_of_same supplied rfl rfl
  exact recomputeShaft_outputsSound supplied' stored _

theorem takeRequest_outputsSound (supplied : s.supplied) (sound : s.outputsSound) {v : Nat} (inRange : v ≤ 1000) (k : Train) :
    (s.takeRequest k v).outputsSound := by
  have stored : (s.setShare k { s.share k with request := v }).outputsSound :=
    outputsSound_setShare sound inRange (sound.shares k).2
  have supplied' : (s.setShare k { s.share k with request := v }).supplied := supplied_of_same supplied rfl rfl
  unfold State.takeRequest
  dsimp only
  split
  · exact recomputeShaft_outputsSound supplied' stored _
  · exact stored

/-! The demands, the evaluations and the lines. -/

theorem changeTable_outputsSound (sound : s.outputsSound) (k : Train) (table : List DemandEntry) : (s.changeTable k table).outputsSound := by
  have stored : (s.setDemand k table).outputsSound := outputsSound_of_same sound rfl rfl rfl rfl rfl
  unfold State.changeTable State.handOnEffective
  dsimp only
  split_ifs
  · exact outputsSound_handOn (x := .drive k .demand) (outputsSound_handOn (x := .decision k .demandTable) stored trivial) trivial
  · exact outputsSound_handOn (x := .drive k .demand) stored trivial
  · exact outputsSound_handOn (x := .decision k .demandTable) stored trivial
  · exact stored

theorem evaluate_outputsSound (sound : s.outputsSound) (k : Train) : (s.evaluate k).outputsSound := by
  have flips := raiseFlips_frame s k (s.qualified k (s.rawResults k (s.intake k (s.effective k).d)))
  unfold State.evaluate
  dsimp only
  refine outputsSound_handOn (x := .drive k .record) (outputsSound_handOn (x := .decision k .criterionBank) ?_ trivial) trivial
  generalize s.raiseFlips k _ = t at flips ⊢
  rw [flips]
  exact outputsSound_of_same sound rfl rfl rfl rfl rfl

theorem postureValues_inRange {p : Params} (inRange : p.inRange) (c : PostureCode) : (p.postureValues c).inRange :=
  ⟨Nat.zero_le _, inRange.postures c⟩

theorem decideTrainPosture_outputsSound (active : s.active.inRange) (sound : s.outputsSound) (old : Params) (k : Train) :
    (State.decideTrainPosture old k s).outputsSound := by
  have decided : (s.setPosture k (s.decidedPosture k)).outputsSound := outputsSound_of_same sound rfl rfl rfl rfl rfl
  have values (c : PostureCode) : Handoff.inRange (.posture k (some (s.active.postureValues c))) := postureValues_inRange active c
  unfold State.decideTrainPosture
  dsimp only
  split
  · exact decided
  · exact outputsSound_handOn (outputsSound_handOn (x := .postureBegins k) decided trivial) (values _)
  · split
    · exact decided
    · exact outputsSound_handOn decided (values _)
  · exact outputsSound_handOn (x := .posture k none) (outputsSound_handOn (x := .postureEnds k) decided trivial) trivial

theorem decidePostures_outputsSound (active : s.active.inRange) (sound : s.outputsSound) (old : Params) :
    (s.decidePostures old).outputsSound :=
  (forEach_induct (P := fun u => u.active.inRange ∧ u.outputsSound)
    (fun k _ u hu => ⟨(decideTrainPosture_same old k u).active ▸ hu.1, decideTrainPosture_outputsSound hu.1 hu.2 old k⟩) ⟨active, sound⟩).2

theorem setLine_outputsSound (sound : s.outputsSound) (n : Line) (r : LineRec) : (s.setLine n r).outputsSound :=
  outputsSound_of_same sound rfl rfl rfl rfl rfl

theorem senseLow_outputsSound (active : s.active.inRange) (sound : s.outputsSound) (n : Line) : (s.senseLow n).outputsSound := by
  unfold State.senseLow
  dsimp only
  split
  · exact setLine_outputsSound sound n _
  · exact decidePostures_outputsSound (s := s.setLine n _) active (setLine_outputsSound sound n _) _

theorem senseHigh_outputsSound (active : s.active.inRange) (sound : s.outputsSound) (n : Line) : (s.senseHigh n).outputsSound := by
  unfold State.senseHigh
  dsimp only
  split
  · exact setLine_outputsSound sound n _
  · split
    · exact setLine_outputsSound sound n _
    · exact decidePostures_outputsSound (s := s.setLine n _) active (setLine_outputsSound sound n _) _

/-! Resets. -/

theorem reset_driveSound {oaMin : Nat} (h : oaMin ≤ 1000) : (DriveRec.reset oaMin).sound where
  wheel := ⟨Nat.zero_le _, Nat.zero_le _⟩
  bypass := ⟨Nat.zero_le _, rfl⟩
  oa := ⟨Nat.zero_le _, rfl⟩
  ramp := iff_of_false Bool.false_ne_true (not_not.2 rfl)
  grant := fun _ hg => (Option.not_mem_none _ hg).elim
  posture := fun _ hv => (Option.not_mem_none _ hv).elim
  request := h

theorem clearRuntime_outputsSound (active : s.active.inRange) (pwm : ∀ o, s.pwm.get o ≤ 1000) (cause : ResetCause) :
    (s.clearRuntime cause).outputsSound := by
  have oaMin : ∀ k, (s.params k).oaMin ≤ 1000 := fun k => by
    obtain ⟨-, -, -, -, -, -, -, -, -, -, oaMin, -⟩ := active.trains k
    exact oaMin
  have drive : ∀ k, (s.clearRuntime cause).drive k = .reset (s.params k).oaMin := fun k => Vec.get_ofFn _ _
  have share : ∀ k, (s.clearRuntime cause).share k = .reset (s.params k).oaMin := fun k => Vec.get_ofFn _ _
  have train : ∀ k, (s.clearRuntime cause).train k = .reset := fun k => Vec.get_replicate _ _
  refine ⟨fun k => ?_, pwm, fun x hx => ?_, fun k => ?_, fun k h held => ?_⟩
  · rw [drive]
    exact reset_driveSound (oaMin k)
  · cases hx
  · rw [share]
    exact ⟨oaMin k, fun _ hg => (Option.not_mem_none _ hg).elim⟩
  · rw [train] at held
    cases held

theorem samplePosture_outputsSound (supplied : s.supplied) (sound : s.outputsSound) (k : Train) : (State.samplePosture k s).outputsSound := by
  have decided : (s.setPosture k (s.decidedPosture k)).outputsSound := outputsSound_of_same sound rfl rfl rfl rfl rfl
  unfold State.samplePosture
  dsimp only
  split
  · exact decided
  · have same := enterSafe_same (s.setPosture k (s.decidedPosture k)) k
    exact applyPosture_outputsSound (supplied_of_same supplied same.active same.demands) (enterSafe_outputsSound decided k)
      (postureValues_inRange supplied.active _) k

theorem sampleLines_outputsSound (supplied : s.supplied) (sound : s.outputsSound) (v : Vec 4 Level) : (s.sampleLines v).outputsSound := by
  refine endEvent_outputsSound (forEach_induct (P := fun u => u.supplied ∧ u.outputsSound) (fun k _ u hu => ⟨?_, ?_⟩) ⟨?_, ?_⟩).2
  · have same := samplePosture_same k u
    exact supplied_of_same hu.1 same.active same.demands
  · exact samplePosture_outputsSound hu.1 hu.2 k
  · exact supplied_of_same supplied rfl rfl
  · exact outputsSound_of_same sound rfl rfl rfl rfl rfl

theorem resetBlocks_outputsSound (active : s.active.inRange) (pwm : ∀ o, s.pwm.get o ≤ 1000) (cause : ResetCause) (v : Vec 4 Level) :
    (s.resetBlocks cause v).outputsSound := by
  unfold State.resetBlocks
  refine sampleLines_outputsSound (supplied_of_demands ?_ fun k e he => ?_) ?_ v
  · rw [fileRaise_frame]; exact active
  · rw [fileRaise_frame] at he
    have empty : (s.clearRuntime cause).demand k = [] := Vec.get_replicate _ _
    exact (List.not_mem_nil (empty ▸ he)).elim
  · rw [fileRaise_frame]
    exact outputsSound_of_same (clearRuntime_outputsSound active pwm cause) rfl rfl rfl rfl rfl

/-! An APPLY. -/

theorem applyDrive_outputsSound (supplied : s.supplied) (sound : s.outputsSound) (old : Params) (k : Train) :
    (State.applyDrive old k s).outputsSound := by
  unfold State.applyDrive
  extract_lets s1 d s2
  have formed : s1.supplied ∧ s1.outputsSound := by
    dsimp only [s1]
    split
    · have same := formRequest_same s k
      exact ⟨supplied_of_same supplied same.active same.demands, formRequest_outputsSound supplied sound k⟩
    · exact ⟨supplied, sound⟩
  have banded : s2.supplied ∧ s2.outputsSound := by
    dsimp only [s2]
    split
    · have old := formed.2.drives k
      refine ⟨supplied_of_same formed.1 rfl rfl, outputsSound_setDrive formed.2 ?_⟩
      exact ⟨old.wheel, old.bypass, old.oa, old.ramp, old.grant, old.posture, old.request⟩
    · exact formed
  split
  · exact recompute_outputsSound banded.1 banded.2 k
  · exact banded.2

theorem applyReference_outputsSound (sound : s.outputsSound) : s.applyReference.outputsSound := by
  rw [applyReference_frame, applyNotices_frame]
  exact outputsSound_of_same sound rfl rfl rfl rfl rfl

theorem applyTables_outputsSound (sound : s.outputsSound) : s.applyTables.outputsSound := by
  refine forEach_induct (P := State.outputsSound) (fun k _ u hu => changeTable_outputsSound hu k _) ?_
  rw [applySlots_frame]
  exact outputsSound_of_same (applyReference_outputsSound sound) rfl rfl rfl rfl rfl

theorem applyLimits_outputsSound (sound : s.outputsSound) : s.applyLimits.outputsSound :=
  endEvent_outputsSound (forEach_induct (P := State.outputsSound) (fun h _ _ hu => (applyLimit_moves _ h _).outputsSound hu)
    (applyTables_outputsSound sound))

theorem applyStaged_outputsSound (staged : s.staged.inRange) (demands : ∀ k, s.demandSound k) (sound : s.outputsSound) :
    s.applyStaged.outputsSound := by
  have active : s.applyTables.active = s.staged := by
    rw [applyTables_frame, applyReference_frame, applyNotices_frame]
  have tables : s.applyTables.supplied := by
    refine supplied_of_demands (by rw [active]; exact staged) fun k e he => ?_
    rw [applyTables_demand] at he
    exact (demands k).fields e (mem_of_appliedTable he).1
  have limits : s.applyLimits.supplied := supplied_of_same tables (applyLimits_same s).active (applyLimits_same s).demands
  have shafts : s.applyShafts.supplied ∧ s.applyShafts.outputsSound := by
    refine forEach_induct (P := fun u => u.supplied ∧ u.outputsSound) (fun h _ u hu => ?_) ⟨limits, applyLimits_outputsSound sound⟩
    unfold State.applyShaft
    split
    · have same := recomputeShaft_same u h
      exact ⟨supplied_of_same hu.1 same.active same.demands, recomputeShaft_outputsSound hu.1 hu.2 h⟩
    · exact hu
  have drives : s.applyDrives.supplied ∧ s.applyDrives.outputsSound :=
    forEach_induct (P := fun u => u.supplied ∧ u.outputsSound) (fun k _ u hu =>
      have same := applyDrive_same s.active k u
      ⟨supplied_of_same hu.1 same.active same.demands, applyDrive_outputsSound hu.1 hu.2 s.active k⟩) shafts
  rw [applyStaged_eq]
  exact decidePostures_outputsSound drives.1.active drives.2 _

/-! Every effect. -/

theorem tick_driveSound {d : DriveRec} (sound : d.sound) : d.tick.sound where
  wheel := sound.wheel
  bypass := sound.bypass
  oa := sound.oa
  ramp := by
    unfold DriveRec.tick
    rw [tickTimer_isSome]
    exact sound.ramp
  grant := sound.grant
  posture := sound.posture
  request := sound.request

theorem tick_outputsSound (sound : s.outputsSound) : ({ s.tickTimers with uptime := s.uptime + 1 } : State).outputsSound := by
  have drive : ∀ k, ({ s.tickTimers with uptime := s.uptime + 1 } : State).drive k = (s.drive k).tick := fun k => Vec.get_map _ _ _
  have train : ∀ k, ({ s.tickTimers with uptime := s.uptime + 1 } : State).train k = (s.train k).tick := fun k => Vec.get_map _ _ _
  refine ⟨fun k => ?_, sound.pwm, sound.handoffs, sound.shares, fun k h held => ?_⟩
  · rw [drive]
    exact tick_driveSound (sound.drives k)
  · rw [train] at held
    refine sound.holds k h ?_
    unfold TrainRec.tick TrainState.tick at held
    dsimp only at held
    split at held
    · cases held
    · exact held

theorem beginPeriod_outputsSound (sound : s.outputsSound) : s.beginPeriod.outputsSound where
  drives := sound.drives
  pwm o := by
    unfold State.beginPeriod
    rw [Vec.get_ofFn]
    refine highCounts_le ?_ _
    unfold State.output
    dsimp only
    generalize (⟨o.val / 3, _⟩ : Train) = k
    have old := sound.drives k
    split
    · exact old.wheel.2
    · exact old.bypass.2 ▸ old.bypass.1
    · exact old.oa.2 ▸ old.oa.1
  handoffs := sound.handoffs
  shares := sound.shares
  holds := sound.holds

end

theorem Effect.outputsSound {s t : State} (h : Effect s t) (params : s.paramsSound) (demands : ∀ k, s.demandSound k)
    (sound : s.outputsSound) : t.outputsSound := by
  have same {t : State} := outputsSound_of_same (t := t) sound
  have supplied : s.supplied := supplied_of_demands params.active fun k => (demands k).fields
  cases h with
  | event h => exact h.outputsSound supplied sound
  | second => exact tick_outputsSound sound
  | lineHeld => exact ⟨sound.drives, fun o => by rw [Vec.get_replicate]; exact Nat.zero_le _, sound.handoffs, sound.shares, sound.holds⟩
  | defaults cause v =>
    exact resetBlocks_outputsSound (s := s.toDefaults) defaultParams_inRange
      (fun o => by rw [State.toDefaults, Vec.get_replicate]; exact Nat.zero_le _) cause v
  | restarted => exact resetBlocks_outputsSound (s := { s with ports := s.ports.map LinkPort.restarted }) params.active sound.pwm _ _
  | noticesCleared l | noticeTaken l | noticeAcked l =>
    exact same (setEntries_drives s _ _) (setEntries_pwm s _ _) (setEntries_handoffs s _ _) (setEntries_shares s _ _)
      (setEntries_trains s _ _)
  | noticeHandled => rw [handleNotice_frame]; exact same rfl rfl rfl rfl rfl
  | published l c v => rw [publish_frame]; exact same rfl rfl rfl rfl rfl
  | wentStale c => rw [goStale_frame]; exact same rfl rfl rfl rfl rfl
  | evaluated k => exact evaluate_outputsSound sound k
  | demandAccepted l k f => exact changeTable_outputsSound sound k _
  | demandExpired k l => exact changeTable_outputsSound (s := s.raise _) (same rfl rfl rfl rfl rfl) k _
  | demandWithdrawn k l => exact changeTable_outputsSound sound k _
  | basisTaken k b a =>
    have sound' : (s.setHandoffs (s.handoffs.eraseP (Handoff.isShaft k .sequencer))).outputsSound :=
      outputsSound_setHandoffs sound List.eraseP_subset
    exact takeBasis_outputsSound (supplied_setHandoffs supplied _) sound' k b a
  | requestTaken k v found =>
    have sound' : (s.setHandoffs (s.handoffs.eraseP (Handoff.isShaft k .driveStage))).outputsSound :=
      outputsSound_setHandoffs sound List.eraseP_subset
    exact takeRequest_outputsSound (supplied_setHandoffs supplied _) sound' (sound.handoffs _ (List.mem_of_find?_eq_some found)) k
  | periodBegun => exact beginPeriod_outputsSound sound
  | sensedLow n => exact senseLow_outputsSound params.active sound n
  | sensedHigh n => exact senseHigh_outputsSound params.active sound n
  | assertionEnded n => exact decidePostures_outputsSound (s := s.setLine n _) params.active (setLine_outputsSound sound n _) _
  | applied => exact applyStaged_outputsSound params.staged demands sound
  | lockSet => rw [setLock_frame]; exact same rfl rfl rfl rfl rfl
  | port | referenceRead | reportRefused | accumulated | staged | discarded => exact same rfl rfl rfl rfl rfl

/-- Settles O59: each effect keeps the outputs sound under sound parameter sets and demand tables. -/
theorem outputsStaySound : Obligations.OutputsStaySound := by
  unfold Obligations.OutputsStaySound
  intro s t sound h
  refine (step_keeps (P := fun s => s.paramsSound ∧ (∀ k, s.demandSound k) ∧ s.outputsSound) (fun s _ h => ?queue) (fun s t e h => ?effect)
    ⟨sound.params, sound.demands, sound.outputs⟩ h).2.2
  case queue =>
    obtain ⟨params, demands, outputs⟩ := h
    exact ⟨⟨params.active, params.staged, params.relations, params.frozen⟩, fun k => demandSound_of_same (demands k) rfl rfl,
      outputsSound_of_same outputs rfl rfl rfl rfl rfl⟩
  case effect =>
    obtain ⟨params, demands, outputs⟩ := h
    exact ⟨e.paramsSound params, e.demandSound params demands, e.outputsSound params demands outputs⟩

end Sys2Proof.Machine
end

section
/-! Pending sets and the held list as ordered lists (R176 to R178, R180). -/

namespace Sys2Proof.Machine

theorem classIndex_injective {c d : NoticeClass} (h : classIndex c = classIndex d) : c = d := by
  revert h
  cases c <;> cases d <;> decide

theorem Condition.subject_lt (c : Condition) : c.subject.getD 0 < 64 := by
  cases c <;> simp only [Condition.subject, Option.getD_some, Option.getD_none] <;> omega

/-- The order of a pending set tells conditions apart (R177). -/
theorem Condition.key_injective {c d : Condition} (h : c.key = d.key) : c = d := by
  have low := c.subject_lt
  have low' := d.subject_lt
  unfold Condition.key NoticeClass.number at h
  have index : classIndex c.cls = classIndex d.cls := Fin.ext (by omega)
  have cls := classIndex_injective index
  have subject : c.subject.getD 0 = d.subject.getD 0 := by rw [index] at h; omega
  cases c <;> cases d <;> cases cls
  case referenceLost.referenceLost.refl => rfl
  all_goals exact congrArg _ (Fin.ext subject)

/-- A pending set in its order, each condition once. -/
abbrev Ordered (es : List NoticeEntry) : Prop := es.Pairwise fun a b => a.cond.key < b.cond.key

section
variable {c : Condition} {again : NoticeEntry → NoticeEntry} {e : NoticeEntry} {es : List NoticeEntry}

theorem ordered_cons : Ordered (e :: es) ↔ (∀ y ∈ es, e.cond.key < y.cond.key) ∧ Ordered es := List.pairwise_cons

/-- The entries after one for a condition has been put in its place. -/
theorem mem_fileWith (ordered : Ordered es) : e ∈ fileWith again c es ↔
    (e.cond ≠ c ∧ e ∈ es) ∨ (e = ⟨c, 1, false⟩ ∧ ∀ y ∈ es, y.cond ≠ c) ∨ ∃ y ∈ es, y.cond = c ∧ e = again y := by
  induction es with
  | nil => simp [fileWith]
  | cons x xs ih =>
    obtain ⟨least, ordered⟩ := ordered_cons.1 ordered
    unfold fileWith
    split_ifs with before same
    · have none : ∀ y ∈ x :: xs, y.cond ≠ c := by
        rintro y hy rfl
        rcases List.mem_cons.1 hy with rfl | hy
        · exact lt_irrefl _ before
        · exact lt_asymm before (least y hy)
      constructor
      · intro he
        rcases List.mem_cons.1 he with rfl | he
        · exact .inr (.inl ⟨rfl, none⟩)
        · exact .inl ⟨none e he, he⟩
      · rintro (⟨-, he⟩ | ⟨rfl, -⟩ | ⟨y, hy, same, -⟩)
        · exact List.mem_cons_of_mem _ he
        · exact List.mem_cons_self
        · exact absurd same (none y hy)
    · have other : ∀ y ∈ xs, y.cond ≠ c := fun y hy e => by
        have := least y hy
        rw [same, e] at this
        exact lt_irrefl _ this
      constructor
      · intro he
        rcases List.mem_cons.1 he with rfl | he
        · exact .inr (.inr ⟨x, List.mem_cons_self, same, rfl⟩)
        · exact .inl ⟨other e he, List.mem_cons_of_mem _ he⟩
      · rintro (⟨ne, he⟩ | ⟨-, none⟩ | ⟨y, hy, cond, rfl⟩)
        · rcases List.mem_cons.1 he with rfl | he
          · exact absurd same ne
          · exact List.mem_cons_of_mem _ he
        · exact absurd same (none x List.mem_cons_self)
        · rcases List.mem_cons.1 hy with rfl | hy
          · exact List.mem_cons_self
          · exact absurd cond (other y hy)
    · rw [List.mem_cons, ih ordered]
      simp only [List.mem_cons, forall_eq_or_imp, exists_eq_or_imp, same, false_and, false_or, ne_eq, not_false_eq_true, true_and]
      constructor
      · rintro (rfl | ⟨ne, he⟩ | h)
        · exact .inl ⟨same, .inl rfl⟩
        · exact .inl ⟨ne, .inr he⟩
        · exact .inr h
      · rintro (⟨ne, rfl | he⟩ | h)
        · exact .inl rfl
        · exact .inr (.inl ⟨ne, he⟩)
        · exact .inr (.inr h)

/-- The conditions of the entries after one has been put in its place. -/
theorem cond_of_mem_fileWith (keeps : ∀ y, y.cond = c → (again y).cond = c) (h : e ∈ fileWith again c es) : e.cond = c ∨ ∃ y ∈ es, e.cond = y.cond := by
  induction es with
  | nil => exact .inl (by rw [List.mem_singleton.1 h])
  | cons x xs ih =>
    unfold fileWith at h
    split_ifs at h with before same
    · rcases List.mem_cons.1 h with rfl | h
      · exact .inl rfl
      · exact .inr ⟨e, h, rfl⟩
    · rcases List.mem_cons.1 h with rfl | h
      · exact .inl (keeps x same)
      · exact .inr ⟨e, List.mem_cons_of_mem _ h, rfl⟩
    · rcases List.mem_cons.1 h with rfl | h
      · exact .inr ⟨_, List.mem_cons_self, rfl⟩
      · exact (ih h).imp_right fun ⟨y, hy, e⟩ => ⟨y, List.mem_cons_of_mem _ hy, e⟩

theorem fileWith_ordered (keeps : ∀ y, y.cond = c → (again y).cond = c) (ordered : Ordered es) : Ordered (fileWith again c es) := by
  induction es with
  | nil => exact List.pairwise_singleton _ _
  | cons x xs ih =>
    obtain ⟨least, below⟩ := ordered_cons.1 ordered
    unfold fileWith
    split_ifs with before same
    · refine ordered_cons.2 ⟨fun y hy => ?_, ordered⟩
      rcases List.mem_cons.1 hy with rfl | hy
      · exact before
      · exact before.trans (least y hy)
    · exact ordered_cons.2 ⟨fun y hy => by rw [keeps x same, ← same]; exact least y hy, below⟩
    · refine ordered_cons.2 ⟨fun y hy => ?_, ih below⟩
      rcases cond_of_mem_fileWith keeps hy with cond | ⟨z, hz, cond⟩
      · rw [cond]
        exact lt_of_le_of_ne (not_lt.1 before) fun e => same (Condition.key_injective e)
      · rw [cond]
        exact least z hz

theorem mem_removeCondition : e ∈ removeCondition c es ↔ e ∈ es ∧ e.cond ≠ c := by simp [removeCondition]

theorem removeCondition_ordered (ordered : Ordered es) : Ordered (removeCondition c es) := ordered.filter _

theorem fileEdge_ordered (ordered : Ordered es) : Ordered (fileEdge c es) := fileWith_ordered (fun _ same => same) ordered

theorem fileLevel_ordered (ordered : Ordered es) : Ordered (fileLevel c es) := fileWith_ordered (fun _ _ => rfl) ordered

/-- The entries after an edge condition has been filed or counted. -/
theorem mem_fileEdge (ordered : Ordered es) : e ∈ fileEdge c es ↔
    (e.cond ≠ c ∧ e ∈ es) ∨ (e = ⟨c, 1, false⟩ ∧ ∀ y ∈ es, y.cond ≠ c) ∨
      ∃ y ∈ es, y.cond = c ∧ e = { y with count := min (y.count + 1) 255 } := mem_fileWith ordered

/-- The entries after a level condition has been filed. -/
theorem mem_fileLevel (ordered : Ordered es) : e ∈ fileLevel c es ↔ (e.cond ≠ c ∧ e ∈ es) ∨ e = ⟨c, 1, false⟩ := by
  refine (mem_fileWith ordered).trans (or_congr_right ⟨?_, fun new => ?_⟩)
  · rintro (⟨new, -⟩ | ⟨y, -, -, new⟩) <;> exact new
  · by_cases held : ∃ y ∈ es, y.cond = c
    · obtain ⟨y, hy, cond⟩ := held
      exact .inr ⟨y, hy, cond, new⟩
    · exact .inl ⟨new, fun y hy cond => held ⟨y, hy, cond⟩⟩

/-- A change of entries that leaves their conditions leaves their order. -/
theorem map_ordered {f : NoticeEntry → NoticeEntry} (keeps : ∀ y, (f y).cond = y.cond) (ordered : Ordered es) : Ordered (es.map f) :=
  List.pairwise_map.2 (ordered.imp fun lower => by rwa [keeps, keeps])

theorem asksAttention_iff : asksAttention es = true ↔ ∃ e ∈ es, e.taken = false := by simp [asksAttention]

end

/-! The held list. -/

section
variable {c d : Condition} {cs : List Condition}

theorem mem_holdCondition : d ∈ holdCondition c cs ↔ d = c ∨ d ∈ cs := by
  induction cs with
  | nil => simp [holdCondition]
  | cons x xs ih =>
    unfold holdCondition
    split_ifs with before same
    · exact List.mem_cons
    · rw [same, List.mem_cons]
      exact (or_iff_right_of_imp .inl).symm
    · rw [List.mem_cons, ih, List.mem_cons, or_left_comm]

theorem holdCondition_ordered (ordered : cs.Pairwise fun a b => a.key < b.key) :
    (holdCondition c cs).Pairwise fun a b => a.key < b.key := by
  induction cs with
  | nil => exact List.pairwise_singleton _ _
  | cons x xs ih =>
    obtain ⟨least, below⟩ := List.pairwise_cons.1 ordered
    unfold holdCondition
    split_ifs with before same
    · refine List.pairwise_cons.2 ⟨fun y hy => ?_, ordered⟩
      rcases List.mem_cons.1 hy with rfl | hy
      · exact before
      · exact before.trans (least y hy)
    · exact ordered
    · refine List.pairwise_cons.2 ⟨fun y hy => ?_, ih below⟩
      rcases mem_holdCondition.1 hy with rfl | hy
      · exact lt_of_le_of_ne (not_lt.1 before) fun e => same (Condition.key_injective e)
      · exact least y hy

theorem raiseHeld_ordered (x : Raise) (ordered : cs.Pairwise fun a b => a.key < b.key) :
    (raiseHeld x cs).Pairwise fun a b => a.key < b.key := by
  cases x with
  | edge => exact ordered
  | begins => exact holdCondition_ordered ordered
  | ends => exact ordered.filter _

theorem mem_raiseHeld {x : Raise} : d ∈ raiseHeld x cs ↔ (match x with
    | .edge _ => d ∈ cs
    | .begins c => d = c ∨ d ∈ cs
    | .ends c => d ≠ c ∧ d ∈ cs) := by
  cases x with
  | edge => exact Iff.rfl
  | begins => exact mem_holdCondition
  | ends => simp [raiseHeld, and_comm]

end

/-! Pending sets. -/

/-- The entries of a pending set under a routing and a held list. -/
structure PendingEntries (routed : NoticeClass → Bool) (held : List Condition) (es : List NoticeEntry) : Prop where
  order : Ordered es
  entries : ∀ e ∈ es, e.sound
  routed : ∀ e ∈ es, routed e.cond.cls = true
  holds : ∀ e ∈ es, e.cond.cls.level = true → e.cond ∈ held

theorem pendingSound_iff (s : State) (l : Link) : s.pendingSound l ↔
    PendingEntries (s.active.routes · l) s.held (s.notice l).entries ∧
      (s.notice l).attention = (!s.resetLow && asksAttention (s.notice l).entries) :=
  ⟨fun ⟨order, entries, routed, holds, attention⟩ => ⟨⟨order, entries, routed, holds⟩, attention⟩,
    fun ⟨⟨order, entries, routed, holds⟩, attention⟩ => ⟨order, entries, routed, holds, attention⟩⟩

section
variable {routed : NoticeClass → Bool} {held : List Condition} {es : List NoticeEntry} {c : Condition}

theorem newEntry_sound (c : Condition) : NoticeEntry.sound ⟨c, 1, false⟩ :=
  ⟨le_rfl, Nat.le_of_ble_eq_true rfl, fun _ => rfl, fun h => absurd h Bool.false_ne_true⟩

theorem PendingEntries.nil : PendingEntries routed held [] :=
  ⟨List.Pairwise.nil, fun _ h => (List.not_mem_nil h).elim, fun _ h => (List.not_mem_nil h).elim, fun _ h => (List.not_mem_nil h).elim⟩

/-- A held list that keeps the conditions of the entries. -/
theorem PendingEntries.of_held (h : PendingEntries routed held es) {held' : List Condition}
    (kept : ∀ e ∈ es, e.cond.cls.level = true → e.cond ∈ held → e.cond ∈ held') : PendingEntries routed held' es :=
  ⟨h.order, h.entries, h.routed, fun e he level => kept e he level (h.holds e he level)⟩

theorem PendingEntries.fileEdge (h : PendingEntries routed held es) (edge : c.cls.level = false) (route : routed c.cls = true) :
    PendingEntries routed held (fileEdge c es) := by
  have from_es : ∀ e ∈ Sys2Proof.Machine.fileEdge c es, e ∈ es ∨ e.cond = c := fun e he => by
    rcases (mem_fileEdge h.order).1 he with ⟨-, he⟩ | ⟨rfl, -⟩ | ⟨y, -, rfl, rfl⟩
    · exact .inl he
    · exact .inr rfl
    · exact .inr rfl
  refine ⟨fileEdge_ordered h.order, fun e he => ?_, fun e he => ?_, fun e he level => ?_⟩
  · rcases (mem_fileEdge h.order).1 he with ⟨-, he⟩ | ⟨rfl, -⟩ | ⟨y, hy, cond, rfl⟩
    · exact h.entries e he
    · exact newEntry_sound c
    · obtain ⟨low, -, -, taken⟩ := h.entries y hy
      refine ⟨le_min (by omega) (by decide), min_le_right _ _, fun level => ?_, taken⟩
      rw [cond, edge] at level
      cases level
  · rcases from_es e he with he | rfl
    · exact h.routed e he
    · exact route
  · rcases from_es e he with he | rfl
    · exact h.holds e he level
    · rw [edge] at level
      cases level

theorem PendingEntries.fileLevel (h : PendingEntries routed held es) (holds : c ∈ held) (route : routed c.cls = true) :
    PendingEntries routed held (fileLevel c es) := by
  have from_es : ∀ e ∈ Sys2Proof.Machine.fileLevel c es, e ∈ es ∨ e = ⟨c, 1, false⟩ := fun e he =>
    ((mem_fileLevel h.order).1 he).imp_left And.right
  refine ⟨fileLevel_ordered h.order, fun e he => ?_, fun e he => ?_, fun e he level => ?_⟩
  · rcases from_es e he with he | rfl
    · exact h.entries e he
    · exact newEntry_sound c
  · rcases from_es e he with he | rfl
    · exact h.routed e he
    · exact route
  · rcases from_es e he with he | rfl
    · exact h.holds e he level
    · exact holds

theorem PendingEntries.filter (h : PendingEntries routed held es) (p : NoticeEntry → Bool) : PendingEntries routed held (es.filter p) :=
  ⟨h.order.filter _, fun e he => h.entries e (List.mem_filter.1 he).1, fun e he => h.routed e (List.mem_filter.1 he).1,
    fun e he => h.holds e (List.mem_filter.1 he).1⟩

/-- A change of the taken marks, of level entries alone where one is set. -/
theorem PendingEntries.map (h : PendingEntries routed held es) {f : NoticeEntry → NoticeEntry} (cond : ∀ e, (f e).cond = e.cond)
    (count : ∀ e, (f e).count = e.count) (taken : ∀ e ∈ es, (f e).taken = true → e.taken = true ∨ e.cond.cls.level = true) :
    PendingEntries routed held (es.map f) := by
  refine ⟨map_ordered cond h.order, fun e he => ?_, fun e he => ?_, fun e he => ?_⟩ <;> obtain ⟨y, hy, rfl⟩ := List.mem_map.1 he
  · obtain ⟨low, high, level, mark⟩ := h.entries y hy
    unfold NoticeEntry.sound
    rw [cond, count]
    exact ⟨low, high, level, fun t => (taken y hy t).elim mark id⟩
  · rw [cond]
    exact h.routed y hy
  · rw [cond]
    exact h.holds y hy

theorem PendingEntries.take (h : PendingEntries routed held es) (x : NoticeEntry) : PendingEntries routed held (takeEntry x es) := by
  unfold takeEntry
  split
  · next level =>
    refine h.map (fun e => by split <;> rfl) (fun e => by split <;> rfl) fun e _ taken => ?_
    split at taken
    · next same => exact .inr (same ▸ level)
    · exact .inl taken
  · exact h.filter _

theorem PendingEntries.ack (h : PendingEntries routed held es) (c : Condition) : PendingEntries routed held (ackCondition c es) := by
  refine h.map (fun e => by split <;> rfl) (fun e => by split <;> rfl) fun e _ taken => ?_
  split at taken
  · cases taken
  · exact .inl taken

/-- A pending set with a raise handled: routed, the set is changed by it. -/
theorem PendingEntries.raised {x : Raise} (h : PendingEntries routed held es) (kind : x.ofItsKind) (route : routed x.condition.cls = true) :
    PendingEntries routed (raiseHeld x held) (raiseEntries x es) := by
  cases x with
  | edge c => exact h.fileEdge kind route
  | begins c =>
    exact (h.of_held (held' := holdCondition c held) fun e _ _ holds => mem_holdCondition.2 (.inr holds)).fileLevel
      (mem_holdCondition.2 (.inl rfl)) route
  | ends c =>
    refine (h.filter _).of_held fun e he _ holds => mem_raiseHeld.2 ⟨?_, holds⟩
    exact (mem_removeCondition.1 he).2

/-- A raise of a class that is not routed to the link leaves its set as it is. -/
theorem PendingEntries.unrouted {x : Raise} (h : PendingEntries routed held es) (route : routed x.condition.cls = false) :
    PendingEntries routed (raiseHeld x held) es := by
  refine h.of_held fun e he _ holds => ?_
  cases x with
  | edge c => exact holds
  | begins c => exact mem_holdCondition.2 (.inr holds)
  | ends c =>
    refine mem_raiseHeld.2 ⟨fun same => ?_, holds⟩
    have routes := h.routed e he
    rw [same] at routes
    exact Bool.false_ne_true (route.symm.trans routes)

end

/-! A routing change (R180). -/

/-- What an APPLY makes of the entries of one class. -/
def reroutedEntries (old new : NoticeClass → Bool) (held : List Condition) (c : NoticeClass) (es : List NoticeEntry) : List NoticeEntry :=
  if old c && !new c then es.filter (·.cond.cls ≠ c)
  else if !old c && new c && c.level then (held.filter (·.cls = c)).foldl (fun es x => fileLevel x es) es
  else es

section
variable {old new : NoticeClass → Bool} {held : List Condition} {c : NoticeClass} {es : List NoticeEntry} {e : NoticeEntry}

theorem foldl_fileLevel_ordered {cs : List Condition} (ordered : Ordered es) : Ordered (cs.foldl (fun es x => fileLevel x es) es) := by
  induction cs generalizing es with
  | nil => exact ordered
  | cons x cs ih => exact ih (fileLevel_ordered ordered)

theorem mem_foldl_fileLevel {cs : List Condition} (ordered : Ordered es) : e ∈ cs.foldl (fun es x => fileLevel x es) es ↔
    (e.cond ∉ cs ∧ e ∈ es) ∨ (e.cond ∈ cs ∧ e = ⟨e.cond, 1, false⟩) := by
  induction cs generalizing es with
  | nil => simp
  | cons x cs ih =>
    rw [List.foldl_cons, ih (fileLevel_ordered ordered), mem_fileLevel ordered, List.mem_cons, not_or]
    by_cases later : e.cond ∈ cs
    · simp only [later, not_true_eq_false, and_false, false_and, or_true, true_and, false_or]
    · by_cases same : e.cond = x
      · subst same
        simp [later]
      · have other : e ≠ ⟨x, 1, false⟩ := fun h => same (by rw [h])
        simp [later, same, other]

theorem reroutedEntries_ordered (ordered : Ordered es) : Ordered (reroutedEntries old new held c es) := by
  unfold reroutedEntries
  split_ifs
  · exact ordered.filter _
  · exact foldl_fileLevel_ordered ordered
  · exact ordered

/-- The entries of the other classes stay. -/
theorem mem_reroutedEntries_ne (ordered : Ordered es) (ne : e.cond.cls ≠ c) :
    e ∈ reroutedEntries old new held c es ↔ e ∈ es := by
  unfold reroutedEntries
  split_ifs
  · simp [ne]
  · rw [mem_foldl_fileLevel ordered]
    simp [ne]
  · exact Iff.rfl

/-- The entries of the class: lost with the route, and with a new route one for each condition held. -/
theorem mem_reroutedEntries_self (ordered : Ordered es) (routed : ∀ e ∈ es, e.cond.cls = c → old c = true) (same : e.cond.cls = c) :
    e ∈ reroutedEntries old new held c es ↔ new c = true ∧
      (e ∈ es ∨ old c = false ∧ c.level = true ∧ e.cond ∈ held ∧ e = ⟨e.cond, 1, false⟩) := by
  unfold reroutedEntries
  cases o : old c <;> cases n : new c
  case false.false =>
    have absent : e ∉ es := fun he => by
      have := routed e he same
      rw [o] at this
      cases this
    simp [absent]
  case true.false => simp [same]
  case true.true => simp
  case false.true =>
    have absent : e ∉ es := fun he => by
      have := routed e he same
      rw [o] at this
      cases this
    cases level : c.level
    · simp [absent]
    · simp [mem_foldl_fileLevel ordered, same, absent]

end

section
variable {s : State} {l : Link}

theorem rerouteClass_notice_ne {m : Link} (ne : l ≠ m) (old : Params) (c : NoticeClass) (s : State) :
    (State.rerouteClass old l c s).notice m = s.notice m := by
  unfold State.rerouteClass
  split_ifs
  · rw [setEntries_notice, if_neg ne]
  · rw [setEntries_notice, if_neg ne]
  · rfl

theorem rerouteClass_entries (old : Params) (c : NoticeClass) (s : State) : ((State.rerouteClass old l c s).notice l).entries =
    reroutedEntries (old.routes · l) (s.active.routes · l) s.held c (s.notice l).entries := by
  unfold State.rerouteClass reroutedEntries
  split_ifs
  · rw [setEntries_notice, if_pos rfl]
  · rw [setEntries_notice, if_pos rfl]
  · rfl

theorem rerouteClass_attention (old : Params) (c : NoticeClass) {s : State}
    (attention : (s.notice l).attention = asksAttention (s.notice l).entries) :
    ((State.rerouteClass old l c s).notice l).attention = asksAttention ((State.rerouteClass old l c s).notice l).entries := by
  unfold State.rerouteClass
  split_ifs
  · rw [setEntries_notice, if_pos rfl]
  · rw [setEntries_notice, if_pos rfl]
  · exact attention

/-- A link's own turn at a routing change. -/
abbrev State.rerouteLink (old : Params) (l : Link) (s : State) : State := forEach allClasses (State.rerouteClass old l) s

theorem rerouteLink_frame (old : Params) (l : Link) (s : State) :
    State.rerouteLink old l s = { s with notices := (State.rerouteLink old l s).notices } :=
  forEach_induct (P := fun t => t = { s with notices := t.notices }) (fun c _ _ h => frame_notices_trans h (rerouteClass_frame old l c _)) rfl

theorem rerouteLink_notice_ne {m : Link} (ne : l ≠ m) (old : Params) (s : State) : (State.rerouteLink old l s).notice m = s.notice m :=
  forEach_induct (P := fun t => t.notice m = s.notice m) (fun c _ t h => (rerouteClass_notice_ne ne old c t).trans h) rfl

theorem allClasses_nodup : allClasses.Nodup := by decide

theorem mem_allClasses (c : NoticeClass) : c ∈ allClasses := by cases c <;> decide

/-- A link's pending set before and after a routing change from `old` to the set active in `s` (R180). -/
structure Rerouted (old : Params) (l : Link) (s t : State) : Prop where
  ordered : Ordered (t.notice l).entries
  attention : (t.notice l).attention = asksAttention (t.notice l).entries
  mem : ∀ e, e ∈ (t.notice l).entries ↔ s.active.routes e.cond.cls l = true ∧ (e ∈ (s.notice l).entries ∨
    old.routes e.cond.cls l = false ∧ e.cond.cls.level = true ∧ e.cond ∈ s.held ∧ e = ⟨e.cond, 1, false⟩)

theorem rerouteLink_rerouted {old : Params} (ordered : Ordered (s.notice l).entries)
    (attention : (s.notice l).attention = asksAttention (s.notice l).entries)
    (routed : ∀ e ∈ (s.notice l).entries, old.routes e.cond.cls l = true) : Rerouted old l s (State.rerouteLink old l s) where
  ordered := forEach_induct (P := fun u => Ordered (u.notice l).entries)
    (fun c _ u h => by rw [rerouteClass_entries]; exact reroutedEntries_ordered h) ordered
  attention := forEach_induct (P := fun u => (u.notice l).attention = asksAttention (u.notice l).entries)
    (fun c _ _ h => rerouteClass_attention old c h) attention
  mem e := by
    refine (forEach_at (P := fun u => u.active = s.active ∧ u.held = s.held ∧ Ordered (u.notice l).entries ∧
        ∀ y : NoticeEntry, y.cond.cls = e.cond.cls → (y ∈ (u.notice l).entries ↔ y ∈ (s.notice l).entries))
      (Q := fun u => Ordered (u.notice l).entries ∧ (e ∈ (u.notice l).entries ↔ s.active.routes e.cond.cls l = true ∧
        (e ∈ (s.notice l).entries ∨ old.routes e.cond.cls l = false ∧ e.cond.cls.level = true ∧ e.cond ∈ s.held ∧
          e = ⟨e.cond, 1, false⟩))) (fun c u other hu => ?_) (fun u hu => ?_) (fun c u other hu => ?_) allClasses_nodup
      (mem_allClasses e.cond.cls) ⟨rfl, rfl, ordered, fun _ _ => Iff.rfl⟩).2
    · obtain ⟨active, held, ordered, mem⟩ := hu
      rw [rerouteClass_entries]
      refine ⟨?_, ?_, reroutedEntries_ordered ordered, fun y same => ?_⟩
      · rw [rerouteClass_frame]; exact active
      · rw [rerouteClass_frame]; exact held
      · rw [mem_reroutedEntries_ne ordered (same ▸ other.symm)]
        exact mem y same
    · obtain ⟨active, held, ordered, mem⟩ := hu
      rw [rerouteClass_entries]
      refine ⟨reroutedEntries_ordered ordered, ?_⟩
      rw [mem_reroutedEntries_self ordered (fun y hy same => by rw [← same]; exact routed y ((mem y same).1 hy)) rfl, active, held,
        mem e rfl]
    · obtain ⟨ordered, mem⟩ := hu
      rw [rerouteClass_entries]
      exact ⟨reroutedEntries_ordered ordered, (mem_reroutedEntries_ne ordered other.symm).trans mem⟩

theorem reroute_rerouted {old : Params} (ordered : Ordered (s.notice l).entries)
    (attention : (s.notice l).attention = asksAttention (s.notice l).entries)
    (routed : ∀ e ∈ (s.notice l).entries, old.routes e.cond.cls l = true) : Rerouted old l s (State.reroute old s) := by
  refine forEach_at (P := fun u => u.active = s.active ∧ u.held = s.held ∧ u.notice l = s.notice l) (Q := Rerouted old l s)
    (fun m u other hu => ?_) (fun u hu => ?_) (fun m u other hu => ?_) allLinks_nodup (mem_allLinks l) ⟨rfl, rfl, rfl⟩
  · obtain ⟨active, held, notice⟩ := hu
    have frame := rerouteLink_frame old m u
    exact ⟨(congrArg State.active frame).trans active, (congrArg State.held frame).trans held,
      (rerouteLink_notice_ne other old u).trans notice⟩
  · obtain ⟨active, held, notice⟩ := hu
    rw [← notice] at ordered attention routed
    obtain ⟨ordered, attention, mem⟩ := rerouteLink_rerouted ordered attention routed
    rw [active, held, notice] at mem
    exact ⟨ordered, attention, mem⟩
  · obtain ⟨ordered, attention, mem⟩ := hu
    have same := rerouteLink_notice_ne other old u
    refine ⟨?_, ?_, fun e => ?_⟩ <;> rw [same]
    · exact ordered
    · exact attention
    · exact mem e

/-- A routing change keeps a sound pending set sound. -/
theorem Rerouted.pending {old : Params} {t : State} (h : Rerouted old l s t) (frame : t = { s with notices := t.notices })
    (sound : PendingEntries (old.routes · l) s.held (s.notice l).entries) :
    PendingEntries (t.active.routes · l) t.held (t.notice l).entries := by
  have active : t.active = s.active := by rw [frame]
  have held : t.held = s.held := by rw [frame]
  rw [active, held]
  refine ⟨h.ordered, fun e he => ?_, fun e he => ((h.mem e).1 he).1, fun e he level => ?_⟩ <;>
    obtain ⟨route, old | ⟨-, -, holds, new⟩⟩ := (h.mem e).1 he
  · exact sound.entries e old
  · rw [new]
    exact newEntry_sound _
  · exact sound.holds e old level
  · exact holds

end

end Sys2Proof.Machine
end

section
/-! The notices (chapter 12) at every step. -/

namespace Sys2Proof.Machine

/-! What the Notice Table has been told. -/

theorem heldAfter_append (c : Condition) (xs ys : List Raise) (b : Bool) :
    heldAfter c (xs ++ ys) b = heldAfter c ys (heldAfter c xs b) := by
  induction xs generalizing b with
  | nil => rfl
  | cons x xs ih => cases x <;> exact ih _

/-- Whether a list of raises holds edge raises of edge classes alone. -/
def OnlyEdges (xs : List Raise) : Prop := ∀ x ∈ xs, ∃ c : Condition, x = .edge c ∧ c.cls.level = false

theorem OnlyEdges.heldAfter {xs : List Raise} (h : OnlyEdges xs) (c : Condition) (b : Bool) : heldAfter c xs b = b := by
  induction xs with
  | nil => rfl
  | cons x xs ih =>
    obtain ⟨d, rfl, -⟩ := h x List.mem_cons_self
    exact ih fun y hy => h y (List.mem_cons_of_mem _ hy)

theorem OnlyEdges.ofItsKind {xs : List Raise} (h : OnlyEdges xs) : ∀ x ∈ xs, x.ofItsKind := fun x hx => by
  obtain ⟨c, rfl, edge⟩ := h x hx
  exact edge

theorem OnlyEdges.nil : OnlyEdges [] := fun _ h => (List.not_mem_nil h).elim

theorem OnlyEdges.append {xs ys : List Raise} (h : OnlyEdges xs) (h' : OnlyEdges ys) : OnlyEdges (xs ++ ys) := fun x hx =>
  (List.mem_append.1 hx).elim (h x) (h' x)

theorem OnlyEdges.singleton {c : Condition} (edge : c.cls.level = false) : OnlyEdges [.edge c] := fun _ hx =>
  ⟨c, List.mem_singleton.1 hx, edge⟩

/-- Two states between which the Notice Table has been told what became of the reference and of the trains in SAFE. -/
structure Told (s t : State) : Prop where
  held : t.held = s.held
  news : ∃ xs, t.raised = s.raised ++ xs ∧ (∀ x ∈ xs, x.ofItsKind) ∧
    heldAfter .referenceLost xs s.reference.lost = t.reference.lost ∧ ∀ k, heldAfter (.safe k) xs (s.inSafe k) = t.inSafe k

section
variable {s t u : State}

theorem Told.trans (h : Told s t) (h' : Told t u) : Told s u := by
  obtain ⟨held, xs, raised, kind, reference, safe⟩ := h
  obtain ⟨held', ys, raised', kind', reference', safe'⟩ := h'
  refine ⟨held'.trans held, xs ++ ys, ?_, fun x hx => (List.mem_append.1 hx).elim (kind x) (kind' x), ?_, fun k => ?_⟩
  · rw [raised', raised, List.append_assoc]
  · rw [heldAfter_append, reference, reference']
  · rw [heldAfter_append, safe, safe']

/-- Nothing told but edges, and nothing to tell. -/
theorem Told.of_edges (held : t.held = s.held) {xs : List Raise} (raised : t.raised = s.raised ++ xs) (edges : OnlyEdges xs)
    (reference : t.reference.lost = s.reference.lost) (safe : ∀ k, t.inSafe k = s.inSafe k) : Told s t :=
  ⟨held, xs, raised, edges.ofItsKind, by rw [edges.heldAfter, reference], fun k => by rw [edges.heldAfter, safe]⟩

theorem inSafe_of_trains (trains : t.trains = s.trains) (k : Train) : t.inSafe k = s.inSafe k := by
  unfold State.inSafe State.train
  rw [trains]

theorem Told.of_same (held : t.held = s.held) (raised : t.raised = s.raised) (reference : t.reference = s.reference)
    (trains : t.trains = s.trains) : Told s t :=
  .of_edges held (raised.trans (List.append_nil _).symm) .nil (by rw [reference]) (inSafe_of_trains trains)

theorem Told.refl (s : State) : Told s s := .of_same rfl rfl rfl rfl

/-- An edge class raised. -/
theorem Told.raise (s : State) {c : Condition} (edge : c.cls.level = false) : Told s (s.raise c) :=
  .of_edges rfl rfl (.singleton edge) rfl fun _ => rfl

theorem Told.heldSound (h : Told s t) (sound : s.heldSound) : t.heldSound := by
  obtain ⟨held, xs, raised, kind, reference, safe⟩ := h
  refine ⟨by rw [held]; exact sound.order, by rw [held]; exact sound.level, fun x hx => ?_, ?_, fun k => ?_⟩
  · rw [raised] at hx
    exact (List.mem_append.1 hx).elim (sound.raised x) (kind x)
  · rw [held, raised, heldAfter_append, sound.reference, reference]
  · rw [held, raised, heldAfter_append, sound.safe, safe]

/-! The Train Sequencer. -/

theorem inSafe_iff {k : Train} : s.inSafe k = true ↔ (s.train k).state = .safe := by
  unfold State.inSafe
  split
  · next safe => exact iff_of_true rfl safe
  · next other => exact iff_of_false Bool.false_ne_true other

theorem inSafe_of_stays {k : Train} (stays : StaysUnderway (s.train k).state (t.train k).state) : t.inSafe k = s.inSafe k := by
  refine Bool.eq_iff_iff.2 ?_
  rw [inSafe_iff, inSafe_iff]
  rcases stays with same | ⟨before, after⟩
  · rw [same]
  · constructor <;> intro safe
    · rw [safe] at after; cases after
    · rw [safe] at before; cases before

theorem SequencerMove.told (h : SequencerMove s t) : Told s t := by
  have safe (k : Train) := inSafe_of_stays (h.stays k)
  cases h with
  | train k x => exact .of_edges rfl (List.append_nil _).symm .nil rfl safe
  | shaft h x => exact .of_same rfl rfl rfl rfl
  | raised k => exact .raise s rfl
  | handedOn x => exact .of_same rfl rfl rfl rfl

theorem SequencerMoves.told (h : SequencerMoves s t) : Told s t := by
  induction h with
  | refl => exact .refl s
  | tail _ last ih => exact ih.trans last.told

/-- A train's state set between moves: told but for the train itself. -/
theorem MovesThrough.told {k : Train} {st : TrainState} (h : MovesThrough k st s t) :
    t.held = s.held ∧ t.reference = s.reference ∧ ∃ xs, t.raised = s.raised ++ xs ∧ OnlyEdges xs := by
  have edges {u v : State} (h : SequencerMoves u v) :
      v.held = u.held ∧ v.reference = u.reference ∧ ∃ xs, v.raised = u.raised ++ xs ∧ OnlyEdges xs := by
    induction h with
    | refl => exact ⟨rfl, rfl, [], (List.append_nil _).symm, .nil⟩
    | tail _ last ih =>
      obtain ⟨held, reference, xs, raised, only⟩ := ih
      cases last with
      | raised k =>
        refine ⟨held, reference, xs ++ [.edge (.modeChanged k)], ?_, only.append (.singleton rfl)⟩
        rw [← List.append_assoc, ← raised]
        rfl
      | train | shaft | handedOn => exact ⟨held, reference, xs, raised, only⟩
  obtain ⟨u, x, before, -, after⟩ := h
  obtain ⟨held, reference, xs, raised, only⟩ := edges before
  obtain ⟨held', reference', ys, raised', only'⟩ := edges after
  refine ⟨held'.trans held, reference'.trans reference, xs ++ ys, ?_, only.append only'⟩
  rw [raised', ← List.append_assoc, ← raised]
  rfl

theorem MovesThrough.inSafe_self {k : Train} {st : TrainState} (h : MovesThrough k st s t) : t.inSafe k = decide (st = .safe) := by
  refine Bool.eq_iff_iff.2 ?_
  rw [inSafe_iff, decide_eq_true_iff]
  rcases h.state_self with same | ⟨before, after⟩
  · rw [same]
  · constructor <;> intro safe
    · rw [safe] at after; cases after
    · rw [safe] at before; cases before

/-- A train enters HELD or a steady mode from a state that is not SAFE. -/
theorem MovesThrough.told_of_unsafe {k : Train} {st : TrainState} (h : MovesThrough k st s t) (before : s.inSafe k = false)
    (after : st ≠ .safe) : Told s t := by
  obtain ⟨held, reference, xs, raised, only⟩ := h.told
  refine .of_edges held raised only (by rw [reference]) fun j => ?_
  by_cases same : k = j
  · subst same
    rw [h.inSafe_self, decide_eq_false after, before]
  · exact inSafe_of_stays (h.state_ne same)

/-- A train enters SAFE and the condition begins. -/
theorem MovesThrough.told_begins {k : Train} (h : MovesThrough k .safe s t) : Told s (t.beginLevel (.safe k)) := by
  obtain ⟨held, reference, xs, raised, only⟩ := h.told
  refine ⟨held, xs ++ [.begins (.safe k)], ?_, fun x hx => ?_, ?_, fun j => ?_⟩
  · rw [← List.append_assoc, ← raised]
    rfl
  · rcases List.mem_append.1 hx with hx | hx
    · exact only.ofItsKind x hx
    · rw [List.mem_singleton.1 hx]
      rfl
  · rw [heldAfter_append, only.heldAfter]
    exact congrArg ReferenceRec.lost reference.symm
  · rw [heldAfter_append, only.heldAfter]
    show (if Condition.safe k = .safe j then true else s.inSafe j) = t.inSafe j
    by_cases same : k = j
    · subst same
      rw [if_pos rfl, h.inSafe_self]
      rfl
    · rw [if_neg fun e => same (Condition.safe.inj e)]
      exact (inSafe_of_stays (h.state_ne same)).symm

/-- A train leaves SAFE and the condition ends. -/
theorem MovesThrough.told_ends {k : Train} {m : Mode} (h : MovesThrough k (.steady m) s t) : Told s (t.endLevel (.safe k)) := by
  obtain ⟨held, reference, xs, raised, only⟩ := h.told
  refine ⟨held, xs ++ [.ends (.safe k)], ?_, fun x hx => ?_, ?_, fun j => ?_⟩
  · rw [← List.append_assoc, ← raised]
    rfl
  · rcases List.mem_append.1 hx with hx | hx
    · exact only.ofItsKind x hx
    · rw [List.mem_singleton.1 hx]
      rfl
  · rw [heldAfter_append, only.heldAfter]
    exact congrArg ReferenceRec.lost reference.symm
  · rw [heldAfter_append, only.heldAfter]
    show (if Condition.safe k = .safe j then false else s.inSafe j) = t.inSafe j
    by_cases same : k = j
    · subst same
      rw [if_pos rfl, h.inSafe_self]
      rfl
    · rw [if_neg fun e => same (Condition.safe.inj e)]
      exact (inSafe_of_stays (h.state_ne same)).symm

theorem enterSafe_told (s : State) (k : Train) : Told s (s.enterSafe k) := by
  unfold State.enterSafe
  split
  · exact .refl s
  · exact (takeOver_through s k _ _).told_begins

theorem leaveSafe_told (s : State) (k : Train) : Told s (s.leaveSafe k) := by
  unfold State.leaveSafe
  split
  · exact (enterSteady_through s k _).told_ends
  · exact .refl s

theorem leaveHeld_told (s : State) (k : Train) : Told s (s.leaveHeld k) := by
  unfold State.leaveHeld
  split
  · next held =>
    refine (enterSteady_through s k _).told_of_unsafe ?_ TrainState.noConfusion
    unfold State.inSafe
    rw [held]
  · exact .refl s

theorem endEvent_told (s : State) : Told s s.endEvent := (endEvent_moves s).told

theorem SameButDrives.told (h : SameButDrives s t) : Told s t := .of_same h.held h.raised h.reference h.trains

theorem takePosture_told (x : Handoff) (s : State) : Told s (State.takePosture x s) := by
  unfold State.takePosture
  split
  · exact (enterSafe_told s _).trans (endEvent_told _)
  · exact (leaveSafe_told s _).trans (endEvent_told _)
  · exact (applyPosture_same s _ _).told
  · exact (endPosture_same s _).told
  · exact .refl s

theorem TrainEvent.told (h : TrainEvent s t) : Told s t := by
  cases h with
  | handoffTaken p => exact .of_same rfl rfl rfl rfl
  | decided k => exact (decideTarget_moves s k).told.trans (endEvent_told _)
  | dwellEnded k => exact (setDwell_moves s k none).told
  | stepEnded k r state => exact (completeStep_moves (by rw [state]; rfl) r).told.trans (endEvent_told _)
  | wheelStopped k => exact ((startLockout_moves s k).told.trans (wheelAtRest_moves _ k).told).trans (endEvent_told _)
  | lockoutEnded k => exact (endLockout_moves s k).told.trans (endEvent_told _)
  | heldAt k h free => exact ((enterHeld_through s k h).told_of_unsafe free TrainState.noConfusion).trans (endEvent_told _)
  | released k => exact (leaveHeld_told s k).trans (endEvent_told _)
  | postureTaken x p =>
    exact Told.trans (t := s.setHandoffs (s.handoffs.eraseP p)) (.of_same rfl rfl rfl rfl) (takePosture_told x _)
  | posturesCompleted =>
    exact forEach_induct (P := Told s) (fun x _ u h => h.trans (takePosture_told x u)) (.of_same rfl rfl rfl rfl)
  | commanded k src o =>
    exact Told.trans (t := s.setHandoffs (s.handoffs.eraseP (Handoff.isDrive k src))) (.of_same rfl rfl rfl rfl)
      ((store_same _ k o).trans (recompute_same _ k)).told
  | ramped k => exact (ramp_same s k).told

/-! The other blocks. -/

theorem redecide_told (s : State) : Told s s.redecide := by
  rw [redecide_eq]
  refine ⟨rfl, _, rfl, fun x hx => ?_, ?_, fun k => ?_⟩
  · split_ifs at hx
    · cases hx
    · rw [List.mem_singleton.1 hx]; rfl
    · rw [List.mem_singleton.1 hx]; rfl
  · show heldAfter .referenceLost _ s.reference.lost = s.decidedReference.lost
    split_ifs with same lost
    · exact same.symm
    · exact lost.symm
    · exact (Bool.eq_false_iff.2 lost).symm
  · split_ifs <;> rfl

theorem creditTest_told (s : State) (st : Station) (x : Int) : Told s (s.creditTest st x) := by
  unfold State.creditTest
  dsimp only
  split
  · exact .of_same rfl rfl rfl rfl
  · split
    · exact Told.trans (t := s.setStation st _) (.of_same rfl rfl rfl rfl) (.raise _ rfl)
    · exact .of_same rfl rfl rfl rfl

theorem publish_told (s : State) (l : Link) (c : Channel) (v : Int) : Told s (s.publish l c v) := by
  refine Told.trans (t := s.setChannel c (s.publishedRec l c v)) (.of_same rfl rfl rfl rfl) ?_
  show Told _ (State.stationPublished _ c _)
  unfold State.stationPublished
  split
  · exact (creditTest_told _ _ _).trans (redecide_told _)
  · exact redecide_told _
  · exact .refl _

theorem goStale_told (s : State) (c : Channel) : Told s (s.goStale c) := by
  refine Told.trans (t := s.setChannel c { (s.channel c).emptied with state := .stale, age := none }) (.of_same rfl rfl rfl rfl) ?_
  refine (Told.raise _ (c := .channelStale c) rfl).trans ?_
  show Told _ (State.stationStale _ c)
  unfold State.stationStale
  split
  · exact redecide_told _
  · exact .refl _

/-- The raises of the slots that flip (R61). -/
theorem raiseFlips_raised (s : State) (k : Train) (qs : Vec 8 (SlotRec × Bool)) : (s.raiseFlips k qs).raised =
    s.raised ++ List.replicate ((List.finRange 8).countP fun c => (qs.get c).2) (.edge (.criterionChanged k)) := by
  unfold State.raiseFlips
  generalize List.finRange 8 = cs
  induction cs generalizing s with
  | nil => exact (List.append_nil _).symm
  | cons c cs ih =>
    rw [forEach_cons, ih, List.countP_cons]
    split
    · rw [List.replicate_succ, List.append_cons]
      rfl
    · rfl

theorem evaluate_raised (s : State) (k : Train) : (s.evaluate k).raised = s.raised ++ List.replicate ((List.finRange 8).countP fun c =>
    ((s.qualified k (s.rawResults k (s.intake k (s.effective k).d))).get c).2) (.edge (.criterionChanged k)) := by
  have flips := raiseFlips_raised s k (s.qualified k (s.rawResults k (s.intake k (s.effective k).d)))
  unfold State.evaluate
  dsimp only
  generalize s.raiseFlips k _ = u at flips ⊢
  exact flips

theorem evaluate_told (s : State) (k : Train) : Told s (s.evaluate k) := by
  refine .of_edges (congrArg State.held (evaluate_frame s k) :) (evaluate_raised s k) (fun x hx => ?_)
    (by rw [evaluate_frame]) fun j => inSafe_of_trains (by rw [evaluate_frame]) j
  exact ⟨_, List.eq_of_mem_replicate hx, rfl⟩

theorem tick_inSafe (s : State) (k : Train) : ({ s.tickTimers with uptime := s.uptime + 1 } : State).inSafe k = s.inSafe k := by
  have train : ({ s.tickTimers with uptime := s.uptime + 1 } : State).train k = (s.train k).tick := Vec.get_map _ _ _
  unfold State.inSafe
  rw [train]
  unfold TrainRec.tick TrainState.tick
  cases (s.train k).state <;> rfl

theorem tick_told (s : State) : Told s { s.tickTimers with uptime := s.uptime + 1 } :=
  .of_edges rfl (List.append_nil _).symm .nil rfl (tick_inSafe s)

/-! The pending sets. -/

theorem noticesSound_of_same (sound : s.noticesSound) (active : t.active = s.active) (held : t.held = s.held)
    (notices : t.notices = s.notices) (resetLow : t.resetLow = s.resetLow) : t.noticesSound := fun l => by
  have pending := (pendingSound_iff s l).1 (sound l)
  have notice : t.notice l = s.notice l := by rw [State.notice, notices]; rfl
  rw [pendingSound_iff, active, held, notice, resetLow]
  exact pending

/-- One link's set changed while the attention lines follow the sets. -/
theorem setEntries_noticesSound (sound : s.noticesSound) (awake : s.awake) {l : Link} {es : List NoticeEntry}
    (pending : PendingEntries (s.active.routes · l) s.held es) : (s.setEntries l es).noticesSound := fun m => by
  rw [pendingSound_iff, setEntries_notice]
  by_cases same : l = m
  · subst same
    rw [if_pos rfl]
    refine ⟨pending, ?_⟩
    show asksAttention es = (!s.resetLow && asksAttention es)
    rw [show s.resetLow = false from awake]
    rfl
  · rw [if_neg same]
    exact (pendingSound_iff s m).1 (sound m)

theorem fileRaise_noticesSound (sound : s.noticesSound) (low : s.resetLow = false) {x : Raise} (kind : x.ofItsKind) :
    (s.fileRaise x).noticesSound := fun l => by
  have active : (s.fileRaise x).active = s.active := by rw [fileRaise_frame]
  have resetLow : (s.fileRaise x).resetLow = s.resetLow := by rw [fileRaise_frame]
  have pending := (pendingSound_iff s l).1 (sound l)
  rw [pendingSound_iff, active, resetLow, fileRaise_held, fileRaise_notice]
  split
  · next route =>
    refine ⟨pending.1.raised kind route, ?_⟩
    rw [low]
    rfl
  · next route => exact ⟨pending.1.unrouted (Bool.not_eq_true _ ▸ route), pending.2⟩

theorem raiseHeld_decide (c : Condition) (x : Raise) (cs : List Condition) :
    decide (c ∈ raiseHeld x cs) = heldAfter c [x] (decide (c ∈ cs)) := by
  refine Bool.eq_iff_iff.2 ?_
  rw [decide_eq_true_iff, mem_raiseHeld]
  cases x with
  | edge d => exact (decide_eq_true_iff).symm
  | begins d =>
    show c = d ∨ c ∈ cs ↔ (if d = c then true else decide (c ∈ cs)) = true
    split
    · next same => exact iff_of_true (.inl same.symm) rfl
    · next other => rw [decide_eq_true_iff, or_iff_right (Ne.symm other)]
  | ends d =>
    show c ≠ d ∧ c ∈ cs ↔ (if d = c then false else decide (c ∈ cs)) = true
    split
    · next same => exact iff_of_false (fun h => h.1 same.symm) Bool.false_ne_true
    · next other => rw [decide_eq_true_iff, and_iff_right (Ne.symm other)]

theorem raiseHeld_level {x : Raise} (kind : x.ofItsKind) {cs : List Condition} (level : ∀ c ∈ cs, c.cls.level = true) :
    ∀ c ∈ raiseHeld x cs, c.cls.level = true := fun c hc => by
  have cases := mem_raiseHeld.1 hc
  cases x with
  | edge d => exact level c cases
  | begins d =>
    rcases cases with rfl | hc
    · exact kind
    · exact level c hc
  | ends d => exact level c cases.2

/-- The Notice Table's own event keeps what it will hold. -/
theorem handleNotice_heldSound (sound : s.heldSound) : s.handleNotice.heldSound := by
  cases raised : s.raised with
  | nil => rw [handleNotice_nil raised]; exact sound
  | cons x rest =>
    have kinds := sound.raised
    have reference := sound.reference
    have safe := sound.safe
    rw [raised] at kinds reference safe
    have kind := kinds x List.mem_cons_self
    have later (c : Condition) (b : Bool) : heldAfter c (x :: rest) b = heldAfter c rest (heldAfter c [x] b) := heldAfter_append c [x] rest b
    have held := fileRaise_held (s.setRaised rest) x
    have raised' : s.handleNotice.raised = rest := by rw [handleNotice_frame, raised]; rfl
    rw [← handleNotice_cons raised] at held
    refine ⟨?_, ?_, fun y hy => ?_, ?_, fun k => ?_⟩
    · rw [held]; exact raiseHeld_ordered x sound.order
    · rw [held]; exact raiseHeld_level kind sound.level
    · exact kinds y (List.mem_cons_of_mem _ (raised' ▸ hy))
    · rw [held, raised', raiseHeld_decide, ← later, handleNotice_frame]
      exact reference
    · rw [held, raised', raiseHeld_decide, ← later]
      exact (safe k).trans (inSafe_of_trains (by rw [handleNotice_frame]) k).symm

theorem handleNotice_noticesSound (sound : s.noticesSound) (raised : ∀ x ∈ s.raised, x.ofItsKind) (awake : s.awake) :
    s.handleNotice.noticesSound := by
  cases list : s.raised with
  | nil => rw [handleNotice_nil list]; exact sound
  | cons x rest =>
    rw [handleNotice_cons list]
    exact fileRaise_noticesSound (s := s.setRaised rest) (noticesSound_of_same sound rfl rfl rfl rfl) awake
      (raised x (list ▸ List.mem_cons_self))

/-! Resets and an APPLY. -/

theorem clearRuntime_notice (s : State) (cause : ResetCause) (l : Link) : (s.clearRuntime cause).notice l = ⟨[], false⟩ :=
  Vec.get_replicate _ _

theorem samplePosture_told (k : Train) (s : State) : Told s (State.samplePosture k s) := by
  have start : Told s (s.setPosture k (s.decidedPosture k)) := .of_same rfl rfl rfl rfl
  unfold State.samplePosture
  dsimp only
  split
  · exact start
  · exact (start.trans (enterSafe_told _ k)).trans (applyPosture_same _ k _).told

theorem samplePostures_told (s : State) : Told s (forEach allTrains State.samplePosture s) :=
  forEach_induct (P := Told s) (fun k _ u h => h.trans (samplePosture_told k u)) (.refl s)

theorem sampleLines_told (s : State) (v : Vec 4 Level) : Told s (s.sampleLines v) := by
  have sampled : Told s { s with lines := v.map LineRec.sampled } := .of_same rfl rfl rfl rfl
  exact (sampled.trans (samplePostures_told _)).trans (endEvent_told _)

theorem resetBlocks_heldSound (s : State) (cause : ResetCause) (v : Vec 4 Level) : (s.resetBlocks cause v).heldSound := by
  refine (sampleLines_told _ v).heldSound ?_
  have held : ((s.clearRuntime cause).fileRaise (.begins .referenceLost)).held = [.referenceLost] := fileRaise_held _ _
  have raised : ((s.clearRuntime cause).fileRaise (.begins .referenceLost)).raised = [] := by rw [fileRaise_frame]; rfl
  have reference : ((s.clearRuntime cause).fileRaise (.begins .referenceLost)).reference.lost = true := by rw [fileRaise_frame]; rfl
  have safe : ∀ k, ((s.clearRuntime cause).fileRaise (.begins .referenceLost)).inSafe k = false := fun k => by
    rw [inSafe_of_trains (s := s.clearRuntime cause) (by rw [fileRaise_frame])]
    unfold State.inSafe
    rw [show (s.clearRuntime cause).train k = .reset from Vec.get_replicate _ _]
    rfl
  refine ⟨?_, ?_, ?_, ?_, fun k => ?_⟩
  · rw [held]; exact List.pairwise_singleton _ _
  · rw [held]; exact fun c hc => List.mem_singleton.1 hc ▸ rfl
  · rw [raised]; exact fun _ hx => (List.not_mem_nil hx).elim
  · rw [held, raised, reference]; rfl
  · rw [held, raised, safe]
    rfl

theorem resetBlocks_noticesSound (low : s.resetLow = false) (cause : ResetCause) (v : Vec 4 Level) : (s.resetBlocks cause v).noticesSound := by
  have same := resetBlocks_same s cause v
  have cleared : (s.clearRuntime cause).noticesSound := fun l => by
    rw [pendingSound_iff, clearRuntime_notice]
    exact ⟨.nil, (Bool.and_false _).symm⟩
  exact noticesSound_of_same (fileRaise_noticesSound cleared low rfl) same.active same.held same.notices same.resetLow

theorem applyStations_told (old : Params) (s : State) : Told s (State.applyStations old s) := by
  unfold State.applyStations
  split
  · have cleared : Told s { s with stations := s.stations.map fun r => { r with counter := 0 } } := .of_same rfl rfl rfl rfl
    exact cleared.trans (redecide_told _)
  · exact redecide_told s

theorem applyStaged_told (s : State) : Told s s.applyStaged := by
  have notices : Told s s.applyNotices := by rw [applyNotices_frame]; exact .of_same rfl rfl rfl rfl
  have channels : Told s.applyNotices s.applyChannels := by
    rw [State.applyChannels, applyChannels_frame]; exact .of_same rfl rfl rfl rfl
  have reference : Told s.applyChannels s.applyReference := applyStations_told s.active s.applyChannels
  have tables : Told s.applyReference s.applyTables := by rw [applyTables_frame]; exact .of_same rfl rfl rfl rfl
  have limits : Told s.applyTables s.applyLimits :=
    Told.trans (forEach_induct (P := Told s.applyTables) (fun h _ _ told => told.trans (applyLimit_moves _ h _).told) (.refl _))
      (endEvent_told _)
  have shafts : Told s.applyLimits s.applyShafts :=
    have same := applyShafts_same s
    .of_same same.held same.raised same.reference same.trains
  have drives : Told s.applyShafts s.applyDrives := (applyDrives_same s).told
  have postures : Told s.applyDrives s.applyStaged :=
    have same := decidePostures_same s.applyDrives s.active
    .of_same same.held same.raised same.reference same.trains
  exact ((((((notices.trans channels).trans reference).trans tables).trans limits).trans shafts).trans drives).trans postures

theorem applyNotices_rerouted {l : Link} (sound : s.pendingSound l) (low : s.resetLow = false) :
    Rerouted s.active l (State.markPending s.active { s with active := s.staged }) s.applyNotices := by
  obtain ⟨pending, attention⟩ := (pendingSound_iff s l).1 sound
  refine reroute_rerouted (s := State.markPending s.active { s with active := s.staged }) pending.order ?_ pending.routed
  rw [low] at attention
  exact attention

theorem applyStaged_notices (s : State) : s.applyStaged.notices = s.applyNotices.notices := by
  rw [applyStaged_eq, (decidePostures_same _ _).notices, (applyDrives_same s).notices, (applyShafts_same s).notices,
    (applyLimits_same s).notices, applyTables_frame, applyReference_frame]

theorem applyStaged_noticesSound (sound : s.noticesSound) (low : s.resetLow = false) : s.applyStaged.noticesSound := by
  have rerouted : s.applyNotices.noticesSound := fun l => by
    have change := applyNotices_rerouted (sound l) low
    rw [pendingSound_iff]
    refine ⟨change.pending (reroute_frame _ _) ((pendingSound_iff s l).1 (sound l)).1, ?_⟩
    rw [change.attention, applyNotices_frame, low]
    rfl
  refine noticesSound_of_same rerouted ?_ ?_ (applyStaged_notices s) ?_ <;> rw [applyStaged_frame, applyNotices_frame]

/-! Every effect. -/

theorem lineHeld_noticesSound (sound : s.noticesSound) : State.noticesSound { s with
    resetLow := true, pwm := .replicate 24 0, notices := s.notices.map fun x => { x with attention := false } } := fun l => by
  have notice : State.notice { s with
      resetLow := true, pwm := .replicate 24 0, notices := s.notices.map fun x => { x with attention := false } } l =
      { s.notice l with attention := false } := Vec.get_map _ _ _
  rw [pendingSound_iff, notice]
  exact ⟨((pendingSound_iff s l).1 (sound l)).1, rfl⟩

end

theorem Effect.heldSound {s t : State} (h : Effect s t) (sound : s.heldSound) : t.heldSound := by
  have told {t : State} (h : Told s t) : t.heldSound := h.heldSound sound
  cases h with
  | event h => exact told h.told
  | second => exact told (tick_told s)
  | defaults cause v => exact resetBlocks_heldSound s.toDefaults cause v
  | restarted => exact resetBlocks_heldSound { s with ports := s.ports.map LinkPort.restarted } _ _
  | noticeHandled => exact handleNotice_heldSound sound
  | published l c v => exact told (publish_told s l c v)
  | wentStale c => exact told (goStale_told s c)
  | evaluated k => exact told (evaluate_told s k)
  | demandAccepted l k f => rw [acceptDemand_frame]; exact told (.of_same rfl rfl rfl rfl)
  | demandExpired k l => rw [expireDemand_frame]; exact told (.of_edges rfl rfl (.singleton rfl) rfl fun _ => rfl)
  | demandWithdrawn k l => rw [changeTable_frame]; exact told (.of_same rfl rfl rfl rfl)
  | basisTaken k b a =>
    have same := takeBasis_same (s.setHandoffs (s.handoffs.eraseP (Handoff.isShaft k .sequencer))) k b a
    exact told (.of_same same.held same.raised same.reference same.trains)
  | requestTaken k v =>
    have same := takeRequest_same (s.setHandoffs (s.handoffs.eraseP (Handoff.isShaft k .driveStage))) k v
    exact told (.of_same same.held same.raised same.reference same.trains)
  | sensedLow n => rw [senseLow_frame]; exact told (.of_same rfl rfl rfl rfl)
  | sensedHigh n => rw [senseHigh_frame]; exact told (.of_same rfl rfl rfl rfl)
  | assertionEnded n => rw [endAssertion_frame]; exact told (.of_same rfl rfl rfl rfl)
  | applied => exact told (applyStaged_told s)
  | lockSet => rw [setLock_frame]; exact told (.of_same rfl rfl rfl rfl)
  | reportRefused c => exact told (.raise s rfl)
  | referenceRead => exact told (.of_edges rfl (List.append_nil _).symm .nil rfl fun _ => rfl)
  | noticesCleared | noticeTaken | noticeAcked | port | lineHeld | accumulated | periodBegun | staged | discarded =>
    exact told (.of_same rfl rfl rfl rfl)

theorem Effect.noticesSound {s t : State} (h : Effect s t) (held : s.heldSound) (sound : s.noticesSound) : t.noticesSound := by
  have same {t : State} := noticesSound_of_same (t := t) sound
  have pending (l : Link) := ((pendingSound_iff s l).1 (sound l)).1
  cases h with
  | event h => exact same h.same.active h.same.held h.same.notices h.same.resetLow
  | lineHeld => exact lineHeld_noticesSound sound
  | defaults cause v => exact resetBlocks_noticesSound (s := s.toDefaults) rfl cause v
  | restarted awake => exact resetBlocks_noticesSound (s := { s with ports := s.ports.map LinkPort.restarted }) awake _ _
  | noticesCleared l awake => exact setEntries_noticesSound sound awake .nil
  | noticeTaken l e awake => exact setEntries_noticesSound sound awake ((pending l).take e)
  | noticeAcked l c awake => exact setEntries_noticesSound sound awake ((pending l).ack c)
  | noticeHandled awake => exact handleNotice_noticesSound sound held.raised awake
  | published l c v => rw [publish_frame]; exact same rfl rfl rfl rfl
  | wentStale c => rw [goStale_frame]; exact same rfl rfl rfl rfl
  | evaluated k => rw [evaluate_frame]; exact same rfl rfl rfl rfl
  | demandAccepted l k f => rw [acceptDemand_frame]; exact same rfl rfl rfl rfl
  | demandExpired k l => rw [expireDemand_frame]; exact same rfl rfl rfl rfl
  | demandWithdrawn k l => rw [changeTable_frame]; exact same rfl rfl rfl rfl
  | basisTaken k b a =>
    have frame := takeBasis_same (s.setHandoffs (s.handoffs.eraseP (Handoff.isShaft k .sequencer))) k b a
    exact same frame.active frame.held frame.notices frame.resetLow
  | requestTaken k v =>
    have frame := takeRequest_same (s.setHandoffs (s.handoffs.eraseP (Handoff.isShaft k .driveStage))) k v
    exact same frame.active frame.held frame.notices frame.resetLow
  | sensedLow n => rw [senseLow_frame]; exact same rfl rfl rfl rfl
  | sensedHigh n => rw [senseHigh_frame]; exact same rfl rfl rfl rfl
  | assertionEnded n => rw [endAssertion_frame]; exact same rfl rfl rfl rfl
  | applied awake => exact applyStaged_noticesSound sound awake
  | lockSet => rw [setLock_frame]; exact same rfl rfl rfl rfl
  | second | reportRefused | referenceRead | port | accumulated | periodBegun | staged | discarded => exact same rfl rfl rfl rfl

/-- Settles O55: each effect tells the Notice Table what it changes, and keeps the pending sets and the held list sound. -/
theorem noticesStaySound : Obligations.NoticesStaySound := by
  unfold Obligations.NoticesStaySound
  intro s t sound h
  refine step_keeps (P := fun s => s.noticesSound ∧ s.heldSound) (fun s rest h => ?queue) (fun s t e h => ?effect)
    ⟨sound.notices, sound.held⟩ h
  case queue => exact ⟨noticesSound_of_same h.1 rfl rfl rfl rfl, Told.heldSound (s := s) (t := { s with pending := rest }) (.of_same rfl rfl rfl rfl) h.2⟩
  case effect => exact ⟨e.noticesSound h.2 h.1, e.heldSound h.2⟩

end Sys2Proof.Machine
end

section
/-! Life safety (chapter 9) at every step. -/

namespace Sys2Proof.Machine

/-! What the posture changes in flight come to. -/

section
variable {k : Train} {x : Handoff} {xs : List Handoff} {b : Bool} {v : Option OutputValues}

theorem safeAfter_nil (k : Train) (b : Bool) : safeAfter k [] b = b := rfl

theorem postureAfter_nil (k : Train) (v : Option OutputValues) : postureAfter k [] v = v := rfl

theorem safeAfter_cons (k : Train) (x : Handoff) (xs : List Handoff) (b : Bool) :
    safeAfter k (x :: xs) b = safeAfter k xs (safeAfter k [x] b) := by
  cases x <;> rfl

theorem postureAfter_cons (k : Train) (x : Handoff) (xs : List Handoff) (v : Option OutputValues) :
    postureAfter k (x :: xs) v = postureAfter k xs (postureAfter k [x] v) := by
  cases x <;> rfl

theorem safeAfter_append (k : Train) (xs ys : List Handoff) (b : Bool) :
    safeAfter k (xs ++ ys) b = safeAfter k ys (safeAfter k xs b) := by
  induction xs generalizing b with
  | nil => rfl
  | cons x xs ih => rw [List.cons_append, safeAfter_cons, ih, safeAfter_cons k x xs]

theorem postureAfter_append (k : Train) (xs ys : List Handoff) (v : Option OutputValues) :
    postureAfter k (xs ++ ys) v = postureAfter k ys (postureAfter k xs v) := by
  induction xs generalizing v with
  | nil => rfl
  | cons x xs ih => rw [List.cons_append, postureAfter_cons, ih, postureAfter_cons k x xs]

/-- A hand-off that is no posture news of the train does not count for it. -/
theorem safeAfter_of_other (h : Handoff.isPostureNews k x = false) (b : Bool) : safeAfter k [x] b = b := by
  cases x with
  | postureBegins j => exact if_neg (of_decide_eq_false h)
  | postureEnds j => exact if_neg (of_decide_eq_false h)
  | _ => rfl

theorem postureAfter_of_other (h : Handoff.isPosture k x = false) (v : Option OutputValues) : postureAfter k [x] v = v := by
  cases x with
  | posture j w => exact if_neg (of_decide_eq_false h)
  | _ => rfl

theorem other_of_notPosture (h : x.ofPosture = false) (k : Train) :
    Handoff.isPostureNews k x = false ∧ Handoff.isPosture k x = false := by
  cases x <;> first | exact ⟨rfl, rfl⟩ | cases h

theorem safeAfter_filter (k : Train) (xs : List Handoff) (b : Bool) : safeAfter k (xs.filter Handoff.ofPosture) b = safeAfter k xs b := by
  induction xs generalizing b with
  | nil => rfl
  | cons x xs ih =>
    cases posture : x.ofPosture with
    | true => rw [List.filter_cons_of_pos posture, safeAfter_cons, ih, safeAfter_cons k x xs]
    | false =>
      rw [List.filter_cons_of_neg (Bool.eq_false_iff.1 posture), ih, safeAfter_cons k x xs,
        safeAfter_of_other (other_of_notPosture posture k).1]

theorem postureAfter_filter (k : Train) (xs : List Handoff) (v : Option OutputValues) :
    postureAfter k (xs.filter Handoff.ofPosture) v = postureAfter k xs v := by
  induction xs generalizing v with
  | nil => rfl
  | cons x xs ih =>
    cases posture : x.ofPosture with
    | true => rw [List.filter_cons_of_pos posture, postureAfter_cons, ih, postureAfter_cons k x xs]
    | false =>
      rw [List.filter_cons_of_neg (Bool.eq_false_iff.1 posture), ih, postureAfter_cons k x xs,
        postureAfter_of_other (other_of_notPosture posture k).2]

/-- A posture change for one block and train, and another: either may be taken first. -/
theorem after_swap {j : Train} {y : Handoff} {p : Handoff → Bool} (kind : p = Handoff.isPostureNews j ∨ p = Handoff.isPosture j)
    (hx : p x = true) (hy : p y = false) (k : Train) :
    (∀ b, safeAfter k [y, x] b = safeAfter k [x, y] b) ∧ ∀ v, postureAfter k [y, x] v = postureAfter k [x, y] v := by
  simp only [safeAfter_cons k _ [_], postureAfter_cons k _ [_]]
  rcases kind with rfl | rfl
  · have notPosture : Handoff.isPosture k x = false := by cases x <;> first | rfl | cases hx
    refine ⟨fun b => ?_, fun v => by rw [postureAfter_of_other notPosture, postureAfter_of_other notPosture]⟩
    by_cases same : j = k
    · subst same
      rw [safeAfter_of_other hy, safeAfter_of_other hy]
    · have other : Handoff.isPostureNews k x = false := by
        cases x with
        | postureBegins i | postureEnds i => exact decide_eq_false fun e => same ((of_decide_eq_true hx).symm.trans e)
        | _ => rfl
      rw [safeAfter_of_other other, safeAfter_of_other other]
  · have notNews : Handoff.isPostureNews k x = false := by cases x <;> first | rfl | cases hx
    refine ⟨fun b => by rw [safeAfter_of_other notNews, safeAfter_of_other notNews], fun v => ?_⟩
    by_cases same : j = k
    · subst same
      rw [postureAfter_of_other hy, postureAfter_of_other hy]
    · have other : Handoff.isPosture k x = false := by
        cases x with
        | posture i w => exact decide_eq_false fun e => same ((of_decide_eq_true hx).symm.trans e)
        | _ => rfl
      rw [postureAfter_of_other other, postureAfter_of_other other]

/-- The oldest posture change for a block and train may be taken before those in front of it. -/
theorem after_eraseP {j : Train} {p : Handoff → Bool} (kind : p = Handoff.isPostureNews j ∨ p = Handoff.isPosture j)
    (found : xs.find? p = some x) (k : Train) :
    (∀ b, safeAfter k (x :: xs.eraseP p) b = safeAfter k xs b) ∧ ∀ v, postureAfter k (x :: xs.eraseP p) v = postureAfter k xs v := by
  induction xs with
  | nil => cases found
  | cons y ys ih =>
    cases front : p y with
    | true =>
      rw [List.find?_cons_of_pos front] at found
      cases found
      rw [List.eraseP_cons_of_pos front]
      exact ⟨fun _ => rfl, fun _ => rfl⟩
    | false =>
      have back := Bool.eq_false_iff.1 front
      rw [List.find?_cons_of_neg back] at found
      obtain ⟨safe, posture⟩ := ih found
      obtain ⟨swap, swap'⟩ := after_swap kind (List.find?_some found) front k
      rw [List.eraseP_cons_of_neg back]
      refine ⟨fun b => ?_, fun v => ?_⟩
      · rw [safeAfter_cons k y ys, ← safe, ← safeAfter_cons]
        exact (safeAfter_append k [x, y] _ b).trans (by rw [← swap]; exact (safeAfter_append k [y, x] _ b).symm)
      · rw [postureAfter_cons k y ys, ← posture, ← postureAfter_cons]
        exact (postureAfter_append k [x, y] _ v).trans (by rw [← swap']; exact (postureAfter_append k [y, x] _ v).symm)

end

/-- Outputs at the posture's values while a posture is held (R145). -/
def DriveRec.posed (d : DriveRec) : Prop :=
  ∀ v ∈ d.posture, d.wheel = ⟨v.ws, v.ws⟩ ∧ d.bypass = ⟨v.bp, v.bp⟩ ∧ d.oa = ⟨v.oa, v.oa⟩ ∧ d.ramp = none

/-- The two blocks once they have taken a list of posture changes: each train in SAFE and its posture as the Life-Safety Interface has it. -/
structure PostureChain (s : State) (xs : List Handoff) : Prop where
  safe : ∀ k, safeAfter k xs (s.inSafe k) = (s.posture k).isSome
  posture : ∀ k, postureAfter k xs (s.drive k).posture = s.postureOf k
  posed : ∀ k, (s.drive k).posed

theorem lifeSafetySound_iff (s : State) : s.lifeSafetySound ↔
    (∀ n, (s.line n).sound) ∧ (∀ k, s.posture k = s.decidedPosture k) ∧ PostureChain s (inFlight s) := by
  constructor
  · rintro ⟨lines, decided, safe, posture, outputs⟩
    exact ⟨lines, decided, fun k => (safeAfter_filter k _ _).trans (safe k), fun k => (postureAfter_filter k _ _).trans (posture k), outputs⟩
  · rintro ⟨lines, decided, safe, posture, outputs⟩
    exact ⟨lines, decided, fun k => (safeAfter_filter k _ _).symm.trans (safe k), fun k => (postureAfter_filter k _ _).symm.trans (posture k),
      outputs⟩

/-! What keeps the chain. -/

/-- Two states between which no posture change was handed on, taken or undone. -/
structure KeepsPostures (s t : State) : Prop where
  flight : inFlight t = inFlight s
  safe : ∀ k, t.inSafe k = s.inSafe k
  posture : ∀ k, (t.drive k).posture = (s.drive k).posture
  posed : ∀ k, (s.drive k).posed → (t.drive k).posed

section
variable {s t u : State}

theorem KeepsPostures.trans (h : KeepsPostures s t) (h' : KeepsPostures t u) : KeepsPostures s u :=
  ⟨h'.flight.trans h.flight, fun k => (h'.safe k).trans (h.safe k), fun k => (h'.posture k).trans (h.posture k),
    fun k posed => h'.posed k (h.posed k posed)⟩

theorem KeepsPostures.of_handoffs (flight : inFlight t = inFlight s) (trains : t.trains = s.trains) (drives : t.drives = s.drives) :
    KeepsPostures s t := by
  have drive : ∀ k, t.drive k = s.drive k := fun k => by rw [State.drive, drives]; rfl
  exact ⟨flight, inSafe_of_trains trains, fun k => by rw [drive], fun k posed => by rw [drive]; exact posed⟩

theorem KeepsPostures.of_same (handoffs : t.handoffs = s.handoffs) (trains : t.trains = s.trains) (drives : t.drives = s.drives) :
    KeepsPostures s t := .of_handoffs (inFlight_of_handoffs handoffs) trains drives

theorem KeepsPostures.refl (s : State) : KeepsPostures s s := .of_same rfl rfl rfl

theorem KeepsPostures.handOn {x : Handoff} (other : x.ofPosture = false) (s : State) : KeepsPostures s (s.handOn x) :=
  .of_handoffs (inFlight_handOn other s) rfl rfl

theorem KeepsPostures.setDrive {k : Train} {d : DriveRec} (posture : d.posture = (s.drive k).posture)
    (posed : (s.drive k).posed → d.posed) : KeepsPostures s (s.setDrive k d) := by
  refine ⟨rfl, fun _ => rfl, fun j => ?_, fun j old => ?_⟩ <;> rw [setDrive_drive] <;> split
  · next same => rw [← same]; exact posture
  · rfl
  · next same => rw [← same] at old; exact posed old
  · exact old

theorem PostureChain.keep {xs : List Handoff} (h : KeepsPostures s t) (active : t.active = s.active) (postures : t.postures = s.postures)
    (chain : PostureChain s xs) : PostureChain t xs := by
  have posture : ∀ k, t.posture k = s.posture k := fun k => by rw [State.posture, postures]; rfl
  refine ⟨fun k => ?_, fun k => ?_, fun k => h.posed k (chain.posed k)⟩
  · rw [h.safe, posture]; exact chain.safe k
  · rw [h.posture, State.postureOf, posture, active]; exact chain.posture k

/-- The decision of a posture reads the assertions of the lines and the active map alone. -/
theorem decidedPosture_of_same (asserted : ∀ n, (t.line n).asserted = (s.line n).asserted) (active : t.active = s.active) (k : Train) :
    t.decidedPosture k = s.decidedPosture k := by
  have governs : t.governs k = s.governs k := funext fun n => by rw [State.governs, asserted, active]; rfl
  unfold State.decidedPosture
  rw [governs, active]

theorem lifeSafetySound_of_keep (sound : s.lifeSafetySound) (h : KeepsPostures s t) (active : t.active = s.active)
    (postures : t.postures = s.postures) (lines : t.lines = s.lines) : t.lifeSafetySound := by
  obtain ⟨sounds, decided, chain⟩ := (lifeSafetySound_iff s).1 sound
  have line : ∀ n, t.line n = s.line n := fun n => by rw [State.line, lines]; rfl
  refine (lifeSafetySound_iff t).2 ⟨fun n => by rw [line]; exact sounds n, fun k => ?_, h.flight ▸ chain.keep h active postures⟩
  rw [decidedPosture_of_same (fun n => by rw [line]) active, State.posture, postures]
  exact decided k

/-! The Train Sequencer. -/

theorem SequencerMove.keepsPostures (h : SequencerMove s t) : KeepsPostures s t := by
  have safe (k : Train) := inSafe_of_stays (h.stays k)
  cases h with
  | train k x => exact ⟨rfl, safe, fun _ => rfl, fun _ => id⟩
  | shaft | raised => exact .of_same rfl rfl rfl
  | handedOn x own =>
    refine .handOn ?_ s
    unfold Handoff.ofSequencer at own
    split at own
    · rfl
    · rfl
    · cases own

theorem SequencerMoves.keepsPostures (h : SequencerMoves s t) : KeepsPostures s t := by
  induction h with
  | refl => exact .refl s
  | tail _ last ih => exact ih.trans last.keepsPostures

/-- A train's state set between moves: postures are kept but for SAFE itself. -/
theorem MovesThrough.keepsDrives {k : Train} {st : TrainState} (h : MovesThrough k st s t) : inFlight t = inFlight s ∧ t.drives = s.drives := by
  have drives {u v : State} (h : SequencerMoves u v) : v.drives = u.drives := by rw [h.frame]
  refine h.keep (P := fun u => inFlight u = inFlight s ∧ u.drives = s.drives)
    (fun u v moves hu => ⟨moves.keepsPostures.flight.trans hu.1, (drives moves).trans hu.2⟩) (fun _ _ _ hu => hu) ⟨rfl, rfl⟩

theorem MovesThrough.keepsPostures {k : Train} {st : TrainState} (h : MovesThrough k st s t) (before : s.inSafe k = false)
    (after : st ≠ .safe) : KeepsPostures s t := by
  obtain ⟨flight, drives⟩ := h.keepsDrives
  have drive : ∀ k, t.drive k = s.drive k := fun k => by rw [State.drive, drives]; rfl
  refine ⟨flight, fun j => ?_, fun j => by rw [drive], fun j posed => by rw [drive]; exact posed⟩
  by_cases same : k = j
  · subst same
    rw [h.inSafe_self, decide_eq_false after, before]
  · exact inSafe_of_stays (h.state_ne same)

theorem endEvent_keepsPostures (s : State) : KeepsPostures s s.endEvent := (endEvent_moves s).keepsPostures

theorem leaveHeld_keepsPostures (s : State) (k : Train) : KeepsPostures s (s.leaveHeld k) := by
  unfold State.leaveHeld
  split
  · next held =>
    refine (enterSteady_through s k _).keepsPostures ?_ TrainState.noConfusion
    unfold State.inSafe
    rw [held]
  · exact .refl s

theorem enterSafe_inSafe (s : State) (k j : Train) : (s.enterSafe k).inSafe j = if k = j then true else s.inSafe j := by
  unfold State.enterSafe
  split
  · next safe =>
    split
    · next same => rw [← same]; exact inSafe_iff.2 safe
    · rfl
  · have through := takeOver_through s k .safe postureBases
    split
    · next same =>
      subst same
      exact through.inSafe_self
    · next other => exact inSafe_of_stays (t := s.takeOver k .safe postureBases) (through.state_ne other)

theorem leaveSafe_inSafe (s : State) (k j : Train) : (s.leaveSafe k).inSafe j = if k = j then false else s.inSafe j := by
  unfold State.leaveSafe
  split
  · have through := enterSteady_through s k .bypass
    split
    · next same =>
      subst same
      exact through.inSafe_self
    · next other => exact inSafe_of_stays (t := s.enterSteady k .bypass) (through.state_ne other)
  · next other =>
    split
    · next same =>
      rw [← same]
      exact Bool.eq_false_iff.2 fun safe => other (inSafe_iff.1 safe)
    · rfl

/-! The Drive Stage. -/

/-- The record of a recomputation under a posture is the posture's. -/
theorem recomputed_posed {k : Train} (wheel : ∀ v ∈ (s.drive k).posture, (s.drive k).wheel.effective = v.ws) : (s.recomputed k).posed := by
  intro v hv
  have posture : (s.drive k).posture = some v := hv
  have command : ∀ hold band, (s.wheelCommand k hold band).1 = v.ws := fun _ _ => by rw [State.wheelCommand, posture]
  have bypass : s.bypassCommand k = v.bp := by rw [State.bypassCommand, posture]
  have oa : s.oaCommand k = v.oa := by rw [State.oaCommand, posture]
  unfold State.recomputed
  simp only [command, bypass, oa, OutputRec.jump, rampAfter, wheel v hv, if_true, and_self]

theorem recomputed_posture (s : State) (k : Train) : (s.recomputed k).posture = (s.drive k).posture := rfl

theorem recompute_keepsPostures (s : State) (k : Train) : KeepsPostures s (s.recompute k) := by
  refine ⟨inFlight_recompute s k, fun j => inSafe_of_trains (recompute_same s k).trains j, fun j => ?_, fun j posed => ?_⟩ <;>
    by_cases same : k = j
  · rw [← same, recompute_drive_self]; rfl
  · rw [recompute_drive_ne same]
  · subst same
    rw [recompute_drive_self]
    exact recomputed_posed fun v hv => by rw [(posed v hv).1]
  · rw [recompute_drive_ne same]
    exact posed

theorem formRequest_keepsPostures (s : State) (k : Train) : KeepsPostures s (s.formRequest k) := by
  unfold State.formRequest
  dsimp only
  split
  · exact .refl s
  · have stored : KeepsPostures s (s.setDrive k { s.drive k with
        lastRequest := economizerRequest (s.params k).oaMin (s.effective k).d }) := .setDrive rfl id
    exact stored.trans (.handOn rfl _)

theorem store_keepsPostures (s : State) (k : Train) (o : Occasion) : KeepsPostures s (s.store k o) := by
  cases o with
  | bases b => exact .setDrive rfl id
  | grant g => exact .setDrive rfl id
  | demand => exact formRequest_keepsPostures s k
  | record | lockoutStart | lockoutExpiry | holdValues | leader => exact .refl s

theorem wheelZero_keepsPostures (s : State) (k : Train) (before : Nat) : KeepsPostures s (s.wheelZero k before) := by
  unfold State.wheelZero
  split
  · have set : KeepsPostures s (s.setDrive k { s.drive k with lockoutHold := true }) := .setDrive rfl id
    exact set.trans (.handOn rfl _)
  · exact .refl s

theorem rampStep_at_command (r c : Nat) : rampStep r ⟨c, c⟩ = c := by
  unfold rampStep
  rw [if_pos (Nat.le_refl c)]
  exact min_eq_left (Nat.le_add_right c r)

theorem ramp_keepsPostures (s : State) (k : Train) : KeepsPostures s (s.ramp k) := by
  unfold State.ramp
  dsimp only
  refine KeepsPostures.trans (t := s.setDrive k _) ?_ (wheelZero_keepsPostures _ k _)
  refine .setDrive rfl fun posed v hv => ?_
  obtain ⟨wheel, bypass, oa, -⟩ := posed v hv
  refine ⟨?_, bypass, oa, ?_⟩
  · simp only [wheel, rampStep_at_command]
  · simp only [wheel, rampStep_at_command, if_pos]

theorem applyPosture_drive_ne {k j : Train} (h : k ≠ j) (s : State) (v : OutputValues) : (s.applyPosture k v).drive j = s.drive j := by
  have zero (u : State) (n : Nat) : (u.wheelZero k n).drive j = u.drive j := by
    rw [wheelZero_eq]
    split
    · exact Vec.get_set_ne _ h _
    · rfl
  unfold State.applyPosture
  dsimp only
  rw [zero]
  unfold State.stopRamp
  dsimp only
  rw [setDrive_drive, if_neg h, recompute_drive_ne h, setDrive_drive, if_neg h]

theorem wheelZero_drive_self (s : State) (k : Train) (n : Nat) : (s.wheelZero k n).drive k =
    { s.drive k with lockoutHold := decide (n ≠ 0 ∧ (s.drive k).wheel.effective = 0) || (s.drive k).lockoutHold } := by
  rw [wheelZero_eq]
  split
  · next rest =>
    rw [decide_eq_true rest, Bool.true_or]
    exact Vec.get_set_self _ _ _
  · next moves =>
    rw [decide_eq_false moves, Bool.false_or]

/-- The record of a posture that begins or changes (R145). -/
theorem applyPosture_drive_self (s : State) (k : Train) (v : OutputValues) : (s.applyPosture k v).drive k =
    let d := (s.setDrive k { s.drive k with posture := some v }).recomputed k
    { d with
      wheel := ⟨v.ws, v.ws⟩
      ramp := none
      lockoutHold := decide ((s.drive k).wheel.effective ≠ 0 ∧ v.ws = 0) || d.lockoutHold } := by
  have command : ((s.setDrive k { s.drive k with posture := some v }).recomputed k).wheel.command = v.ws := by
    show (State.wheelCommand _ k _ _).1 = v.ws
    unfold State.wheelCommand
    rw [setDrive_drive_self]
  unfold State.applyPosture
  dsimp only
  rw [wheelZero_drive_self]
  unfold State.stopRamp
  dsimp only
  rw [setDrive_drive_self, recompute_drive_self, command]
  rfl

theorem applyPosture_posture (s : State) (k : Train) (v : OutputValues) : ((s.applyPosture k v).drive k).posture = some v := by
  rw [applyPosture_drive_self]
  show ((s.setDrive k _).drive k).posture = some v
  rw [setDrive_drive_self]

theorem applyPosture_posed (s : State) (k : Train) (v : OutputValues) : ((s.applyPosture k v).drive k).posed := by
  intro w hw
  rw [applyPosture_posture] at hw
  cases hw
  rw [applyPosture_drive_self]
  have posture : ((s.setDrive k { s.drive k with posture := some v }).drive k).posture = some v := by rw [setDrive_drive_self]
  have bypass : (s.setDrive k { s.drive k with posture := some v }).bypassCommand k = v.bp := by rw [State.bypassCommand, posture]
  have oa : (s.setDrive k { s.drive k with posture := some v }).oaCommand k = v.oa := by rw [State.oaCommand, posture]
  refine ⟨rfl, ?_, ?_, rfl⟩
  · show OutputRec.jump (State.bypassCommand _ k) = _
    rw [bypass]; rfl
  · show OutputRec.jump (State.oaCommand _ k) = _
    rw [oa]; rfl

theorem endPosture_posture (s : State) (k : Train) : ((s.endPosture k).drive k).posture = none := by
  unfold State.endPosture
  rw [recompute_drive_self, recomputed_posture, setDrive_drive_self]

theorem endPosture_drive_ne {k j : Train} (h : k ≠ j) (s : State) : (s.endPosture k).drive j = s.drive j := by
  unfold State.endPosture
  rw [recompute_drive_ne h, setDrive_drive, if_neg h]

/-! A posture change taken. -/

theorem takePosture_inSafe (x : Handoff) (s : State) (k : Train) : (State.takePosture x s).inSafe k = safeAfter k [x] (s.inSafe k) := by
  cases x with
  | postureBegins j => exact ((endEvent_keepsPostures _).safe k).trans (enterSafe_inSafe s j k)
  | postureEnds j => exact ((endEvent_keepsPostures _).safe k).trans (leaveSafe_inSafe s j k)
  | posture j w =>
    cases w with
    | some v => exact inSafe_of_trains (applyPosture_same s j v).trains k
    | none => exact inSafe_of_trains (endPosture_same s j).trains k
  | decision | wheelZero | drive | shaft => rfl

theorem drive_of_drives (h : t.drives = s.drives) (k : Train) : t.drive k = s.drive k := by rw [State.drive, h]; rfl

theorem takePosture_posture (x : Handoff) (s : State) (k : Train) :
    ((State.takePosture x s).drive k).posture = postureAfter k [x] (s.drive k).posture := by
  cases x with
  | postureBegins j =>
    exact ((endEvent_keepsPostures _).posture k).trans (congrArg _ (drive_of_drives (enterSafe_same s j).drives k))
  | postureEnds j =>
    exact ((endEvent_keepsPostures _).posture k).trans (congrArg _ (drive_of_drives (leaveSafe_same s j).drives k))
  | posture j w =>
    show _ = if j = k then w else (s.drive k).posture
    split
    · next same =>
      subst same
      cases w with
      | some v => exact applyPosture_posture s j v
      | none => exact endPosture_posture s j
    · next other =>
      cases w with
      | some v => exact congrArg _ (applyPosture_drive_ne other s v)
      | none => exact congrArg _ (endPosture_drive_ne other s)
  | decision | wheelZero | drive | shaft => rfl

theorem takePosture_posed {x : Handoff} {k : Train} (posed : (s.drive k).posed) : ((State.takePosture x s).drive k).posed := by
  cases x with
  | postureBegins j => exact (endEvent_keepsPostures _).posed k (drive_of_drives (enterSafe_same s j).drives k ▸ posed)
  | postureEnds j => exact (endEvent_keepsPostures _).posed k (drive_of_drives (leaveSafe_same s j).drives k ▸ posed)
  | posture j w =>
    by_cases same : j = k
    · subst same
      cases w with
      | some v => exact applyPosture_posed s j v
      | none =>
        intro v hv
        exact absurd (hv.symm.trans (endPosture_posture s j)) (Option.some_ne_none v)
    · cases w with
      | some v => exact (applyPosture_drive_ne same s v).symm ▸ posed
      | none => exact (endPosture_drive_ne same s).symm ▸ posed
  | decision | wheelZero | drive | shaft => exact posed

/-- A posture change taken leaves the rest of the chain. -/
theorem takePosture_chain {x : Handoff} {xs : List Handoff} (chain : PostureChain s (x :: xs)) : PostureChain (State.takePosture x s) xs := by
  have same := takePosture_same x s
  refine ⟨fun k => ?_, fun k => ?_, fun k => takePosture_posed (chain.posed k)⟩
  · rw [takePosture_inSafe, ← safeAfter_cons, same.posture]
    exact chain.safe k
  · rw [takePosture_posture, ← postureAfter_cons, State.postureOf, same.posture, same.active]
    exact chain.posture k

theorem takePostures_chain {xs : List Handoff} (chain : PostureChain s xs) : PostureChain (forEach xs State.takePosture s) [] := by
  induction xs generalizing s with
  | nil => exact chain
  | cons x xs ih => exact ih (takePosture_chain chain)

theorem PostureChain.eraseP {j : Train} {p : Handoff → Bool} {x : Handoff} {xs : List Handoff}
    (kind : p = Handoff.isPostureNews j ∨ p = Handoff.isPosture j) (found : xs.find? p = some x) (chain : PostureChain s xs) :
    PostureChain s (x :: xs.eraseP p) :=
  ⟨fun k => ((after_eraseP kind found k).1 _).trans (chain.safe k), fun k => ((after_eraseP kind found k).2 _).trans (chain.posture k),
    chain.posed⟩

theorem lifeSafetySound_of_chain (sound : s.lifeSafetySound) (same : SameButEvent s t) (chain : PostureChain t t.handoffs) :
    t.lifeSafetySound := by
  obtain ⟨safe, posture, posed⟩ := chain
  refine ⟨fun n => by rw [same.line]; exact sound.lines n, fun k => ?_, safe, posture, posed⟩
  rw [same.posture, decidedPosture_of_same (fun n => by rw [same.line]) same.active]
  exact sound.decided k

theorem lifeSafety_chain (sound : s.lifeSafetySound) : PostureChain s s.handoffs := ⟨sound.safe, sound.posture, sound.outputs⟩

theorem PostureChain.setHandoffs {xs : List Handoff} (chain : PostureChain s xs) (ys : List Handoff) : PostureChain (s.setHandoffs ys) xs :=
  ⟨chain.safe, chain.posture, chain.posed⟩

theorem completePostures_chain (sound : s.lifeSafetySound) : PostureChain s.completePostures [] :=
  takePostures_chain (((lifeSafetySound_iff s).1 sound).2.2.setHandoffs _)

theorem completePostures_lifeSafetySound (sound : s.lifeSafetySound) : s.completePostures.lifeSafetySound := by
  obtain ⟨safe, posture, posed⟩ := completePostures_chain sound
  have settled := completePostures_settled s
  refine lifeSafetySound_of_chain sound (completePostures_frame s) ⟨fun k => ?_, fun k => ?_, posed⟩
  · rw [← safeAfter_filter, settled]; exact safe k
  · rw [← postureAfter_filter, settled]; exact posture k

theorem takePosture_lifeSafetySound (sound : s.lifeSafetySound) {x : Handoff} {p : Handoff → Bool} {k : Train}
    (kind : p = Handoff.isPostureNews k ∨ p = Handoff.isPosture k) (found : s.handoffs.find? p = some x) :
    (State.takePosture x (s.setHandoffs (s.handoffs.eraseP p))).lifeSafetySound := by
  obtain ⟨safe, posture, posed⟩ := takePosture_chain (((lifeSafety_chain sound).eraseP kind found).setHandoffs (s.handoffs.eraseP p))
  have flight := inFlight_takePosture x (s.setHandoffs (s.handoffs.eraseP p))
  refine lifeSafetySound_of_chain sound (SameButEvent.trans (t := s.setHandoffs (s.handoffs.eraseP p)) rfl (takePosture_same x _))
    ⟨fun k => ?_, fun k => ?_, posed⟩
  · rw [← safeAfter_filter]
    exact (congrArg (safeAfter k · _) flight).trans ((safeAfter_filter k _ _).trans (safe k))
  · rw [← postureAfter_filter]
    exact (congrArg (postureAfter k · _) flight).trans ((postureAfter_filter k _ _).trans (posture k))

theorem inFlight_eraseP {p : Handoff → Bool} (news : ∀ x, p x = true → x.ofPosture = false) (xs : List Handoff) :
    (xs.eraseP p).filter Handoff.ofPosture = xs.filter Handoff.ofPosture := by
  induction xs with
  | nil => rfl
  | cons x xs ih =>
    cases front : p x with
    | true => rw [List.eraseP_cons_of_pos front, List.filter_cons_of_neg (Bool.eq_false_iff.1 (news x front))]
    | false => rw [List.eraseP_cons_of_neg (Bool.eq_false_iff.1 front), List.filter_cons, List.filter_cons, ih]

theorem eraseP_keepsPostures {p : Handoff → Bool} (news : ∀ x, p x = true → x.ofPosture = false) (s : State) :
    KeepsPostures s (s.setHandoffs (s.handoffs.eraseP p)) := .of_handoffs (inFlight_eraseP news s.handoffs) rfl rfl

theorem isDrive_ofPosture {k : Train} {src : DriveSource} (x : Handoff) (h : Handoff.isDrive k src x = true) : x.ofPosture = false := by
  cases x <;> first | rfl | cases h

theorem isShaft_ofPosture {k : Train} {src : ShaftSource} (x : Handoff) (h : Handoff.isShaft k src x = true) : x.ofPosture = false := by
  cases x <;> first | rfl | cases h

theorem TrainEvent.lifeSafetySound (h : TrainEvent s t) (sound : s.lifeSafetySound) : t.lifeSafetySound := by
  have same := h.same
  have keep (kept : KeepsPostures s t) : t.lifeSafetySound := lifeSafetySound_of_keep sound kept same.active same.postures same.lines
  cases h with
  | handoffTaken p news => exact keep (eraseP_keepsPostures news s)
  | decided k => exact keep ((decideTarget_moves s k).keepsPostures.trans (endEvent_keepsPostures _))
  | dwellEnded k => exact keep (setDwell_moves s k none).keepsPostures
  | stepEnded k r state =>
    exact keep ((completeStep_moves (by rw [state]; rfl) r).keepsPostures.trans (endEvent_keepsPostures _))
  | wheelStopped k =>
    exact keep (((startLockout_moves s k).keepsPostures.trans (wheelAtRest_moves _ k).keepsPostures).trans (endEvent_keepsPostures _))
  | lockoutEnded k => exact keep ((endLockout_moves s k).keepsPostures.trans (endEvent_keepsPostures _))
  | heldAt k h free =>
    exact keep (((enterHeld_through s k h).keepsPostures free TrainState.noConfusion).trans (endEvent_keepsPostures _))
  | released k => exact keep ((leaveHeld_keepsPostures s k).trans (endEvent_keepsPostures _))
  | postureTaken x p k kind found => exact takePosture_lifeSafetySound sound kind found
  | posturesCompleted => exact completePostures_lifeSafetySound sound
  | commanded k src o =>
    exact keep (((eraseP_keepsPostures isDrive_ofPosture s).trans (store_keepsPostures _ k o)).trans (recompute_keepsPostures _ k))
  | ramped k => exact keep (ramp_keepsPostures s k)

/-! The decision of the postures (R154). -/

/-- What the two blocks are told of a train's new posture (R154). -/
def State.postureNews (old : Params) (s : State) (k : Train) : List Handoff :=
  match s.posture k, s.decidedPosture k with
  | none, none => []
  | none, some a => [.postureBegins k, .posture k (some (s.active.postureValues a.code))]
  | some b, some a =>
    if a.code = b.code ∧ s.active.postureValues a.code = old.postureValues b.code then []
    else [.posture k (some (s.active.postureValues a.code))]
  | some _, none => [.postureEnds k, .posture k none]

theorem decideTrainPosture_eq (old : Params) (k : Train) (s : State) : State.decideTrainPosture old k s =
    { s with postures := s.postures.set k (s.decidedPosture k), handoffs := s.handoffs ++ s.postureNews old k } := by
  unfold State.decideTrainPosture State.postureNews
  cases before : s.posture k <;> cases after : s.decidedPosture k <;> dsimp only
  case none.none => rw [List.append_nil]; rfl
  case none.some a => rw [List.append_cons]; rfl
  case some.none b => rw [List.append_cons]; rfl
  case some.some b a =>
    split
    · rw [List.append_nil]; rfl
    · rfl

/-- The two blocks as they will be about one train, with the values of its posture under a set. -/
structure TrainPosture (p : Params) (s : State) (k : Train) : Prop where
  safe : safeAfter k s.handoffs (s.inSafe k) = (s.posture k).isSome
  posture : postureAfter k s.handoffs (s.drive k).posture = (s.posture k).map fun e => p.postureValues e.code

theorem decideTrainPosture_posture (old : Params) (k j : Train) (s : State) :
    (State.decideTrainPosture old k s).posture j = if k = j then s.decidedPosture k else s.posture j := by
  rw [decideTrainPosture_eq]
  exact Vec.get_set _ _ _ _

/-- The decision for another train says nothing about this one. -/
theorem TrainPosture.other {p old : Params} {k j : Train} (ne : j ≠ k) (h : TrainPosture p s k) :
    TrainPosture p (State.decideTrainPosture old j s) k := by
  have news : (∀ b, safeAfter k (s.postureNews old j) b = b) ∧ ∀ v, postureAfter k (s.postureNews old j) v = v := by
    unfold State.postureNews
    split
    · exact ⟨fun _ => rfl, fun _ => rfl⟩
    · exact ⟨fun _ => if_neg ne, fun _ => if_neg ne⟩
    · split
      · exact ⟨fun _ => rfl, fun _ => rfl⟩
      · exact ⟨fun _ => rfl, fun _ => if_neg ne⟩
    · exact ⟨fun _ => if_neg ne, fun _ => if_neg ne⟩
  have posture := decideTrainPosture_posture old j k s
  rw [if_neg ne] at posture
  constructor <;> rw [posture, decideTrainPosture_eq]
  · exact ((safeAfter_append k _ _ _).trans (news.1 _)).trans h.safe
  · exact ((postureAfter_append k _ _ _).trans (news.2 _)).trans h.posture

/-- The decision for the train brings its posture from the old set to the active one. -/
theorem TrainPosture.decided {old : Params} {k : Train} (h : TrainPosture old s k) :
    TrainPosture s.active (State.decideTrainPosture old k s) k := by
  have posture := decideTrainPosture_posture old k k s
  rw [if_pos rfl] at posture
  have told : (∀ b, b = (s.posture k).isSome → safeAfter k (s.postureNews old k) b = (s.decidedPosture k).isSome) ∧
      ∀ v, v = ((s.posture k).map fun e => old.postureValues e.code) →
        postureAfter k (s.postureNews old k) v = (s.decidedPosture k).map fun e => s.active.postureValues e.code := by
    unfold State.postureNews
    cases before : s.posture k with
    | none =>
      cases after : s.decidedPosture k with
      | none => exact ⟨fun b hb => hb, fun v hv => hv⟩
      | some a => exact ⟨fun _ _ => if_pos rfl, fun _ _ => if_pos rfl⟩
    | some b =>
      cases after : s.decidedPosture k with
      | none => exact ⟨fun _ _ => if_pos rfl, fun _ _ => if_pos rfl⟩
      | some a =>
        dsimp only
        split
        · next same => exact ⟨fun b hb => hb, fun v hv => hv.trans (congrArg some same.2.symm)⟩
        · exact ⟨fun b hb => hb, fun _ _ => if_pos rfl⟩
  constructor <;> rw [posture, decideTrainPosture_eq]
  · exact (safeAfter_append k _ _ _).trans (told.1 _ h.safe)
  · exact (postureAfter_append k _ _ _).trans (told.2 _ h.posture)

theorem decidePostures_posture (old : Params) (s : State) (k : Train) : (s.decidePostures old).posture k = s.decidedPosture k := by
  refine forEach_at (P := fun u => u.active = s.active ∧ u.lines = s.lines) (Q := fun u => u.posture k = s.decidedPosture k)
    (fun j u _ hu => ?_) (fun u hu => ?_) (fun j u other hu => ?_) allTrains_nodup (mem_allTrains k) ⟨rfl, rfl⟩
  · rw [decideTrainPosture_eq]
    exact hu
  · rw [decideTrainPosture_posture, if_pos rfl]
    exact decidedPosture_of_same (fun n => by rw [State.line, hu.2]; rfl) hu.1 k
  · rw [decideTrainPosture_posture, if_neg other]
    exact hu

theorem decidePostures_train {old : Params} {k : Train} (h : TrainPosture old s k) : TrainPosture s.active (s.decidePostures old) k := by
  refine (forEach_at (P := fun u => u.active = s.active ∧ TrainPosture old u k) (Q := fun u => TrainPosture s.active u k)
    (fun j u other hu => ?_) (fun u hu => ?_) (fun j u other hu => ?_) allTrains_nodup (mem_allTrains k) ⟨rfl, h⟩)
  · refine ⟨?_, hu.2.other other⟩
    rw [decideTrainPosture_eq]
    exact hu.1
  · rw [← hu.1]
    exact hu.2.decided
  · exact hu.other other

/-- The postures decided again after a change of lines or of the set: from the values of the old set to those of the active one. -/
theorem decidePostures_lifeSafetySound {old : Params} (lines : ∀ n, (s.line n).sound) (chain : ∀ k, TrainPosture old s k)
    (posed : ∀ k, (s.drive k).posed) : (s.decidePostures old).lifeSafetySound := by
  have same := decidePostures_same s old
  refine ⟨fun n => ?_, fun k => ?_, fun k => (decidePostures_train (chain k)).safe, fun k => ?_, fun k => ?_⟩
  · rw [State.line, same.lines]; exact lines n
  · rw [decidePostures_posture, decidedPosture_of_same (fun n => by rw [State.line, same.lines]; rfl) same.active]
  · rw [(decidePostures_train (chain k)).posture, State.postureOf, same.active]
  · rw [drive_of_drives same.drives]; exact posed k

theorem trainPosture_of_sound (sound : s.lifeSafetySound) (k : Train) : TrainPosture s.active s k := ⟨sound.safe k, sound.posture k⟩

theorem TrainPosture.keep {p : Params} {k : Train} (h : TrainPosture p s k) (kept : KeepsPostures s t) (postures : t.postures = s.postures) :
    TrainPosture p t k := by
  have posture : t.posture k = s.posture k := by rw [State.posture, postures]; rfl
  constructor
  · rw [posture, kept.safe, ← safeAfter_filter]
    exact (congrArg (safeAfter k · _) kept.flight).trans ((safeAfter_filter k _ _).trans h.safe)
  · rw [posture, kept.posture, ← postureAfter_filter]
    exact (congrArg (postureAfter k · _) kept.flight).trans ((postureAfter_filter k _ _).trans h.posture)

/-! The line events. -/

theorem setLine_sound (sound : ∀ n, (s.line n).sound) {n : Line} {r : LineRec} (new : r.sound) (m : Line) : ((s.setLine n r).line m).sound := by
  rw [setLine_line]
  split
  · exact new
  · exact sound m

/-- A line record that leaves the assertion changes no posture. -/
theorem setLine_lifeSafetySound (sound : s.lifeSafetySound) {n : Line} {r : LineRec} (new : r.sound)
    (asserted : r.asserted = (s.line n).asserted) : (s.setLine n r).lifeSafetySound := by
  have decided : ∀ k, (s.setLine n r).decidedPosture k = s.decidedPosture k := decidedPosture_of_same (fun m => by
    rw [setLine_line]
    split
    · next same => rw [← same]; exact asserted
    · rfl) rfl
  exact ⟨setLine_sound sound.lines new, fun k => (sound.decided k).trans (decided k).symm, sound.safe, sound.posture, sound.outputs⟩

theorem setLine_decided_lifeSafetySound (sound : s.lifeSafetySound) {n : Line} {r : LineRec} (new : r.sound) :
    ((s.setLine n r).decidePostures s.active).lifeSafetySound :=
  decidePostures_lifeSafetySound (setLine_sound sound.lines new) (fun k => ⟨sound.safe k, sound.posture k⟩) sound.outputs

theorem low_sound : LineRec.sound ⟨.low, true, none⟩ := ⟨iff_of_true rfl (.inl rfl), fun h => absurd h Bool.false_ne_true⟩

theorem high_sound : LineRec.sound ⟨.high, false, none⟩ :=
  ⟨iff_of_false Bool.false_ne_true (by rintro (h | h) <;> cases h), fun h => absurd h Bool.false_ne_true⟩

theorem senseLow_lifeSafetySound (sound : s.lifeSafetySound) (n : Line) : (s.senseLow n).lifeSafetySound := by
  unfold State.senseLow
  dsimp only
  split
  · next asserted => exact setLine_lifeSafetySound sound low_sound asserted.symm
  · exact setLine_decided_lifeSafetySound sound low_sound

theorem senseHigh_lifeSafetySound (sound : s.lifeSafetySound) (n : Line) : (s.senseHigh n).lifeSafetySound := by
  obtain ⟨counts, -⟩ := sound.lines n
  unfold State.senseHigh
  dsimp only
  split
  · next unasserted =>
    have clear : (s.line n).asserted = false := by simpa using unasserted
    refine setLine_lifeSafetySound sound ⟨?_, fun _ => rfl⟩ rfl
    rw [clear] at counts ⊢
    refine iff_of_false Bool.false_ne_true ?_
    rintro (low | delay)
    · cases low
    · exact Bool.false_ne_true (counts.2 (.inr delay))
  · next asserted =>
    split
    · exact setLine_lifeSafetySound sound ⟨iff_of_true rfl (.inr rfl), fun _ => rfl⟩ (by simpa using asserted)
    · exact setLine_decided_lifeSafetySound sound high_sound

theorem endAssertion_lifeSafetySound (sound : s.lifeSafetySound) {n : Line} (due : timeIsUp (s.line n).delay = true) :
    (s.endAssertion n).lifeSafetySound := by
  obtain ⟨-, high⟩ := sound.lines n
  have delay : (s.line n).delay = some 0 := of_decide_eq_true due
  have level := high (by rw [delay]; rfl)
  refine setLine_decided_lifeSafetySound sound ?_
  dsimp only [LineRec.sound]
  rw [level]
  exact high_sound

/-! Resets. -/

theorem samplePosture_ne {j k : Train} (ne : j ≠ k) (s : State) : (State.samplePosture j s).posture k = s.posture k ∧
    (State.samplePosture j s).inSafe k = s.inSafe k ∧ (State.samplePosture j s).drive k = s.drive k := by
  have posture : (s.setPosture j (s.decidedPosture j)).posture k = s.posture k := by rw [setPosture_posture, if_neg ne]
  unfold State.samplePosture
  dsimp only
  split
  · exact ⟨posture, rfl, rfl⟩
  · generalize s.active.postureValues _ = v
    have entered := enterSafe_same (s.setPosture j (s.decidedPosture j)) j
    have applied := applyPosture_same ((s.setPosture j (s.decidedPosture j)).enterSafe j) j v
    refine ⟨(applied.posture k).trans ((entered.posture k).trans posture), ?_, ?_⟩
    · rw [inSafe_of_trains applied.trains, enterSafe_inSafe, if_neg ne]
      rfl
    · rw [applyPosture_drive_ne ne, drive_of_drives entered.drives]
      rfl

theorem samplePosture_self {k : Train} (safe : s.inSafe k = false) (posture : (s.drive k).posture = none) :
    (State.samplePosture k s).posture k = s.decidedPosture k ∧
    (State.samplePosture k s).inSafe k = (s.decidedPosture k).isSome ∧
    ((State.samplePosture k s).drive k).posture = (s.decidedPosture k).map fun e => s.active.postureValues e.code := by
  unfold State.samplePosture
  dsimp only
  cases found : s.decidedPosture k with
  | none => exact ⟨setPosture_posture_self s k _, safe, posture⟩
  | some e =>
    have entered := enterSafe_same (s.setPosture k (some e)) k
    have applied := applyPosture_same ((s.setPosture k (some e)).enterSafe k) k (s.active.postureValues e.code)
    refine ⟨(applied.posture k).trans ((entered.posture k).trans (setPosture_posture_self s k _)), ?_, applyPosture_posture _ k _⟩
    rw [inSafe_of_trains applied.trains, enterSafe_inSafe, if_pos rfl]
    rfl

theorem samplePosture_posed {j k : Train} (posed : ∀ k, (s.drive k).posed) : ((State.samplePosture j s).drive k).posed := by
  by_cases same : j = k
  · subst same
    unfold State.samplePosture
    dsimp only
    split
    · exact posed j
    · exact applyPosture_posed _ j _
  · rw [(samplePosture_ne same s).2.2]
    exact posed k

theorem samplePosture_inFlight (k : Train) (s : State) : inFlight (State.samplePosture k s) = inFlight s := by
  unfold State.samplePosture
  dsimp only
  split
  · rfl
  · exact (inFlight_applyPosture _ k _).trans (inFlight_of_handoffs (enterSafe_same (s.setPosture k _) k).handoffs)

theorem samplePosture_lines (k : Train) (s : State) : (State.samplePosture k s).lines = s.lines := by
  unfold State.samplePosture
  dsimp only
  split
  · rfl
  · generalize s.active.postureValues _ = v
    exact (applyPosture_same _ k v).lines.trans (enterSafe_same (s.setPosture k _) k).lines

/-- Every train sampled from a state without postures: the posture of its lowest asserted line, SAFE and the values with it. -/
theorem samplePostures_train {k : Train} (safe : s.inSafe k = false) (posture : (s.drive k).posture = none) :
    (forEach allTrains State.samplePosture s).posture k = s.decidedPosture k ∧
    (forEach allTrains State.samplePosture s).inSafe k = (s.decidedPosture k).isSome ∧
    ((forEach allTrains State.samplePosture s).drive k).posture = (s.decidedPosture k).map fun e => s.active.postureValues e.code := by
  refine forEach_at (P := fun u => u.active = s.active ∧ u.lines = s.lines ∧ u.inSafe k = false ∧ (u.drive k).posture = none)
    (Q := fun u => u.posture k = s.decidedPosture k ∧ u.inSafe k = (s.decidedPosture k).isSome ∧
      (u.drive k).posture = (s.decidedPosture k).map fun e => s.active.postureValues e.code)
    (fun j u other hu => ?_) (fun u hu => ?_) (fun j u other hu => ?_) allTrains_nodup (mem_allTrains k) ⟨rfl, rfl, safe, posture⟩
  · obtain ⟨active, lines, safe, posture⟩ := hu
    obtain ⟨-, safe', drive⟩ := samplePosture_ne other u
    exact ⟨(samplePosture_same j u).active.trans active, (samplePosture_lines j u).trans lines, safe'.trans safe, by rw [drive]; exact posture⟩
  · obtain ⟨active, lines, safe, posture⟩ := hu
    have decided : u.decidedPosture k = s.decidedPosture k :=
      decidedPosture_of_same (fun n => by rw [State.line, lines]; rfl) active k
    have sampled := samplePosture_self safe posture
    rw [decided, active] at sampled
    exact sampled
  · obtain ⟨posture', safe', drive⟩ := samplePosture_ne other u
    rw [posture', safe', drive]
    exact hu

theorem sampled_sound (v : Level) : (LineRec.sampled v).sound := by
  cases v
  · exact low_sound
  · exact high_sound

theorem samplePostures_posed (posed : ∀ k, (s.drive k).posed) : ∀ k, ((forEach allTrains State.samplePosture s).drive k).posed := by
  have kept : ∀ j ∈ allTrains, ∀ u : State, (∀ k, (u.drive k).posed) → ∀ k, ((State.samplePosture j u).drive k).posed :=
    fun j _ u hu k => samplePosture_posed hu
  exact forEach_induct kept posed

/-- The trains sampled from a state without postures. -/
theorem samplePostures_lifeSafetySound (lines : ∀ n, (s.line n).sound) (flight : inFlight s = []) (safe : ∀ k, s.inSafe k = false)
    (posture : ∀ k, (s.drive k).posture = none) (posed : ∀ k, (s.drive k).posed) :
    (forEach allTrains State.samplePosture s).lifeSafetySound := by
  have kept : (forEach allTrains State.samplePosture s).active = s.active ∧ (forEach allTrains State.samplePosture s).lines = s.lines :=
    forEach_induct (P := fun w => w.active = s.active ∧ w.lines = s.lines)
      (fun k _ w hw => ⟨(samplePosture_same k w).active.trans hw.1, (samplePosture_lines k w).trans hw.2⟩) ⟨rfl, rfl⟩
  have calm : inFlight (forEach allTrains State.samplePosture s) = [] :=
    forEach_induct (P := fun w => inFlight w = []) (fun k _ w hw => (samplePosture_inFlight k w).trans hw) flight
  have line : ∀ n, (forEach allTrains State.samplePosture s).line n = s.line n := fun n => by rw [State.line, kept.2]; rfl
  refine (lifeSafetySound_iff _).2 ⟨fun n => by rw [line]; exact lines n, fun k => ?_, fun k => ?_, fun k => ?_, ?_⟩
  · rw [(samplePostures_train (safe k) (posture k)).1, decidedPosture_of_same (fun n => by rw [line]) kept.1]
  · obtain ⟨decided, safe, -⟩ := samplePostures_train (safe k) (posture k)
    rw [calm, safeAfter_nil, decided]
    exact safe
  · obtain ⟨decided, -, values⟩ := samplePostures_train (safe k) (posture k)
    rw [calm, postureAfter_nil, State.postureOf, decided, kept.1]
    exact values
  · exact samplePostures_posed posed

theorem endEvent_lifeSafetySound (sound : s.lifeSafetySound) : s.endEvent.lifeSafetySound :=
  have same := endEvent_same s
  lifeSafetySound_of_keep sound (endEvent_keepsPostures s) same.active same.postures same.lines

/-- The lines sampled from a state without postures. -/
theorem sampleLines_lifeSafetySound (flight : inFlight s = []) (safe : ∀ k, s.inSafe k = false) (posture : ∀ k, (s.drive k).posture = none)
    (posed : ∀ k, (s.drive k).posed) (v : Vec 4 Level) : (s.sampleLines v).lifeSafetySound := by
  have lines : ∀ n, (({ s with lines := v.map LineRec.sampled } : State).line n).sound := fun n => by
    rw [show ({ s with lines := v.map LineRec.sampled } : State).line n = .sampled (v.get n) from Vec.get_map _ _ _]
    exact sampled_sound _
  exact endEvent_lifeSafetySound (samplePostures_lifeSafetySound lines flight safe posture posed)

theorem resetBlocks_lifeSafetySound (s : State) (cause : ResetCause) (v : Vec 4 Level) : (s.resetBlocks cause v).lifeSafetySound := by
  have cleared : ((s.clearRuntime cause).fileRaise (.begins .referenceLost)).trains = .replicate 8 .reset ∧
      ((s.clearRuntime cause).fileRaise (.begins .referenceLost)).drives = .ofFn (fun k => .reset (s.params k).oaMin) ∧
      ((s.clearRuntime cause).fileRaise (.begins .referenceLost)).handoffs = [] := by
    rw [fileRaise_frame]
    exact ⟨rfl, rfl, rfl⟩
  unfold State.resetBlocks
  generalize (s.clearRuntime cause).fileRaise (.begins .referenceLost) = u at cleared
  obtain ⟨trains, drives, handoffs⟩ := cleared
  have drive : ∀ k, u.drive k = .reset (s.params k).oaMin := fun k => by rw [State.drive, drives, Vec.get_ofFn]
  refine sampleLines_lifeSafetySound ?_ (fun k => ?_) (fun k => ?_) (fun k w hw => ?_) v
  · rw [inFlight, handoffs]; rfl
  · unfold State.inSafe State.train
    rw [trains, Vec.get_replicate]
    rfl
  · rw [drive]; rfl
  · rw [drive] at hw
    cases hw

/-! An APPLY. -/

theorem changeTable_keepsPostures (s : State) (k : Train) (table : List DemandEntry) : KeepsPostures s (s.changeTable k table) := by
  have stored : KeepsPostures s (s.setDemand k table) := .of_same rfl rfl rfl
  unfold State.changeTable State.handOnEffective
  dsimp only
  split_ifs
  · exact (stored.trans (.handOn (x := .decision k .demandTable) rfl _)).trans (.handOn (x := .drive k .demand) rfl _)
  · exact stored.trans (.handOn rfl _)
  · exact stored.trans (.handOn rfl _)
  · exact stored

theorem recomputeShaft_keepsPostures (s : State) (h : Shaft) : KeepsPostures s (s.recomputeShaft h) := by
  refine forEach_induct (P := KeepsPostures s) (fun a _ u kept => kept.trans ?_) (.of_same rfl rfl rfl)
  have granted (x : AllocEntry) : KeepsPostures u (u.setShare a.train x) := .of_same rfl rfl rfl
  unfold State.setGrant
  dsimp only
  split
  · exact granted _
  · exact (granted _).trans (.handOn rfl _)

theorem takeBasis_keepsPostures (s : State) (k : Train) (b : OaBasis) (a : Bool) : KeepsPostures s (s.takeBasis k b a) :=
  have stored (x : AllocEntry) : KeepsPostures s (s.setShare k x) := .of_same rfl rfl rfl
  (stored _).trans (recomputeShaft_keepsPostures _ _)

theorem takeRequest_keepsPostures (s : State) (k : Train) (v : Nat) : KeepsPostures s (s.takeRequest k v) := by
  have stored (x : AllocEntry) : KeepsPostures s (s.setShare k x) := .of_same rfl rfl rfl
  unfold State.takeRequest
  dsimp only
  split
  · exact (stored _).trans (recomputeShaft_keepsPostures _ _)
  · exact stored _

theorem applyDrive_keepsPostures (old : Params) (k : Train) (s : State) : KeepsPostures s (State.applyDrive old k s) := by
  unfold State.applyDrive
  extract_lets s1 d s2
  have formed : KeepsPostures s s1 := by
    dsimp only [s1]
    split
    · exact formRequest_keepsPostures s k
    · exact .refl s
  have banded : KeepsPostures s s2 := by
    have unbanded : KeepsPostures s1 (s1.setDrive k { s1.drive k with band := none }) := .setDrive rfl id
    dsimp only [s2]
    split
    · exact formed.trans unbanded
    · exact formed
  split
  · exact banded.trans (recompute_keepsPostures _ k)
  · exact banded

theorem applyDrives_keepsPostures (s : State) : KeepsPostures s s.applyDrives := by
  have reference : KeepsPostures s s.applyReference := by
    rw [applyReference_frame, applyNotices_frame]
    exact .of_same rfl rfl rfl
  have tables : KeepsPostures s s.applyTables := by
    refine forEach_induct (P := KeepsPostures s) (fun k _ u kept => kept.trans (changeTable_keepsPostures u k _)) (reference.trans ?_)
    rw [applySlots_frame]
    exact .of_same rfl rfl rfl
  have limits : KeepsPostures s s.applyLimits :=
    KeepsPostures.trans (forEach_induct (P := KeepsPostures s) (fun h _ _ kept => kept.trans (applyLimit_moves _ h _).keepsPostures) tables)
      (endEvent_keepsPostures _)
  have shafts : KeepsPostures s s.applyShafts := by
    refine forEach_induct (P := KeepsPostures s) (fun h _ u kept => kept.trans ?_) limits
    unfold State.applyShaft
    split
    · exact recomputeShaft_keepsPostures u h
    · exact .refl u
  exact forEach_induct (P := KeepsPostures s) (fun k _ u kept => kept.trans (applyDrive_keepsPostures _ k u)) shafts

theorem applyDrives_postures (s : State) : s.applyDrives.postures = s.postures ∧ s.applyDrives.lines = s.lines ∧
    s.applyDrives.active = s.staged := by
  have drives := applyDrives_same s
  have shafts := applyShafts_same s
  have limits := applyLimits_same s
  refine ⟨?_, ?_, ?_⟩
  · rw [drives.postures, shafts.postures, limits.postures, applyTables_frame, applyReference_frame, applyNotices_frame]
  · rw [drives.lines, shafts.lines, limits.lines, applyTables_frame, applyReference_frame, applyNotices_frame]
  · rw [drives.active, shafts.active, limits.active, applyTables_frame, applyReference_frame, applyNotices_frame]

theorem applyStaged_lifeSafetySound (sound : s.lifeSafetySound) : s.applyStaged.lifeSafetySound := by
  obtain ⟨postures, lines, -⟩ := applyDrives_postures s
  have kept := applyDrives_keepsPostures s
  rw [applyStaged_eq]
  refine decidePostures_lifeSafetySound (fun n => ?_) (fun k => (trainPosture_of_sound sound k).keep kept postures)
    fun k => kept.posed k (sound.outputs k)
  rw [State.line, lines]
  exact sound.lines n

/-! Every effect. -/

theorem tick_lifeSafetySound (sound : s.lifeSafetySound) : ({ s.tickTimers with uptime := s.uptime + 1 } : State).lifeSafetySound := by
  have line : ∀ n, ({ s.tickTimers with uptime := s.uptime + 1 } : State).line n = (s.line n).tick := fun n => Vec.get_map _ _ _
  have drive : ∀ k, ({ s.tickTimers with uptime := s.uptime + 1 } : State).drive k = (s.drive k).tick := fun k => Vec.get_map _ _ _
  refine ⟨fun n => ?_, fun k => ?_, fun k => ?_, fun k => ?_, fun k v hv => ?_⟩
  · rw [line]
    obtain ⟨asserted, high⟩ := sound.lines n
    unfold LineRec.tick LineRec.sound
    rw [tickTimer_isSome]
    exact ⟨asserted, high⟩
  · have decided : ({ s.tickTimers with uptime := s.uptime + 1 } : State).decidedPosture k = s.decidedPosture k :=
      decidedPosture_of_same (s := s) (t := { s.tickTimers with uptime := s.uptime + 1 })
        (fun n => (congrArg LineRec.asserted (line n) :)) rfl k
    exact (sound.decided k).trans decided.symm
  · rw [tick_inSafe]
    exact sound.safe k
  · rw [drive]
    exact sound.posture k
  · rw [drive] at hv ⊢
    obtain ⟨wheel, bypass, oa, ramp⟩ := sound.outputs k v hv
    refine ⟨wheel, bypass, oa, ?_⟩
    unfold DriveRec.tick
    rw [ramp]
    rfl

end

theorem Effect.lifeSafetySound {s t : State} (h : Effect s t) (sound : s.lifeSafetySound) : t.lifeSafetySound := by
  have keep {t : State} := lifeSafetySound_of_keep (t := t) sound
  have same {t : State} (handoffs : t.handoffs = s.handoffs) (trains : t.trains = s.trains) (drives : t.drives = s.drives) :=
    keep (.of_same handoffs trains drives)
  cases h with
  | event h => exact h.lifeSafetySound sound
  | second => exact tick_lifeSafetySound sound
  | defaults cause v => exact resetBlocks_lifeSafetySound s.toDefaults cause v
  | restarted => exact resetBlocks_lifeSafetySound { s with ports := s.ports.map LinkPort.restarted } _ _
  | noticeHandled => rw [handleNotice_frame]; exact same rfl rfl rfl rfl rfl rfl
  | published l c v => rw [publish_frame]; exact same rfl rfl rfl rfl rfl rfl
  | wentStale c => rw [goStale_frame]; exact same rfl rfl rfl rfl rfl rfl
  | evaluated k =>
    have kept : KeepsPostures s (s.evaluate k) := by
      have flips := raiseFlips_frame s k (s.qualified k (s.rawResults k (s.intake k (s.effective k).d)))
      unfold State.evaluate
      dsimp only
      refine KeepsPostures.trans ?_ ((KeepsPostures.handOn (x := .decision k .criterionBank) rfl _).trans
        (.handOn (x := .drive k .record) rfl _))
      generalize s.raiseFlips k _ = u at flips ⊢
      rw [flips]
      exact .of_same rfl rfl rfl
    refine keep kept ?_ ?_ ?_ <;> rw [evaluate_frame]
  | demandAccepted l k f =>
    refine keep (changeTable_keepsPostures s k _) ?_ ?_ ?_ <;> rw [acceptDemand_frame]
  | demandExpired k l =>
    have raised : KeepsPostures s (s.raise (.demandExpired k)) := .of_same rfl rfl rfl
    refine keep (raised.trans (changeTable_keepsPostures _ k _)) ?_ ?_ ?_ <;> rw [expireDemand_frame]
  | demandWithdrawn k l =>
    refine keep (changeTable_keepsPostures s k _) ?_ ?_ ?_ <;> rw [changeTable_frame]
  | basisTaken k b a =>
    have frame := takeBasis_same (s.setHandoffs (s.handoffs.eraseP (Handoff.isShaft k .sequencer))) k b a
    exact keep ((eraseP_keepsPostures isShaft_ofPosture s).trans (takeBasis_keepsPostures _ k b a)) frame.active frame.postures frame.lines
  | requestTaken k v =>
    have frame := takeRequest_same (s.setHandoffs (s.handoffs.eraseP (Handoff.isShaft k .driveStage))) k v
    exact keep ((eraseP_keepsPostures isShaft_ofPosture s).trans (takeRequest_keepsPostures _ k v)) frame.active frame.postures frame.lines
  | sensedLow n => exact senseLow_lifeSafetySound sound n
  | sensedHigh n => exact senseHigh_lifeSafetySound sound n
  | assertionEnded n due => exact endAssertion_lifeSafetySound sound due
  | applied => exact applyStaged_lifeSafetySound sound
  | lockSet => rw [setLock_frame]; exact same rfl rfl rfl rfl rfl rfl
  | noticesCleared | noticeTaken | noticeAcked | lineHeld | reportRefused | referenceRead | port | accumulated | periodBegun | staged
  | discarded => exact same rfl rfl rfl rfl rfl rfl

/-! The end of the event. -/

section
variable {s t : State}

/-- An event that finds the event of a posture change incomplete finds it complete. -/
theorem takeEvent_complete (f : State → State) (awake : t.awake) : takeEvent f t = takeEvent f t.completePostures := by
  rw [takeEvent_awake awake, takeEvent_live ⟨completePostures_awake.trans awake, completePostures_settled t⟩]

theorem answerRequest_complete (l : Link) (kind tag : Byte) (f : RequestMeaning) (awake : t.awake) :
    answerRequest l kind tag f t = answerRequest l kind tag f t.completePostures := takeEvent_complete _ awake

theorem exec_complete {c : Instr} (begins : beginsEvent c = true) (awake : t.awake) : exec c t = exec c t.completePostures := by
  unfold exec
  cases c
  case powerOn | resetLineAsserted | resetLineReleased | safeEntry | safeExit | postureApply => cases begins
  case report | demand | withdraw | hold | release | stage | apply | discard | lock | restart | readIdentity | readLinkStatus | readChannel
    | readStation | readReference | readTrain | readDemands | readShaft | readParamActive | readParamStaged | latchTrains | latchReference
    | latchShafts | readLatched | take | peek | ack => exact answerRequest_complete _ _ _ _ awake
  all_goals exact takeEvent_complete _ awake

theorem idle_complete (raised : t.raised ≠ []) (awake : t.awake) : idle t = idle t.completePostures := by
  obtain ⟨xs, told, -⟩ := (TrainEvent.posturesCompleted t).told.news
  cases list : t.raised with
  | nil => exact absurd list raised
  | cons x rest =>
    rw [idle_of_cons list, idle_of_cons (x := x) (rest := rest ++ xs) (by rw [told, list]; rfl)]
    exact takeEvent_complete _ awake

/-- A train that an asserted line maps has the posture of such a line. -/
theorem decidedPosture_of_asserted {k : Train} {n : Line} (asserted : (s.line n).asserted = true)
    (mapped : inTrains (s.active.lines.get n).trains k = true) : ∃ e, s.decidedPosture k = some e := by
  have governs : s.governs k n = true := by rw [State.governs, asserted, mapped]; rfl
  cases found : allLines.find? (s.governs k) with
  | none => exact absurd governs (List.find?_eq_none.1 found n (mem_allLines n))
  | some m => exact ⟨_, by rw [State.decidedPosture, found]; rfl⟩

/-- With the event complete, a train under an asserted line that maps it is in SAFE at the posture's values. -/
theorem safe_of_asserted (sound : s.lifeSafetySound) {k : Train} {n : Line} (asserted : (s.line n).asserted = true)
    (mapped : inTrains (s.active.lines.get n).trains k = true) :
    (s.completePostures.train k).state = .safe ∧ ∃ e, s.posture k = some e ∧
      (s.completePostures.drive k).wheel.effective = 0 ∧
      (s.completePostures.drive k).bypass.effective = (s.active.posture e.code).bp ∧
      (s.completePostures.drive k).oa.effective = (s.active.posture e.code).oa := by
  obtain ⟨e, decided⟩ := decidedPosture_of_asserted asserted mapped
  have posture : s.posture k = some e := (sound.decided k).trans decided
  have same := completePostures_frame s
  have chain := completePostures_chain sound
  have held : (s.completePostures.drive k).posture = some (s.active.postureValues e.code) := by
    have := chain.posture k
    rw [State.postureOf, same.posture, same.active, posture] at this
    exact this
  have safe : s.completePostures.inSafe k = true := by
    have := chain.safe k
    rw [same.posture, posture] at this
    exact this
  obtain ⟨wheel, bypass, oa, -⟩ := chain.posed k _ held
  refine ⟨inSafe_iff.1 safe, e, posture, ?_, ?_, ?_⟩
  · rw [wheel]; rfl
  · rw [bypass]; rfl
  · rw [oa]; rfl

end

/-- Settles O60: each effect keeps life safety sound; the end of the event and what a train then shows follow from it. -/
theorem lifeSafetyStaysSound : Obligations.LifeSafetyStaysSound := by
  unfold Obligations.LifeSafetyStaysSound
  intro s t sound h
  have kept : t.lifeSafetySound := step_keeps (P := State.lifeSafetySound)
    (fun s rest h => lifeSafetySound_of_keep (t := { s with pending := rest }) h (.of_same rfl rfl rfl) rfl rfl rfl)
    (fun s t e h => e.lifeSafetySound h) sound.lifeSafety h
  exact ⟨kept, completePostures_lifeSafetySound kept, completePostures_settled t, completePostures_of_settled,
    fun c begins awake => exec_complete begins awake, idle_complete, fun k n => safe_of_asserted kept⟩

end Sys2Proof.Machine
end

section
/-! The queue, the gate of an event, and what the held reset line leaves (R146, R179). -/

namespace Sys2Proof.Machine

/-- Every command but the resets is an operation behind the gate of the reset line. -/
theorem exec_eq_whenLive {c : Instr} (events : ∀ v, c ≠ .powerOn v ∧ c ≠ .resetLineReleased v) (line : c ≠ .resetLineAsserted) :
    ∃ f, ∀ s, exec c s = whenLive f s := by
  unfold exec
  cases c
  case powerOn v => exact absurd rfl (events v).1
  case resetLineReleased v => exact absurd rfl (events v).2
  case resetLineAsserted => exact absurd rfl line
  all_goals exact ⟨_, fun _ => rfl⟩

theorem exec_answers (c : Instr) (s : State) : ∃ t, exec c s = .next t := by
  by_cases reset : (∀ v, c ≠ .powerOn v ∧ c ≠ .resetLineReleased v) ∧ c ≠ .resetLineAsserted
  · obtain ⟨f, gate⟩ := exec_eq_whenLive reset.1 reset.2
    rw [gate, whenLive]
    split
    · exact ⟨_, rfl⟩
    · exact ⟨_, rfl⟩
  · cases c
    case powerOn | resetLineReleased | resetLineAsserted => exact ⟨_, rfl⟩
    all_goals exact absurd ⟨fun _ => ⟨nofun, nofun⟩, nofun⟩ reset

/-- Settles O2: every command is an event behind the gate or a reset, and no effect of a command touches the queue. -/
theorem everyCommandCompletes : Obligations.EveryCommandCompletes := by
  unfold Obligations.EveryCommandCompletes
  intro c s
  obtain ⟨t, run⟩ := exec_answers c s
  exact ⟨t, run, Effects.keep (P := fun u => u.pending = s.pending) (fun _ _ effect kept => effect.pending.trans kept)
    (exec_runs run) rfl⟩

/-- What an empty queue leaves: the oldest raise handled, the pending sets and the held list alone changed. -/
theorem idle_frame {s : State} (live : s.live) :
    ∃ t, idle s = .next t ∧ t = { s with raised := s.raised.tail, held := t.held, notices := t.notices } := by
  rcases raises : s.raised with _ | ⟨x, rest⟩
  · exact ⟨s, idle_of_nil raises, by rw [List.tail_nil, ← raises]⟩
  · refine ⟨_, idle_live live raises, ?_⟩
    conv_lhs => rw [fileRaise_frame]
    rfl

/-- Settles O1: the three cases are the branches of the step and of its idling. -/
theorem stepTakesFront : Obligations.StepTakesFront := by
  unfold Obligations.StepTakesFront
  exact fun c rest s => ⟨rfl, fun none => idle_of_nil none, fun live => idle_frame (s := { s with pending := [] }) live⟩

/-! The held reset line. -/

theorem linkIndex_surjective (i : Fin 3) : ∃ l, linkIndex l = i :=
  match i with
  | 0 => ⟨.a, rfl⟩
  | 1 => ⟨.b, rfl⟩
  | 2 => ⟨.c, rfl⟩

/-- Once the lines are silent, a part whose RESET_N is low is changed by a power-on and the release of the line only. -/
theorem exec_low {c : Instr} {s : State} (low : s.resetLow = true) (pwm : s.pwm = .replicate 24 0)
    (released : ∀ l, (s.notice l).attention = false) (other : ∀ v, c ≠ .powerOn v ∧ c ≠ .resetLineReleased v) :
    exec c s = .next s := by
  by_cases line : c = .resetLineAsserted
  · subst line
    have notices : s.notices.map (fun x => { x with attention := false }) = s.notices := by
      refine Vec.ext_get fun i => ?_
      obtain ⟨l, rfl⟩ := linkIndex_surjective i
      have silent := released l
      rw [State.notice] at silent
      rw [Vec.get_map, ← silent]
    change execResetLineAsserted s = .next s
    rw [execResetLineAsserted, notices, ← low, ← pwm]
  · obtain ⟨f, gate⟩ := exec_eq_whenLive other line
    rw [gate, whenLive_low low]

/-- Settles O3: the state the event leaves has every line silent, which is what `exec_low` asks. -/
theorem resetLineHeld : Obligations.ResetLineHeld := by
  unfold Obligations.ResetLineHeld
  intro s
  refine ⟨_, rfl, fun o => Vec.get_replicate _ o, fun l => ?_, rfl, fun c other => exec_low rfl rfl (fun l => ?_) other⟩
  · exact Vec.get_map _ s.notices _
  · exact congrArg NoticeSet.attention (Vec.get_map (fun x : NoticeSet => { x with attention := false }) s.notices (linkIndex l))

/-! The state after reset. -/

theorem reset_train (k : Train) : State.reset.train k = .reset := Vec.get_replicate _ k

theorem reset_shaft (h : Shaft) : State.reset.shaft h = .reset 65535000 := Vec.get_replicate _ h

theorem reset_drive (k : Train) : State.reset.drive k = .reset 200 := Vec.get_replicate _ k

theorem reset_paramsSound : State.reset.paramsSound :=
  ⟨defaultParams_inRange, defaultParams_inRange, defaultParams_relationFault, fun locked => Bool.noConfusion locked⟩

theorem reset_noticesSound : State.reset.noticesSound := by
  intro l
  cases l <;> refine ⟨?_, ?_, ?_, ?_, ?_⟩ <;> decide

theorem reset_heldSound : State.reset.heldSound :=
  ⟨by decide, by decide, fun x member => absurd member List.not_mem_nil, by decide, by decide⟩

theorem reset_referenceSound : State.reset.referenceSound :=
  ⟨by decide, ⟨0, rfl⟩, by decide⟩

theorem reset_demandSound (k : Train) : State.reset.demandSound k := by
  have table : State.reset.demand k = [] := Vec.get_replicate _ k
  refine ⟨?_, ?_, ?_⟩ <;> rw [table]
  · exact .nil
  · exact fun e member => absurd member List.not_mem_nil
  · exact fun e member => absurd member List.not_mem_nil

theorem reset_trainsSound : State.reset.trainsSound := by
  refine ⟨fun k => ?_, fun h => ?_, by decide⟩
  · rw [reset_train]
    exact ⟨fun r state => TrainState.noConfusion state, by decide, by decide, by decide, rfl⟩
  · refine ⟨?_, ?_, ?_, ?_, ?_, ?_⟩ <;> rw [reset_shaft]
    · exact Nat.zero_le _
    · exact .nil
    · intro k
      rw [reset_train]
      exact ⟨fun member => absurd member List.not_mem_nil, fun holds => Bool.noConfusion holds.2⟩
    · exact .nil
    · intro k m
      rw [reset_train]
      exact ⟨fun member => absurd member List.not_mem_nil, fun waits => absurd waits.2 (Option.some_ne_none m).symm⟩
    · exact fun waiting => absurd rfl waiting

theorem reset_outputsSound : State.reset.outputsSound := by
  refine ⟨fun k => ?_, by decide, fun x member => absurd member List.not_mem_nil, by decide, fun k h held => ?_⟩
  · rw [reset_drive]
    exact reset_driveSound (by decide)
  · rw [reset_train] at held
    exact TrainState.noConfusion held

theorem reset_lifeSafetySound : State.reset.lifeSafetySound := by
  refine ⟨by decide, by decide, by decide, by decide, fun k v posture => ?_⟩
  rw [reset_drive] at posture
  exact (Option.not_mem_none v posture).elim

/-- Settles O53: every block's records after reset meet its part of the invariant. -/
theorem resetIsSound : Obligations.ResetIsSound :=
  ⟨reset_paramsSound, reset_noticesSound, reset_heldSound, fun c =>
    reset_channelSound defaultParams_inRange (Vec.get_replicate _ c), reset_referenceSound, reset_demandSound,
    reset_trainsSound, reset_outputsSound, reset_lifeSafetySound⟩

end Sys2Proof.Machine
end

section
/-! The Link Ports (R167 to R171): a request command is its frame's request event, what is dropped, and what a refusal leaves. -/

namespace Sys2Proof.Machine

section
variable {s : State} {l : Link}

/-! Single events of a live part. -/

theorem exec_byteReceived (b : Byte) (live : s.live) : exec (.byteReceived l b) s = .next (s.receiveByte l b) :=
  takeEvent_live (f := fun s => s.receiveByte l b) live

/-- A FRAME_START is the byte of value 0xC3. -/
theorem exec_frameStart : exec (.frameStart l) s = exec (.byteReceived l 0xC3) s := rfl

theorem dropPartial_hunting (phase : (s.port l).phase = .hunting) : s.dropPartial l = s := by
  rw [State.dropPartial, phase]

theorem dropPartial_inFrame (phase : (s.port l).phase = .inFrame) : s.dropPartial l = s.dropFrame l := by
  rw [State.dropPartial, phase]

/-- Settles O9: the two dropping commands drop, and the other two do where a frame is in reception. -/
theorem droppedFrameSetsFlag : Obligations.DroppedFrameSetsFlag := by
  unfold Obligations.DroppedFrameSetsFlag
  intro l s live
  have dropped : ∀ c, c = Instr.interByteTimeout l ∨ c = .framingError l → exec c s = .next (s.dropPartial l) := by
    rintro c (rfl | rfl)
    · exact takeEvent_live (f := fun s => s.dropPartial l) live
    · exact takeEvent_live (f := fun s => s.dropPartial l) live
  refine ⟨takeEvent_live (f := fun s => s.dropFrame l) live, takeEvent_live (f := fun s => s.dropFrame l) live, fun phase => ?_,
    fun phase => ?_⟩
  · rw [dropped _ (.inl rfl), dropped _ (.inr rfl), dropPartial_inFrame phase]
    exact ⟨rfl, rfl⟩
  · rw [dropped _ (.inl rfl), dropped _ (.inr rfl), dropPartial_hunting phase]
    exact ⟨rfl, rfl⟩

/-- Settles O10: the break sets one Link Port and one pending set. -/
theorem breakClearsLink : Obligations.BreakClearsLink := by
  unfold Obligations.BreakClearsLink
  intro l s live
  let x : LinkPort := { (s.port l).hunt with latchTrains := none, latchReference := none, latchShafts := none }
  have port : ∀ m, (s.takeBreak l).port m = if l = m then x else s.port m := fun m =>
    (setEntries_port _ l [] m).trans (setPort_port s l x m)
  have notice : ∀ m, (s.takeBreak l).notice m = if l = m then ⟨[], false⟩ else s.notice m := fun m =>
    setEntries_notice (s.setPort l x) l m []
  refine ⟨s.takeBreak l, takeEvent_live (f := fun s => s.takeBreak l) live, ?_⟩
  rw [port l, notice l, if_pos rfl, if_pos rfl]
  refine ⟨rfl, rfl, rfl, rfl, rfl, rfl, rfl, fun m other => ?_, rfl⟩
  rw [port, notice, if_neg (Ne.symm other), if_neg (Ne.symm other)]
  exact ⟨rfl, rfl⟩

/-! A request command is the request event of what its frame carries. -/

/-- A well-formed request command is the request event of its kind and payload. -/
theorem exec_request {i : Instr} {kind tag : Byte} (request : requestOf? i = some (l, kind, tag)) (wellFormed : i.wellFormed = true)
    (live : s.live) : exec i s = .next (s.answer l kind tag (requestOf l kind i.payload)) := by
  cases i
  case badKind m kind' tag' payload =>
    cases request
    have unknown : kindNamesRequest kind = false := by
      have := (Bool.and_eq_true _ _ ▸ wellFormed).2
      simpa using this
    refine (takeEvent_live (f := fun s => if kindNamesRequest kind then s else s.answer l kind tag (requestOf l kind payload))
      live).trans ?_
    rw [unknown]
    rfl
  all_goals cases request
  all_goals exact answerRequest_live live

/-- Settles O12: the request event of a busy transmitter drops the frame. -/
theorem busyRequestDropped : Obligations.BusyRequestDropped := by
  unfold Obligations.BusyRequestDropped
  intro i l kind tag s request wellFormed live busy
  obtain ⟨r, sending⟩ := Option.ne_none_iff_exists'.1 busy
  rw [exec_request request wellFormed live, answer_busy sending]
  rfl

/-! What a refusal leaves (R169). -/

end

/-- A request that answers another status than OK has changed nothing. -/
def RefusalsKeep (f : RequestMeaning) : Prop := ∀ s : State, (f s).2.status ≠ .ok → (f s).1 = s

theorem refuse_refusalsKeep (x : Status) : RefusalsKeep (refuse x) := fun _ _ => rfl

theorem whenEmpty_refusalsKeep {f : RequestMeaning} (keeps : RefusalsKeep f) (payload : List Byte) :
    RefusalsKeep (whenEmpty payload f) := by
  cases payload with
  | nil => exact keeps
  | cons b rest => exact refuse_refusalsKeep _

theorem whenConfig_refusalsKeep {f : RequestMeaning} (keeps : RefusalsKeep f) (l : Link) : RefusalsKeep (whenConfig l f) := by
  intro s
  unfold whenConfig
  split
  · exact keeps s
  · exact fun _ => rfl

/-- An effect that is answered OK refuses nothing. -/
theorem ok_refusalsKeep (effect : State → State) (data : State → List Byte) : RefusalsKeep fun s => (effect s, .ok (data s)) :=
  fun _ refused => absurd rfl refused

theorem requestReport_refusalsKeep (l : Link) (payload : List Byte) : RefusalsKeep (requestReport l payload) := by
  intro s
  unfold requestReport
  split
  · exact fun _ => rfl
  · split_ifs
    · exact fun _ => rfl
    · exact fun refused => absurd rfl refused

theorem requestDemand_refusalsKeep (l : Link) (payload : List Byte) : RefusalsKeep (requestDemand l payload) := by
  intro s
  unfold requestDemand
  split
  · exact fun _ => rfl
  split
  · exact fun _ => rfl
  split_ifs
  · exact fun _ => rfl
  split
  · exact fun _ => rfl
  · exact fun refused => absurd rfl refused

theorem requestWithdraw_refusalsKeep (l : Link) (payload : List Byte) : RefusalsKeep (requestWithdraw l payload) := by
  intro s
  unfold requestWithdraw
  split
  · split
    · exact fun _ => rfl
    · split_ifs
      · exact fun _ => rfl
      · exact fun refused => absurd rfl refused
      · exact fun refused => absurd rfl refused
  · exact fun _ => rfl

theorem requestHold_refusalsKeep (l : Link) (payload : List Byte) : RefusalsKeep (requestHold l payload) := by
  intro s
  unfold requestHold
  split
  · exact fun _ => rfl
  · split
    · exact fun _ => rfl
    · split_ifs
      · exact fun _ => rfl
      · exact fun _ => rfl
      · exact fun refused => absurd rfl refused

theorem requestRelease_refusalsKeep (l : Link) (payload : List Byte) : RefusalsKeep (requestRelease l payload) := by
  intro s
  unfold requestRelease
  split
  · split
    · exact fun _ => rfl
    · split_ifs
      · exact fun _ => rfl
      · exact fun refused => absurd rfl refused
  · exact fun _ => rfl

theorem requestStage_refusalsKeep (l : Link) (payload : List Byte) : RefusalsKeep (requestStage l payload) := by
  intro s
  unfold requestStage
  split
  · split_ifs
    · exact fun _ => rfl
    split
    · exact fun _ => rfl
    split_ifs
    · exact fun _ => rfl
    split
    · exact fun _ => rfl
    · exact fun refused => absurd rfl refused
  · exact fun _ => rfl

theorem requestApply_refusalsKeep (l : Link) (payload : List Byte) : RefusalsKeep (requestApply l payload) :=
  whenEmpty_refusalsKeep (whenConfig_refusalsKeep (fun s => by
    unfold State.judgeApply
    split
    · exact fun _ => rfl
    · exact fun refused => absurd rfl refused) l) payload

theorem requestDiscard_refusalsKeep (l : Link) (payload : List Byte) : RefusalsKeep (requestDiscard l payload) :=
  whenEmpty_refusalsKeep (whenConfig_refusalsKeep (ok_refusalsKeep _ _) l) payload

theorem requestLock_refusalsKeep (l : Link) (payload : List Byte) : RefusalsKeep (requestLock l payload) :=
  whenEmpty_refusalsKeep (whenConfig_refusalsKeep (ok_refusalsKeep _ _) l) payload

theorem requestRestart_refusalsKeep (l : Link) (payload : List Byte) : RefusalsKeep (requestRestart l payload) :=
  whenEmpty_refusalsKeep (whenConfig_refusalsKeep (ok_refusalsKeep _ _) l) payload

theorem readIndexed_refusalsKeep {α : Type} (rest : List Byte) (index : Byte → Option α) (record : State → α → List Byte) :
    RefusalsKeep (readIndexed rest index record) := by
  intro s
  unfold readIndexed
  split
  · split
    · exact fun _ => rfl
    · exact fun _ => rfl
  · exact fun _ => rfl

theorem readSection_refusalsKeep (n m : Nat) (rest : List Byte) (record : State → Fin n → Fin m → List Byte) :
    RefusalsKeep (readSection n m rest record) := by
  intro s
  unfold readSection
  split
  · split
    · exact fun _ => rfl
    · exact fun _ => rfl
  · exact fun _ => rfl

theorem readItem_refusalsKeep (rest : List Byte) (record : State → Item → List Byte) : RefusalsKeep (readItem rest record) := by
  intro s
  unfold readItem
  split
  · split
    · exact fun _ => rfl
    · exact fun _ => rfl
  · exact fun _ => rfl

theorem requestReadLinkStatus_refusalsKeep (rest : List Byte) : RefusalsKeep (requestReadLinkStatus rest) := by
  intro s
  unfold requestReadLinkStatus
  split
  · split
    · exact fun _ => rfl
    · exact fun refused => absurd rfl refused
  · exact fun _ => rfl

theorem requestRead_refusalsKeep (payload : List Byte) : RefusalsKeep (requestRead payload) := by
  unfold requestRead
  split
  · exact refuse_refusalsKeep _
  split
  · exact whenEmpty_refusalsKeep (ok_refusalsKeep _ _) _
  · exact requestReadLinkStatus_refusalsKeep _
  · exact readIndexed_refusalsKeep _ _ _
  · exact readIndexed_refusalsKeep _ _ _
  · exact whenEmpty_refusalsKeep (ok_refusalsKeep _ _) _
  · exact readSection_refusalsKeep _ _ _ _
  · exact readIndexed_refusalsKeep _ _ _
  · exact readSection_refusalsKeep _ _ _ _
  · exact readItem_refusalsKeep _ _
  · exact readItem_refusalsKeep _ _
  · exact refuse_refusalsKeep _

theorem requestLatch_refusalsKeep (l : Link) (payload : List Byte) : RefusalsKeep (requestLatch l payload) := by
  unfold requestLatch
  split
  · exact refuse_refusalsKeep _
  split
  · exact whenEmpty_refusalsKeep (ok_refusalsKeep _ _) _
  · exact whenEmpty_refusalsKeep (ok_refusalsKeep _ _) _
  · exact whenEmpty_refusalsKeep (ok_refusalsKeep _ _) _
  · exact whenEmpty_refusalsKeep (refuse_refusalsKeep _) _

/-- A READ_LATCHED changes nothing whatever it answers. -/
theorem requestReadLatched_state (l : Link) (payload : List Byte) (s : State) : (requestReadLatched l payload s).1 = s := by
  unfold requestReadLatched
  split
  · rfl
  split_ifs
  · split <;> rfl
  · split
    · split <;> rfl
    · rfl
  · split <;> rfl
  · rfl

theorem requestTake_refusalsKeep (l : Link) (payload : List Byte) : RefusalsKeep (requestTake l payload) :=
  whenEmpty_refusalsKeep (fun s => by
    split
    · exact fun _ => rfl
    · exact fun refused => absurd rfl refused) payload

theorem requestPeek_refusalsKeep (l : Link) (payload : List Byte) : RefusalsKeep (requestPeek l payload) :=
  whenEmpty_refusalsKeep (fun s => by
    split
    · exact fun _ => rfl
    · exact fun _ => rfl) payload

theorem requestAck_refusalsKeep (l : Link) (payload : List Byte) : RefusalsKeep (requestAck l payload) := by
  intro s
  unfold requestAck
  split
  · split
    · exact fun _ => rfl
    · exact fun refused => absurd rfl refused
  · exact fun _ => rfl

theorem requestOf_refusalsKeep (l : Link) (kind : Byte) (payload : List Byte) : RefusalsKeep (requestOf l kind payload) := by
  unfold requestOf
  split
  · exact requestReport_refusalsKeep l payload
  · exact requestDemand_refusalsKeep l payload
  · exact requestWithdraw_refusalsKeep l payload
  · exact requestHold_refusalsKeep l payload
  · exact requestRelease_refusalsKeep l payload
  · exact requestStage_refusalsKeep l payload
  · exact requestApply_refusalsKeep l payload
  · exact requestDiscard_refusalsKeep l payload
  · exact requestLock_refusalsKeep l payload
  · exact requestRestart_refusalsKeep l payload
  · exact requestRead_refusalsKeep payload
  · exact requestLatch_refusalsKeep l payload
  · exact fun s _ => requestReadLatched_state l payload s
  · exact requestTake_refusalsKeep l payload
  · exact requestPeek_refusalsKeep l payload
  · exact requestAck_refusalsKeep l payload
  · exact refuse_refusalsKeep _

/-- An answer that leaves the state of the hunting receiver alone leaves only the response being sent. -/
theorem answer_of_kept {s : State} {l : Link} {kind tag : Byte} {f : RequestMeaning} (idle : (s.port l).sending = none)
    (kept : (f (s.setPort l (s.port l).hunt)).1 = s.setPort l (s.port l).hunt) :
    s.answer l kind tag f = { s with
      ports := s.repliedPorts l kind tag (f (s.setPort l (s.port l).hunt)).2.status (f (s.setPort l (s.port l).hunt)).2.data } := by
  rw [answer_idle idle, kept, setPort_port_self, State.setPort, setPort_ports, Vec.set_set]
  rfl

/-- Settles O13: the response is the reply of the request's meaning, and no meaning changes anything where it refuses. -/
theorem refusedRequestChangesNothing : Obligations.RefusedRequestChangesNothing := by
  unfold Obligations.RefusedRequestChangesNothing
  intro i l kind tag s request wellFormed ready
  let f := requestOf l kind i.payload
  refine ⟨_, ⟨kind ||| 0x80, tag, (f (s.setPort l (s.port l).hunt)).2.status, (f (s.setPort l (s.port l).hunt)).2.data⟩,
    exec_request request wellFormed ready.1, ?_, rfl, rfl, fun refused => ?_⟩
  · rw [answer_idle ready.2, setPort_port_self]
  · exact answer_of_kept ready.2 (requestOf_refusalsKeep l kind i.payload _ refused)

/-- A kind byte that names no request has no meaning but its refusal. -/
theorem requestOf_unknown (l : Link) {kind : Byte} (payload : List Byte) (unknown : kindNamesRequest kind = false) :
    requestOf l kind payload = refuse .badKind := by
  unfold requestOf
  split
  case h_17 => rfl
  all_goals
    rename_i code
    rw [kindNamesRequest, code] at unknown
    exact absurd unknown (by decide)

/-- Settles O11: an unknown kind is refused by its meaning, and the end of a response sets one field. -/
theorem unknownKindAndIdleTransmitter : Obligations.UnknownKindAndIdleTransmitter := by
  unfold Obligations.UnknownKindAndIdleTransmitter
  intro l kind tag payload s
  refine ⟨fun ready unknown => ?_, fun live =>
    takeEvent_live (f := fun s => s.setPort l { s.port l with sending := none }) live⟩
  refine (takeEvent_live (f := fun s => if kindNamesRequest kind then s else s.answer l kind tag (requestOf l kind payload))
    ready.1).trans ?_
  rw [unknown, requestOf_unknown l payload unknown]
  exact congrArg Host.Outcome.next (answer_of_kept (f := refuse .badKind) ready.2 rfl)

end Sys2Proof.Machine
end

section
/-! The receiver (R167, R168): what a byte does in each phase, and the bytes of a whole frame. -/

namespace Sys2Proof.Machine

theorem word16_bytes16 (w : BitVec 16) : word16 (w.extractLsb' 0 8) (w.extractLsb' 8 8) = w := by
  refine BitVec.eq_of_getLsbD_eq fun i hi => ?_
  rw [word16, BitVec.getLsbD_append]
  simp only [BitVec.getLsbD_extractLsb']
  by_cases low : i < 8
  · simp [low]
  · have : i - 8 < 8 := by omega
    simp [low, this]
    congr 1
    omega

section
variable {s : State} {l : Link}

/-! What a buffer is. -/

theorem judgeBuffer_short {bytes : List Byte} (short : bytes.length < 3) : s.judgeBuffer l bytes = s.bufferBytes l bytes := by
  match bytes, short with
  | [], _ | [_], _ | [_, _], _ => rfl

theorem judgeBuffer_tooLong {kind tag length : Byte} {rest : List Byte} (long : 64 < length.toNat) :
    s.judgeBuffer l (kind :: tag :: length :: rest) = s.dropFrame l := if_pos long

theorem judgeBuffer_incomplete {kind tag length : Byte} {rest : List Byte} (fits : length.toNat ≤ 64)
    (incomplete : rest.length < length.toNat + 2) :
    s.judgeBuffer l (kind :: tag :: length :: rest) = s.bufferBytes l (kind :: tag :: length :: rest) := by
  rw [State.judgeBuffer, if_neg (show ¬Config.maxPayload < length.toNat from Nat.not_lt.2 fits)]
  split
  · next lo hi check =>
    have := congrArg List.length check
    rw [List.length_drop, List.length_cons, List.length_singleton] at this
    omega
  · rfl

theorem judgeBuffer_complete {kind tag length lo hi : Byte} {payload : List Byte} (fits : length.toNat ≤ 64)
    (whole : payload.length = length.toNat) :
    s.judgeBuffer l (kind :: tag :: length :: (payload ++ [lo, hi])) =
      s.completeFrame l ⟨kind, tag, length, payload⟩ (word16 lo hi) := by
  rw [State.judgeBuffer, if_neg (show ¬Config.maxPayload < length.toNat from Nat.not_lt.2 fits), ← whole, List.drop_left,
    List.take_left]

/-! A frame in reception hides nothing but the buffer. -/

theorem bufferBytes_port (bytes : List Byte) : (s.bufferBytes l bytes).port l = { s.port l with
    phase := .inFrame, buffer := bytes, interByte := true } := setPort_port_self s l _

theorem bufferBytes_inFrame {bytes : List Byte} (phase : (s.port l).phase = .inFrame) :
    s.bufferBytes l bytes = s.setPort l { s.port l with buffer := bytes, interByte := true } := by
  rw [State.bufferBytes, ← phase]

theorem setPort_setPort (x y : LinkPort) : (s.setPort l x).setPort l y = s.setPort l y := by
  rw [State.setPort, setPort_ports, Vec.set_set]
  rfl

theorem bufferBytes_bufferBytes (before bytes : List Byte) : (s.bufferBytes l before).bufferBytes l bytes = s.bufferBytes l bytes := by
  rw [State.bufferBytes, bufferBytes_port]
  exact setPort_setPort _ _

theorem dropFrame_bufferBytes (bytes : List Byte) : (s.bufferBytes l bytes).dropFrame l = s.dropFrame l := by
  rw [State.dropFrame, bufferBytes_port]
  exact setPort_setPort _ _

theorem answer_bufferBytes (bytes : List Byte) (kind tag : Byte) (f : RequestMeaning) :
    (s.bufferBytes l bytes).answer l kind tag f = s.answer l kind tag f := by
  have hunting : (s.bufferBytes l bytes).setPort l ((s.bufferBytes l bytes).port l).hunt = s.setPort l (s.port l).hunt := by
    rw [bufferBytes_port]
    exact setPort_setPort _ _
  have sending : ((s.bufferBytes l bytes).port l).sending = (s.port l).sending := by rw [bufferBytes_port]
  cases busy : (s.port l).sending with
  | none => rw [answer_idle (sending.trans busy), answer_idle busy, hunting]
  | some r => rw [answer_busy (sending.trans busy), answer_busy busy, dropFrame_bufferBytes]

theorem completeFrame_bufferBytes (bytes : List Byte) (f : Frame) (check : BitVec 16) :
    (s.bufferBytes l bytes).completeFrame l f check = s.completeFrame l f check := by
  rw [State.completeFrame, State.completeFrame, dropFrame_bufferBytes, answer_bufferBytes]

theorem completeFrame_badCheck {f : Frame} {check : BitVec 16} (bad : crc16 f.checked ≠ check) :
    s.completeFrame l f check = s.dropFrame l := if_pos bad

theorem completeFrame_goodCheck {f : Frame} {check : BitVec 16} (good : crc16 f.checked = check) :
    s.completeFrame l f check = s.answer l f.kind f.tag (requestOf l f.kind f.payload) := if_neg (not_not.2 good)

/-! Bytes one after another. -/

theorem receiveByte_start (phase : (s.port l).phase = .hunting) : s.receiveByte l 0xC3 = s.bufferBytes l [] := by
  rw [State.receiveByte, phase]
  exact if_pos rfl

theorem receiveByte_noise {b : Byte} (phase : (s.port l).phase = .hunting) (other : b ≠ 0xC3) : s.receiveByte l b = s := by
  rw [State.receiveByte, phase]
  exact if_neg other

theorem receiveByte_inFrame {b : Byte} (phase : (s.port l).phase = .inFrame) :
    s.receiveByte l b = s.judgeBuffer l ((s.port l).buffer ++ [b]) := by
  rw [State.receiveByte, phase]

theorem receiveAll_cons {b : Byte} {bytes : List Byte} (live : s.live) :
    receiveAll l (b :: bytes) s = receiveAll l bytes (s.receiveByte l b) := by
  rw [receiveAll, exec_byteReceived b live]

theorem receiveByte_buffered (before : List Byte) (b : Byte) :
    (s.bufferBytes l before).receiveByte l b = (s.bufferBytes l before).judgeBuffer l (before ++ [b]) := by
  rw [receiveByte_inFrame (by rw [bufferBytes_port]), bufferBytes_port]

/-- A byte that leaves the frame incomplete joins the buffer. -/
theorem receiveAll_buffered {b : Byte} {before bytes : List Byte} (live : s.live)
    (incomplete : ∀ u : State, u.judgeBuffer l (before ++ [b]) = u.bufferBytes l (before ++ [b])) :
    receiveAll l (b :: bytes) (s.bufferBytes l before) = receiveAll l bytes (s.bufferBytes l (before ++ [b])) := by
  rw [receiveAll_cons (s := s.bufferBytes l before) live, receiveByte_buffered, incomplete, bufferBytes_bufferBytes]

/-- Every byte before a frame's last joins the buffer. -/
theorem receiveAll_collected {kind tag length : Byte} (fits : length.toNat ≤ 64) (live : s.live) (bytes last before : List Byte)
    (incomplete : before.length + bytes.length < length.toNat + 2) :
    receiveAll l (bytes ++ last) (s.bufferBytes l (kind :: tag :: length :: before)) =
      receiveAll l last (s.bufferBytes l (kind :: tag :: length :: (before ++ bytes))) := by
  induction bytes generalizing before with
  | nil => rw [List.append_nil, List.nil_append]
  | cons b bytes ih =>
    rw [List.length_cons] at incomplete
    have shorter : (before ++ [b]).length + bytes.length < length.toNat + 2 := by
      rw [List.length_append, List.length_singleton]
      omega
    rw [List.cons_append, receiveAll_buffered live fun u => judgeBuffer_incomplete (rest := before ++ [b]) fits (by omega)]
    exact (ih (before ++ [b]) shorter).trans (by rw [List.append_assoc, List.singleton_append])

/-- The bytes of a frame complete it, whatever its check. -/
theorem receiveAll_frame {kind tag : Byte} {payload : List Byte} {check : BitVec 16} (live : s.live)
    (phase : (s.port l).phase = .hunting) (fits : payload.length ≤ 64) :
    receiveAll l (frameBytes kind tag payload check) s =
      .next (s.completeFrame l ⟨kind, tag, byte payload.length, payload⟩ check) := by
  have length : (byte payload.length).toNat = payload.length := by
    rw [byte, BitVec.toNat_ofNat]
    omega
  have bytes : frameBytes kind tag payload check = 0xC3 :: kind :: tag :: byte payload.length ::
      ((payload ++ [check.extractLsb' 0 8]) ++ [check.extractLsb' 8 8]) := by
    simp [frameBytes, bytes16, Config.startByte]
  have last : ∀ u : State, u.judgeBuffer l ((kind :: tag :: byte payload.length :: (payload ++ [check.extractLsb' 0 8])) ++
      [check.extractLsb' 8 8]) = u.completeFrame l ⟨kind, tag, byte payload.length, payload⟩ check := by
    intro u
    have := judgeBuffer_complete (s := u) (l := l) (kind := kind) (tag := tag) (lo := check.extractLsb' 0 8)
      (hi := check.extractLsb' 8 8) (length.trans_le fits) length.symm
    rw [word16_bytes16] at this
    simpa using this
  rw [bytes, receiveAll_cons live, receiveByte_start phase,
    receiveAll_buffered live fun _ => judgeBuffer_short (Nat.lt_of_sub_eq_succ rfl),
    receiveAll_buffered live fun _ => judgeBuffer_short (Nat.lt_of_sub_eq_succ rfl),
    receiveAll_buffered live fun _ => judgeBuffer_incomplete (rest := []) (length.trans_le fits) (Nat.succ_pos _)]
  refine (receiveAll_collected (length.trans_le fits) live _ _ [] ?_).trans ?_
  · rw [length, List.length_append, List.length_nil, List.length_singleton]
    omega
  · rw [List.nil_append, receiveAll_cons (s := s.bufferBytes l _) live, receiveByte_buffered, last, completeFrame_bufferBytes]
    rfl

end

/-- Settles O7: the frame completes with the check it was given, and the completed frame is the request event. -/
theorem frameDeliversRequest : Obligations.FrameDeliversRequest := by
  unfold Obligations.FrameDeliversRequest
  intro i l kind tag s request wellFormed live phase
  have fits : i.payload.length ≤ 64 := Laws.PayloadFits.of_wellFormed i wellFormed
  have good : crc16 (Frame.checked ⟨kind, tag, byte i.payload.length, i.payload⟩) = frameCheck kind tag i.payload := rfl
  rw [receiveAll_frame live phase fits, completeFrame_goodCheck good, exec_request request wellFormed live]

/-- Settles O8: each case is a branch of the receiver, and the last is a whole frame whose check is bad. -/
theorem receiverFollowsBytes : Obligations.ReceiverFollowsBytes := by
  unfold Obligations.ReceiverFollowsBytes
  intro l b s live
  refine ⟨fun phase other => ?_, fun phase => ?_, fun phase short => ?_, fun phase two long => ?_, fun kind tag payload check phase
    fits bad => ?_⟩
  · rw [exec_byteReceived b live, receiveByte_noise phase other]
  · rw [exec_frameStart, exec_byteReceived _ live, receiveByte_start phase]
    exact ⟨rfl, rfl⟩
  · have joins : ∀ x, s.receiveByte l x = s.bufferBytes l ((s.port l).buffer ++ [x]) := fun x => by
      rw [receiveByte_inFrame phase, judgeBuffer_short (by rw [List.length_append, List.length_singleton]; omega)]
    rw [exec_frameStart, exec_byteReceived _ live, exec_byteReceived _ live, joins, joins, bufferBytes_inFrame phase,
      bufferBytes_inFrame phase]
    exact ⟨rfl, rfl⟩
  · obtain ⟨kind, tag, buffer⟩ := List.length_eq_two.1 two
    rw [exec_byteReceived _ live, receiveByte_inFrame phase, buffer, List.cons_append, List.cons_append, List.nil_append,
      judgeBuffer_tooLong long]
    rfl
  · have differs : crc16 (Frame.checked ⟨kind, tag, byte payload.length, payload⟩) ≠ check := Ne.symm bad
    rw [receiveAll_frame live phase fits, completeFrame_badCheck differs]
    rfl

end Sys2Proof.Machine
end

section
/-! Reports, ageing and the reference (chapters 1 and 2): what one reported pair and one expiry leave. -/

namespace Sys2Proof.Machine

theorem indexByte?_byte {n : Nat} (small : n ≤ 256) (i : Fin n) : indexByte? n (byte i.val) = some i := by
  have value : (byte i.val).toNat = i.val := by
    rw [byte, BitVec.toNat_ofNat]
    omega
  rw [indexByte?, value, index?, dif_pos i.isLt]

theorem pairs?_single (b : Byte) (w : BitVec 16) : pairs? (b :: bytes16 w) = some [⟨b, w.toInt⟩] := by
  have value : signed16 (w.extractLsb' 0 8) (w.extractLsb' 8 8) = w.toInt := by rw [signed16, word16_bytes16]
  rw [← value]
  rfl

section
variable {s : State} {l : Link} {c : Channel} {w : BitVec 16}

/-- A REPORT of one pair is that pair judged. -/
theorem requestReport_single (b : Byte) : requestReport l (b :: bytes16 w) s =
    ((s.judgePair l ⟨b, w.toInt⟩).1, .ok [(s.judgePair l ⟨b, w.toInt⟩).2]) := by
  rw [requestReport, pairs?_single]
  rfl

theorem plausible_iff {v : Int} : s.plausible c v = true ↔ (s.active.channel c).low ≤ v ∧ v ≤ (s.active.channel c).high :=
  decide_eq_true_iff

theorem judgePair_implausible {v : Int} (right : s.mayReport l c = true) (outside : s.plausible c v = false) :
    s.judgePair l ⟨byte c.val, v⟩ = (s.raise (.reportRefused c), 0x05) := by
  rw [State.judgePair]
  dsimp only
  rw [indexByte?_byte (by decide)]
  simp only [right, outside]
  rfl

theorem judgePair_accumulated {v : Int} (right : s.mayReport l c = true) (inside : s.plausible c v = true)
    (short : (s.channel c).count + 1 < (s.active.channel c).target) :
    s.judgePair l ⟨byte c.val, v⟩ = (s.accumulate c v, 0x00) := by
  rw [State.judgePair]
  dsimp only
  rw [indexByte?_byte (by decide)]
  simp only [right, inside, if_pos short]
  rfl

theorem judgePair_published {v : Int} (right : s.mayReport l c = true) (inside : s.plausible c v = true)
    (whole : (s.channel c).count + 1 = (s.active.channel c).target) :
    s.judgePair l ⟨byte c.val, v⟩ = (s.publish l c v, 0x80) := by
  rw [State.judgePair]
  dsimp only
  rw [indexByte?_byte (by decide)]
  simp only [right, inside, if_neg (Nat.not_lt.2 whole.ge)]
  rfl

end

/-- Settles O14: the pair's branch of the judgement, on the hunting receiver. -/
theorem reportAccumulatesOrRefuses : Obligations.ReportAccumulatesOrRefuses := by
  unfold Obligations.ReportAccumulatesOrRefuses
  intro l tag c w s ready right
  have hunting : (s.setPort l (s.port l).hunt).mayReport l c = true := right
  refine ⟨fun low high short => ?_, fun outside => ?_⟩
  · have effect := requestReport_single (s := s.setPort l (s.port l).hunt) (l := l) (w := w) (byte c.val)
    rw [judgePair_accumulated hunting (plausible_iff.2 ⟨low, high⟩) short] at effect
    exact answerRequest_of_ports_kept ready effect rfl
  · have effect := requestReport_single (s := s.setPort l (s.port l).hunt) (l := l) (w := w) (byte c.val)
    rw [judgePair_implausible hunting (decide_eq_false (by rintro ⟨low, high⟩; exact outside.elim low.not_gt high.not_gt))] at effect
    exact answerRequest_of_ports_kept ready effect rfl

/-! The Outdoor Reference Unit does not read the Link Ports. -/

section
variable (s : State) (ports : Vec 3 LinkPort)

theorem creditTest_ports (st : Station) (x : Int) :
    ({ s with ports := ports } : State).creditTest st x = { s.creditTest st x with ports := ports } := by
  have others : ({ s with ports := ports } : State).others st = s.others st := rfl
  have reduced : ({ s with ports := ports } : State).reduced st x = s.reduced st x := rfl
  have station : ({ s with ports := ports } : State).station st = s.station st := rfl
  unfold State.creditTest
  rw [others, reduced, station]
  split
  · rfl
  · dsimp only
    split <;> rfl

theorem redecide_ports : ({ s with ports := ports } : State).redecide = { s.redecide with ports := ports } := by
  rw [redecide_eq, redecide_eq]
  rfl

theorem stationPublished_ports (c : Channel) (x : Int) :
    ({ s with ports := ports } : State).stationPublished c x = { s.stationPublished c x with ports := ports } := by
  unfold State.stationPublished
  split
  · rw [creditTest_ports, redecide_ports]
  · exact redecide_ports s ports
  · rfl

end

/-! Publication (R8, R12). -/

section
variable {c : Channel}

theorem channelKind_stationT (st : Station) : channelKind (stationTChannel st) = .stationT ∧ channelStation (stationTChannel st) = st := by
  revert st; decide

theorem channelKind_stationW (st : Station) : channelKind (stationWChannel st) = .stationW := by revert st; decide

/-- A station channel is the T or the W channel of its station. -/
theorem stationChannel (low : c.val < 8) : (∃ st, c = stationTChannel st) ∨ ∃ st, c = stationWChannel st := by
  revert c; decide

variable (s : State) (x : Int)

theorem stationPublished_train (high : 8 ≤ c.val) : s.stationPublished c x = s := by
  have kind := channelKind_of_ge high
  unfold State.stationPublished
  split
  · next t => exact absurd t kind.1
  · next t => exact absurd t kind.2
  · rfl

theorem stationPublished_T {st : Station} (channel : c = stationTChannel st) :
    s.stationPublished c x = (s.creditTest st x).redecide := by
  rw [channel, State.stationPublished, (channelKind_stationT st).1, (channelKind_stationT st).2]

theorem stationPublished_W {st : Station} (channel : c = stationWChannel st) : s.stationPublished c x = s.redecide := by
  rw [channel, State.stationPublished, channelKind_stationW st]

/-- A credit test changes the stations, and raises no more than its station's STATION_DISCREDITED. -/
theorem creditTest_frame (st : Station) : ∃ ys, (ys = [] ∨ ys = [.edge (.stationDiscredited st)]) ∧
    s.creditTest st x = { s with stations := (s.creditTest st x).stations, raised := s.raised ++ ys } := by
  unfold State.creditTest
  split
  · exact ⟨[], .inl rfl, by rw [List.append_nil]; rfl⟩
  · dsimp only
    split
    · exact ⟨_, .inr rfl, rfl⟩
    · exact ⟨[], .inl rfl, by rw [List.append_nil]; rfl⟩

/-! The re-decided record (R27 to R30). -/

theorem freshValue_eq (d : Channel) : s.freshValue d = if (s.channel d).state = .fresh then (s.channel d).published else none := by
  rw [State.freshValue]
  cases (s.channel d).state <;> rfl

/-- The reduced temperatures a re-decision takes are those of the usable stations (R20, R27). -/
theorem filterMap_usableReduced : allStations.filterMap s.usableReduced =
    (allStations.filter s.isUsable).filterMap fun st => (s.freshValue (stationTChannel st)).map (s.reduced st) := by
  rw [List.filterMap_filter]
  refine List.filterMap_congr fun st _ => ?_
  rw [State.usableReduced, State.isUsable]
  by_cases credited : (s.station st).credit = .credited
  · cases fresh : s.freshValue (stationTChannel st) <;> simp [credited]
  · simp [credited]

theorem decidedReference_lost : s.decidedReference.lost = true ↔ s.decidedReference.usable = [] ∨ s.decidedReference.wOA = none := by
  rw [State.decidedReference]
  simp

theorem decidedReference_lostSinceRead : s.decidedReference.lostSinceRead = true ↔
    s.reference.lostSinceRead = true ∨ s.decidedReference.lost = true ∧ s.reference.lost = false := by
  rw [State.decidedReference]
  simp

end

/-- The publication as the Outdoor Reference Unit finds it (R8, R12). -/
theorem publish_eq (s : State) (l : Link) (c : Channel) (v : Int) : s.publish l c v =
    (s.setChannel c (s.publishedRec l c v)).stationPublished c
      (roundDiv ((s.channel c).sum + v) (s.active.channel c).target) := rfl

/-- A REPORT whose one pair publishes. -/
theorem exec_report_publishes {l : Link} {tag : Byte} {c : Channel} {w : BitVec 16} {s : State} (ready : s.ready l)
    (right : s.mayReport l c = true) (inside : s.plausible c w.toInt = true)
    (whole : (s.channel c).count + 1 = (s.active.channel c).target) :
    exec (.report l tag (byte c.val :: bytes16 w)) s =
      .next { s.publish l c w.toInt with ports := s.repliedPorts l kindReport tag .ok [0x80] } := by
  have effect := requestReport_single (s := s.setPort l (s.port l).hunt) (l := l) (w := w) (byte c.val)
  have published : (s.setPort l (s.port l).hunt).publish l c w.toInt =
      { s.publish l c w.toInt with ports := (s.setPort l (s.port l).hunt).ports } :=
    stationPublished_ports (s.setChannel c (s.publishedRec l c w.toInt)) _ c _
  rw [judgePair_published (s := s.setPort l (s.port l).hunt) right inside whole, published] at effect
  exact answerRequest_of_ports_kept ready effect rfl

/-- What a station channel's publication leaves: the re-decision of the state `v` the credit test leaves, if there is one. -/
theorem stationPublished_low (u : State) {c : Channel} (x : Int) (low : c.val < 8) : ∃ (v : State) (ys : List Raise),
    (ys = [] ∨ ∃ st, c = stationTChannel st ∧ ys = [.edge (.stationDiscredited st)]) ∧ v.raised = u.raised ++ ys ∧
    v = { u with stations := v.stations, raised := v.raised } ∧ u.stationPublished c x = v.redecide := by
  rcases stationChannel low with ⟨st, rfl⟩ | ⟨st, rfl⟩
  · obtain ⟨ys, discredits, frame⟩ := creditTest_frame u x st
    refine ⟨u.creditTest st x, ys, discredits.imp_right fun ys => ⟨st, rfl, ys⟩, congrArg State.raised frame, ?_,
      stationPublished_T u x rfl⟩
    rw [frame]
  · exact ⟨u, [], .inl rfl, (List.append_nil _).symm, rfl, stationPublished_W u x rfl⟩

/-- Settles O15: the publication reaches the unit as the state that holds it, and every way it reaches it ends in a re-decision. -/
theorem reportPublishesMean : Obligations.ReportPublishesMean := by
  unfold Obligations.ReportPublishesMean
  intro l tag c w s ready right low high whole
  refine ⟨_, exec_report_publishes ready right (plausible_iff.2 ⟨low, high⟩) whole, ?_⟩
  intro x u fresh r
  have published : s.publish l c w.toInt = u.stationPublished c x := publish_eq s l c w.toInt
  have same : SameButReference u (u.stationPublished c x) := stationPublished_same u c x
  have reference : r = (u.stationPublished c x).reference :=
    (show r = (s.publish l c w.toInt).reference from rfl).trans (congrArg State.reference published)
  have stations : (s.publish l c w.toInt).stations = (u.stationPublished c x).stations := congrArg State.stations published
  have raised : (s.publish l c w.toInt).raised = (u.stationPublished c x).raised := congrArg State.raised published
  have channels : (s.publish l c w.toInt).channels = u.channels := (congrArg State.channels published).trans same.channels
  have fresh_eq : fresh = u.freshValue := funext fun d => (freshValue_eq u d).symm
  refine ⟨?frame, fun train => ?train, fun st channel => ?T, fun st channel => ?W, fun station => ?station⟩
  case frame =>
    conv_lhs => rw [publish_frame, channels]
  case train =>
    have none := stationPublished_train u x train
    exact ⟨stations.trans (congrArg State.stations none :), reference.trans (congrArg State.reference none :),
      raised.trans (congrArg State.raised none :)⟩
  case T =>
    have tested := stationPublished_T u x channel
    have kept : (u.creditTest st x).redecide.stations = (u.creditTest st x).stations := by rw [redecide_eq]
    exact ⟨(stations.trans (congrArg State.stations tested)).trans kept, reference.trans (congrArg State.reference tested),
      raised.trans (congrArg State.raised tested)⟩
  case W =>
    have redecided := stationPublished_W u x channel
    have kept : u.redecide.stations = u.stations := by rw [redecide_eq]
    exact ⟨(stations.trans (congrArg State.stations redecided)).trans kept, reference.trans (congrArg State.reference redecided),
      raised.trans (congrArg State.raised redecided)⟩
  case station =>
    obtain ⟨v, ys, discredits, told, tested, redecided⟩ := stationPublished_low u x station
    rw [redecided, redecide_eq] at reference stations raised
    replace reference : r = v.decidedReference := reference
    replace stations : (s.publish l c w.toInt).stations = v.stations := stations
    have old : v.reference = s.reference := (congrArg State.reference tested :)
    have freshV : v.freshValue = fresh := by
      rw [fresh_eq, tested]
      rfl
    have reduced : v.reduced = fun st y => y - lapseCorrection s.active.station.lapse (s.active.station.heights.get st) := by
      rw [tested]
      rfl
    have usable : v.decidedReference.usable = allStations.filter fun st =>
        ((s.publish l c w.toInt).station st).credit = .credited ∧ (fresh (stationTChannel st)).isSome := by
      refine List.filter_congr fun st _ => ?_
      rw [State.isUsable, freshV, State.station, State.station, stations]
    have humidity : v.decidedReference.wOA = lowerMedian (allStations.filterMap fun st => fresh (stationWChannel st)) := by
      rw [← freshV]
      rfl
    have median : v.decidedReference.median = lowerMedian (v.decidedReference.usable.filterMap fun st =>
        (fresh (stationTChannel st)).map fun y => y - lapseCorrection s.active.station.lapse (s.active.station.heights.get st)) := by
      rw [← freshV]
      refine (congrArg lowerMedian (filterMap_usableReduced v)).trans ?_
      rw [reduced]
      rfl
    rw [reference, ← old]
    refine ⟨usable, median, humidity, decidedReference_lost v, decidedReference_lostSinceRead v, ys, discredits, ?_⟩
    rw [told] at raised
    exact raised

end Sys2Proof.Machine
end

section
/-! Ageing (R10), rounding (R36) and the evaluation event (R53 to R68). -/

namespace Sys2Proof.Machine

/-! Ageing. -/

section
variable {s : State} {c : Channel}

theorem exec_ageTimerExpiry (live : s.live) :
    exec (.ageTimerExpiry c) s = .next (if timeIsUp (s.channel c).age then s.goStale c else s) :=
  takeEvent_live (f := fun s => if timeIsUp (s.channel c).age then s.goStale c else s) live

theorem timeIsUp_iff {t : Timer} : timeIsUp t = true ↔ t = some 0 := decide_eq_true_iff

/-- The stale event's effect on its own channel, before it reaches the reference. -/
def State.aged (s : State) (c : Channel) : State :=
  (s.setChannel c { (s.channel c).emptied with state := .stale, age := none }).raise (.channelStale c)

theorem goStale_train (high : 8 ≤ c.val) : s.goStale c = s.aged c := if_neg (Nat.not_lt.2 high)

theorem goStale_station (low : c.val < 8) : s.goStale c = (s.aged c).redecide := if_pos low

end

/-- Settles O17: a train channel's expiry ends at the channel, a station channel's in a re-decision. -/
theorem ageExpiryMakesStale : Obligations.AgeExpiryMakesStale := by
  unfold Obligations.AgeExpiryMakesStale
  intro c s live
  rw [exec_ageTimerExpiry live]
  refine ⟨fun running => ?_, fun due => ?_⟩
  · rw [if_neg (mt timeIsUp_iff.1 running)]
  · rw [if_pos (timeIsUp_iff.2 due)]
    refine ⟨s.goStale c, rfl, ?_⟩
    by_cases low : c.val < 8
    · rw [goStale_station low, redecide_eq]
      exact ⟨rfl, rfl, fun high => absurd high (Nat.not_le.2 low), fun _ => ⟨rfl, rfl⟩⟩
    · rw [goStale_train (Nat.le_of_not_lt low)]
      exact ⟨rfl, rfl, fun _ => ⟨rfl, rfl⟩, fun low' => absurd low' low⟩

/-! Rounding (R36). -/

section
variable {num den q : Int}

theorem roundDiv_eq_iff (positive : 0 < den) :
    roundDiv num den = q ↔ 2 * den * q ≤ 2 * num + den ∧ 2 * num + den < 2 * den * (q + 1) := by
  have double : 0 < 2 * den := by omega
  have lower : q ≤ (2 * num + den) / (2 * den) ↔ 2 * den * q ≤ 2 * num + den := by
    rw [Int.le_ediv_iff_mul_le double, mul_comm]
  have upper : (2 * num + den) / (2 * den) ≤ q ↔ 2 * num + den < 2 * den * (q + 1) := by
    rw [← Int.lt_add_one_iff, Int.ediv_lt_iff_lt_mul double, mul_comm (2 * den)]
  rw [roundDiv, le_antisymm_iff, lower, upper, and_comm]

/-- The rounding of the negative is the negative of the rounding unless the rounding went up by exactly half a unit. -/
theorem roundDiv_neg_iff (positive : 0 < den) :
    roundDiv (-num) den = -roundDiv num den ↔ 2 * num + den ≠ 2 * den * roundDiv num den := by
  obtain ⟨low, high⟩ := (roundDiv_eq_iff (num := num) positive).1 rfl
  rw [roundDiv_eq_iff positive, mul_add, mul_neg]
  rw [mul_add] at high
  omega

end

/-- Settles O21: the quotient's floor bounds, and the one case in which the negative rounds otherwise. -/
theorem roundingIsNearest : Obligations.RoundingIsNearest := by
  unfold Obligations.RoundingIsNearest
  intro num den q positive
  refine ⟨roundDiv_eq_iff positive, (roundDiv_neg_iff positive).trans (not_congr ⟨fun half => ⟨roundDiv num den - 1, ?_⟩, ?_⟩)⟩
  · linarith [mul_comm den (2 * (roundDiv num den - 1) + 1), half]
  · rintro ⟨z, half⟩
    have rounded : roundDiv num den = z + 1 := (roundDiv_eq_iff positive).2 (by constructor <;> nlinarith)
    rw [rounded]
    linarith

/-! Qualification (R60, R61). -/

section
variable {p : SlotParams} {r : SlotRec} {raw : Raw}

theorem qualify_lastRaw : (qualify p r raw).1.lastRaw = raw := by
  unfold qualify
  split
  · rfl
  · split_ifs <;> rfl

theorem qualify_unavailable : qualify p r .unavailable = ({ r with lastRaw := .unavailable }, false) := rfl

theorem qualify_agrees (available : raw ≠ .unavailable) (agrees : raw = .isTrue ↔ r.asserted = true) :
    qualify p r raw = ({ r with counter := 0, lastRaw := raw }, false) := by
  have same : decide (raw = .isTrue) = r.asserted := by
    cases asserted : r.asserted <;> simp_all
  unfold qualify
  split
  · exact absurd rfl available
  · exact if_pos same

theorem qualify_disagrees (available : raw ≠ .unavailable) (disagrees : ¬(raw = .isTrue ↔ r.asserted = true)) :
    qualify p r raw = if r.counter + 1 = p.count r.asserted then (⟨!r.asserted, 0, raw⟩, true)
      else ({ r with counter := r.counter + 1, lastRaw := raw }, false) := by
  have differs : ¬decide (raw = .isTrue) = r.asserted := fun same => disagrees (by rw [← same, decide_eq_true_iff])
  unfold qualify
  split
  · exact absurd rfl available
  · exact if_neg differs

/-- The flip a qualification reports is the change of the slot's state. -/
theorem qualify_flipped : (qualify p r raw).2 = ((qualify p r raw).1.asserted != r.asserted) := by
  unfold qualify
  split
  · simp
  · split_ifs <;> simp

end

/-- Settles O20: each slot is qualified by its raw result of the event, and the raises count the slots whose state differs. -/
theorem evaluationQualifiesSlots : Obligations.EvaluationQualifiesSlots := by
  unfold Obligations.EvaluationQualifiesSlots
  intro k s live due
  have slots : ∀ c, ((s.evaluate k).bank k).slots.get c = (qualify ((s.active.slots.get k).get c) ((s.bank k).slots.get c)
      ((s.rawResults k (s.intake k (s.effective k).d)).get c)).1 := fun c => by
    rw [evaluate_bank, Vec.get_map, State.qualified, Vec.get_ofFn]
  refine ⟨s.evaluate k, exec_evaluation_of_due live due, fun c => ?_, ?_, by rw [evaluate_frame], by rw [evaluate_frame]⟩
  · dsimp only
    rw [slots c, qualify_lastRaw]
    refine ⟨rfl, fun unavailable => ?_, fun available agrees => ?_, fun available disagrees reached => ?_,
      fun available disagrees short => ?_⟩
    · rw [unavailable, qualify_unavailable]
      exact ⟨rfl, rfl⟩
    · rw [qualify_agrees available agrees]
      exact ⟨rfl, rfl⟩
    · rw [qualify_disagrees available disagrees, SlotParams.count, if_pos reached]
      exact ⟨rfl, rfl⟩
    · rw [qualify_disagrees available disagrees, SlotParams.count, if_neg short]
      exact ⟨rfl, rfl⟩
  · rw [evaluate_raised]
    refine congrArg (fun n => s.raised ++ List.replicate n _) (List.countP_congr fun c _ => ?_)
    rw [slots c, ← qualify_flipped, State.qualified, Vec.get_ofFn]

/-! The decision record (R68). -/

section
variable {s : State} {c d : Channel} {v : Int}

theorem freshValue_of_fresh (state : (s.channel c).state = .fresh) : s.freshValue c = (s.channel c).published := by
  rw [State.freshValue, state]

theorem freshValue_of_not_fresh (state : (s.channel c).state ≠ .fresh) : s.freshValue c = none := by
  rw [State.freshValue]
  cases h : (s.channel c).state <;> simp_all

theorem usableValue_own (state : (s.channel c).state = .fresh) (published : (s.channel c).published = some v) :
    s.usableValue c = some (v, false) := by
  rw [State.usableValue, freshValue_of_fresh state, published]

/-- A train channel that is not FRESH is read through its stand-in (R13). -/
theorem usableValue_standIn (train : 8 ≤ c.val) (state : (s.channel c).state ≠ .fresh) : s.usableValue c =
    (s.active.channel c).standIn.bind fun d => (s.freshValue d).map fun v => (v, true) := by
  rw [State.usableValue, freshValue_of_not_fresh state, if_neg (Nat.not_lt.2 train)]
  cases (s.active.channel c).standIn <;> rfl

/-- What a role of an evaluation reads (R13). -/
theorem role_read (train : 8 ≤ c.val) {role : Option Int × Bool}
    (reads : role = ((s.usableValue c).map Prod.fst, standsIn (s.usableValue c))) :
    (∀ x, (s.channel c).state = .fresh → (s.channel c).published = some x → role = (some x, false)) ∧
    (∀ e x, (s.channel c).state ≠ .fresh → (s.active.channel c).standIn = some e → (s.channel e).state = .fresh →
      (s.channel e).published = some x → role = (some x, true)) ∧
    ((s.channel c).state ≠ .fresh → (∀ e, (s.active.channel c).standIn = some e → (s.channel e).state ≠ .fresh) →
      role = (none, false)) := by
  subst reads
  refine ⟨fun x state published => ?_, fun e x state standIn fresh published => ?_, fun state stale => ?_⟩
  · rw [usableValue_own state published]
    rfl
  · rw [usableValue_standIn train state, standIn, Option.bind_some, freshValue_of_fresh fresh, published]
    rfl
  · rw [usableValue_standIn train state]
    cases standIn : (s.active.channel c).standIn with
    | none => rfl
    | some e =>
      rw [Option.bind_some, freshValue_of_not_fresh (stale e standIn)]
      rfl

end

theorem exec_evaluation_of_running {k : Train} {s : State} (live : s.live) (running : (s.bank k).evalTimer ≠ 0) :
    exec (.evaluation k) s = .next s := by
  rw [exec_evaluation, execEvaluation, takeEvent_live live, if_neg running]

/-- What an evaluation hands on and leaves of the other trains (R53, R54). -/
theorem evaluate_others (s : State) (k : Train) :
    (s.evaluate k).handoffs = s.handoffs ++ [.decision k .criterionBank, .drive k .record] ∧
    (s.evaluate k).paramsPending = s.paramsPending.set k false ∧ ∀ j, j ≠ k → (s.evaluate k).bank j = s.bank j := by
  have flips := raiseFlips_frame s k (s.qualified k (s.rawResults k (s.intake k (s.effective k).d)))
  unfold State.evaluate
  dsimp only
  generalize s.raiseFlips k _ = u at flips ⊢
  refine ⟨?_, ?_, fun j other => ?_⟩
  · rw [flips]
    exact List.append_assoc _ _ _
  · rw [flips]
    rfl
  · rw [flips]
    exact Vec.get_set_ne _ (Ne.symm other) _

/-- Settles O18: the record is the bank's of the evaluation, and the rest is what the evaluation hands on and leaves. -/
theorem evaluationMakesRecord : Obligations.EvaluationMakesRecord := by
  unfold Obligations.EvaluationMakesRecord
  intro k s live
  refine ⟨exec_evaluation_of_running live, fun due => ?_⟩
  have bank := evaluate_bank k s
  dsimp only at bank
  obtain ⟨handoffs, flags, others⟩ := evaluate_others s k
  refine ⟨s.evaluate k, _, exec_evaluation_of_due live due, by rw [bank], rfl, rfl, rfl, rfl, rfl, rfl, rfl, rfl, fun c => ?vector,
    fun c => ?raws, fun c => Vec.get_map _ _ _, rfl, fun role member => ?roles, ?flag, handoffs,
    fun j other => ⟨others j other, ?otherFlags⟩, evaluate_frame s k, fun steady => ?raised⟩
  case vector =>
    rw [bank]
    exact Vec.get_map _ _ _
  case raws =>
    rw [bank]
    dsimp only
    rw [Vec.get_map, State.qualified, Vec.get_ofFn, qualify_lastRaw]
    rfl
  case roles =>
    simp only [List.mem_cons, List.not_mem_nil, or_false] at member
    rcases member with rfl | rfl | rfl
    · exact role_read (Nat.le_add_right 8 _) rfl
    · exact role_read (show 8 ≤ 9 + 3 * k.val by omega) rfl
    · exact role_read (show 8 ≤ 10 + 3 * k.val by omega) rfl
  case flag =>
    rw [flags]
    exact Vec.get_set_self _ _ _
  case otherFlags =>
    rw [flags]
    exact Vec.get_set_ne _ (Ne.symm other) _
  case raised =>
    have unflipped : ∀ c ∈ List.finRange 8, ¬((s.qualified k (s.rawResults k (s.intake k (s.effective k).d))).get c).2 = true := by
      intro c _
      have kept := steady c
      rw [bank, Vec.get_map, State.qualified, Vec.get_ofFn] at kept
      rw [State.qualified, Vec.get_ofFn, qualify_flipped, kept, bne_self_eq_false]
      exact Bool.false_ne_true
    rw [evaluate_raised, List.countP_eq_zero.2 unflipped]
    exact List.append_nil _

end Sys2Proof.Machine
end

section
/-! The Demand Table's requests and expiry (R74 to R82), and the effective entry (R77). -/

namespace Sys2Proof.Machine

/-! What a change of a table hands on (R79). -/

/-- What a change of a train's effective entry hands on. -/
def effectiveNews (k : Train) (before now : Effective) : List Handoff :=
  if now = before then []
  else (if now.fan ≠ before.fan ∨ now.request ≠ before.request then [.decision k .demandTable] else []) ++ [.drive k .demand]

theorem handOnEffective_eq (s : State) (k : Train) (before : Effective) :
    s.handOnEffective k before = { s with handoffs := s.handoffs ++ effectiveNews k before (s.effective k) } := by
  unfold State.handOnEffective effectiveNews
  by_cases same : s.effective k = before
  · simp [same]
  · by_cases reads : (s.effective k).fan ≠ before.fan ∨ (s.effective k).request ≠ before.request
    · simp only [if_pos reads, if_neg same, if_pos (show s.effective k ≠ before from same)]
      simp [State.handOn, State.setHandoffs]
    · simp only [if_neg reads, if_neg same, if_pos (show s.effective k ≠ before from same)]
      simp [State.handOn, State.setHandoffs]

theorem changeTable_eq (s : State) (k : Train) (table : List DemandEntry) : s.changeTable k table = { s with
    demands := s.demands.set k table
    handoffs := s.handoffs ++ effectiveNews k (s.effective k) (effectiveOf table) } := by
  have now : (s.setDemand k table).effective k = effectiveOf table := by rw [State.effective, setDemand_demand_self]
  rw [State.changeTable, handOnEffective_eq, now]
  rfl

/-- Nothing is handed on without a change, and with one what reads differently decides the receivers (R79, assumption 26). -/
theorem handoffs_of_news {k : Train} {before now : Effective} {old new : List Handoff} (handed : new = old ++ effectiveNews k before now) :
    (now = before → new = old) ∧ (now ≠ before → new = old ++
      (if now.fan ≠ before.fan ∨ now.request ≠ before.request then [.decision k .demandTable] else []) ++ [.drive k .demand]) := by
  subst handed
  refine ⟨fun same => ?_, fun changed => ?_⟩
  · rw [effectiveNews, if_pos same, List.append_nil]
  · rw [effectiveNews, if_neg changed, List.append_assoc]

/-! Tables. -/

theorem filter_insertEntry_other {priority : Link → Nat} {e : DemandEntry} {keep : DemandEntry → Bool} (out : keep e = false)
    (table : List DemandEntry) : (insertEntry priority e table).filter keep = table.filter keep := by
  induction table with
  | nil => simp [insertEntry, out]
  | cons x xs ih =>
    rw [insertEntry]
    split
    · rw [List.filter_cons_of_neg (by simp [out])]
    · rw [List.filter_cons, List.filter_cons, ih]

theorem filter_insertEntry_only {priority : Link → Nat} {e : DemandEntry} {keep : DemandEntry → Bool} (kept : keep e = true)
    {table : List DemandEntry} (others : ∀ x ∈ table, keep x = false) : (insertEntry priority e table).filter keep = [e] := by
  induction table with
  | nil => simp [insertEntry, kept]
  | cons x xs ih =>
    have first : keep x = false := others x List.mem_cons_self
    have rest : ∀ y ∈ xs, keep y = false := fun y member => others y (List.mem_cons_of_mem x member)
    rw [insertEntry]
    split
    · rw [List.filter_cons_of_pos kept, List.filter_eq_nil_iff.2 fun y member => by simp [others y member]]
    · rw [List.filter_cons_of_neg (by simp [first]), ih rest]

/-- The first entry found in an ordered table is before every other that would do. -/
theorem first_of_pairwise {α : Type} {R : α → α → Prop} {p : α → Bool} {xs : List α} {e : α} (order : xs.Pairwise R)
    (found : xs.find? p = some e) {x : α} (member : x ∈ xs) (holds : p x = true) : x = e ∨ R e x := by
  induction order with
  | nil => cases member
  | cons before _ ih =>
    next a as =>
    rw [List.find?_cons] at found
    split at found
    · cases found
      rcases List.mem_cons.1 member with rfl | later
      · exact .inl rfl
      · exact .inr (before x later)
    · next fails =>
      rcases List.mem_cons.1 member with rfl | later
      · rw [holds] at fails; cases fails
      · exact ih found later

/-- Settles O26: the entry found first in an ordered table has the highest priority of those that would do. -/
theorem effectiveEntrySelected : Obligations.EffectiveEntrySelected := by
  unfold Obligations.EffectiveEntrySelected
  intro k s sound
  refine ⟨fun empty => ?none, fun ⟨e, member, forces⟩ => ?forced, fun filled calm => ?head⟩
  case none =>
    rw [State.effective, empty]
    rfl
  case forced =>
    obtain ⟨f, found⟩ := Option.isSome_iff_exists.1 (List.find?_isSome.2 ⟨e, member, forces⟩)
    refine ⟨f, List.mem_of_find?_eq_some found, List.find?_some found, ?_, fun x => first_of_pairwise sound.order found⟩
    rw [State.effective, effectiveOf, effectiveEntry?, found]
  case head =>
    cases table : s.demand k with
    | nil => exact absurd table filled
    | cons e rest =>
      have none : (s.demand k).find? DemandEntry.forces = none := List.find?_eq_none.2 fun x member => by simp [calm x member]
      refine ⟨e, List.mem_cons_self, ?_, fun x member => ?_⟩
      · rw [State.effective, effectiveOf, effectiveEntry?, none, table]
        rfl
      · have order := sound.order
        rw [table] at order
        exact (List.mem_cons.1 member).imp_right (List.rel_of_pairwise_cons order)

/-! DEMAND. -/

theorem indexByte?_of_toNat {n : Nat} {b : Byte} {i : Fin n} (value : b.toNat = i.val) : indexByte? n b = some i := by
  rw [indexByte?, value, index?, dif_pos i.isLt]

theorem isEffective_eq (s : State) (l : Link) (k : Train) :
    s.isEffective l k = decide ((effectiveEntry? (s.demand k)).map (·.link) = some l) := by
  rw [State.isEffective]
  cases effectiveEntry? (s.demand k) <;> simp

section
variable {s : State} {l : Link} {k : Train}

/-- A DEMAND that passes its checks (R74, R75). -/
theorem requestDemand_accepted {payload : List Byte} {f : DemandFields} {r : Request} (fields : demandFields? payload = some f)
    (train : f.train.toNat = k.val) (set : s.inSet l k = true) (request : demandRequest (s.right l).force f = .ok r) :
    requestDemand l payload s = (s.acceptDemand l k (storedFields f r), .ok (s16 (storedFields f r).d ++
      u16? (storedFields f r).fixedSpeed ++ [flagByte ((s.acceptDemand l k (storedFields f r)).isEffective l k)])) := by
  unfold requestDemand
  rw [fields]
  dsimp only
  rw [indexByte?_of_toNat train]
  dsimp only
  rw [set, if_neg (by decide), request]

theorem withoutLink_link (table : List DemandEntry) : ∀ x ∈ withoutLink l table, decide (x.link = l) = false := by
  intro x member
  simpa using (List.mem_filter.1 member).2

end

/-- Settles O24: the entry put into the table without the link's is the one entry of the link, and the table's change hands on. -/
theorem demandStoresEntry : Obligations.DemandStoresEntry := by
  unfold Obligations.DemandStoresEntry
  intro l tag payload f k r s ready fields? train set request fields
  let table := insertEntry s.active.priority ⟨l, fields, s.active.demandTimeout⟩ (withoutLink l (s.demand k))
  let t : State := { s with
    ports := s.repliedPorts l kindDemand tag .ok
      (s16 fields.d ++ u16? fields.fixedSpeed ++ [flagByte ((effectiveEntry? table).map (·.link) = some l)])
    demands := s.demands.set k table, handoffs := s.handoffs ++ effectiveNews k (s.effective k) (effectiveOf table) }
  have accepted : (s.setPort l (s.port l).hunt).acceptDemand l k fields =
      { s.setPort l (s.port l).hunt with demands := t.demands, handoffs := t.handoffs } := changeTable_eq _ k table
  have demand : t.demand k = table := Vec.get_set_self _ _ _
  have effective : t.effective k = effectiveOf table := by rw [State.effective, demand]
  have effect := requestDemand_accepted (s := s.setPort l (s.port l).hunt) fields? train set request
  rw [isEffective_eq] at effect
  change _ = ((s.setPort l (s.port l).hunt).acceptDemand l k fields, Reply.ok (s16 fields.d ++ u16? fields.fixedSpeed ++
    [flagByte ((effectiveEntry? (((s.setPort l (s.port l).hunt).acceptDemand l k fields).demand k)).map (·.link) = some l)])) at effect
  rw [accepted] at effect
  change _ = (_, Reply.ok (s16 fields.d ++ u16? fields.fixedSpeed ++
    [flagByte ((effectiveEntry? (t.demand k)).map (·.link) = some l)])) at effect
  rw [demand] at effect
  refine ⟨t, answerRequest_of_ports_kept ready effect rfl, ?_, ?_, fun j other => ?_, ?_⟩
  · rw [demand]
    exact filter_insertEntry_only (decide_eq_true rfl) (withoutLink_link _)
  · rw [demand, filter_insertEntry_other (by simp)]
    exact List.filter_filter.trans (List.filter_congr fun x _ => Bool.and_self _)
  · exact Vec.get_set_ne _ (Ne.symm other) _
  · rw [demand, effective]
    have told := handoffs_of_news (rfl : t.handoffs = s.handoffs ++ effectiveNews k (s.effective k) (effectiveOf table))
    exact ⟨told.1, told.2, rfl⟩

/-! Expiry and WITHDRAW. -/

section
variable {s : State} {l : Link} {k : Train}

theorem exec_demandExpiry (live : s.live) : exec (.demandExpiry k l) s =
    .next (if (s.demand k).any (fun e => e.link = l && e.age = 0) then s.expireDemand k l else s) :=
  takeEvent_live (f := fun s => if (s.demand k).any (fun e => e.link = l && e.age = 0) then s.expireDemand k l else s) live

theorem expires_iff : (s.demand k).any (fun e => e.link = l && e.age = 0) = true ↔ ∃ e ∈ s.demand k, e.link = l ∧ e.age = 0 := by
  simp

/-- A WITHDRAW that passes its checks (R82). -/
theorem requestWithdraw_accepted (set : s.inSet l k = true) : requestWithdraw l [byte k.val] s =
    if (s.demand k).any (·.link = l) then (s.changeTable k (withoutLink l (s.demand k)), .ok []) else (s, .ok []) := by
  unfold requestWithdraw
  dsimp only
  rw [indexByte?_byte (by decide)]
  dsimp only
  rw [set, if_neg (by decide)]

/-- What the removal of a link's entry leaves of the table and hands on. -/
theorem removed_of_changed {t : State} {table : List DemandEntry} (demands : t.demands = s.demands.set k table)
    (handoffs : t.handoffs = s.handoffs ++ effectiveNews k (s.effective k) (effectiveOf table)) :
    (t.effective k = s.effective k → t.handoffs = s.handoffs) ∧
      (t.effective k ≠ s.effective k → t.handoffs = s.handoffs ++
        (if (t.effective k).fan ≠ (s.effective k).fan ∨ (t.effective k).request ≠ (s.effective k).request then
          [.decision k .demandTable] else []) ++ [.drive k .demand]) := by
  have effective : t.effective k = effectiveOf table := by rw [State.effective, State.demand, demands, Vec.get_set_self]
  rw [effective]
  exact handoffs_of_news handoffs

end

/-- Settles O25: both events put the table without the link's entry in place of the table. -/
theorem demandRemoved : Obligations.DemandRemoved := by
  unfold Obligations.DemandRemoved
  intro l tag k s live removed
  refine ⟨fun running => ?running, fun due => ?due, fun held idle set => ?withdrawn, fun none idle set => ?nothing⟩
  case running =>
    rw [exec_demandExpiry live, if_neg (mt expires_iff.1 fun ⟨e, member, link, age⟩ => running e member link age)]
  case due =>
    rw [exec_demandExpiry live, if_pos (expires_iff.2 due), State.expireDemand, changeTable_eq]
    exact ⟨_, rfl, ⟨rfl, removed_of_changed rfl rfl⟩, rfl⟩
  case withdrawn =>
    have effect := requestWithdraw_accepted (s := s.setPort l (s.port l).hunt) set
    rw [setPort_demand, if_pos (List.any_eq_true.2 (held.imp fun e => And.imp_right decide_eq_true)), changeTable_eq] at effect
    exact ⟨_, answerRequest_of_ports_kept ⟨live, idle⟩ effect rfl, ⟨rfl, removed_of_changed rfl rfl⟩, rfl⟩
  case nothing =>
    have effect := requestWithdraw_accepted (s := s.setPort l (s.port l).hunt) set
    rw [if_neg (by simpa using none)] at effect
    exact answerRequest_of_ports_kept ⟨live, idle⟩ effect rfl

end Sys2Proof.Machine
end

section
/-! Outputs: the tick and the dwell (R97, R173), the PWM lines (R146), the wheel sources (R136 to R140) and the ramp (R143). -/

namespace Sys2Proof.Machine

/-! The tick and the dwell. -/

section
variable (s : State)

theorem tick_channel (c : Channel) : s.tickTimers.channel c = (s.channel c).tick := Vec.get_map _ _ _
theorem tick_bank (k : Train) : s.tickTimers.bank k = (s.bank k).tick := Vec.get_map _ _ _
theorem tick_demand (k : Train) : s.tickTimers.demand k = (s.demand k).map DemandEntry.tick := Vec.get_map _ _ _
theorem tick_train (k : Train) : s.tickTimers.train k = (s.train k).tick := Vec.get_map _ _ _
theorem tick_drive (k : Train) : s.tickTimers.drive k = (s.drive k).tick := Vec.get_map _ _ _
theorem tick_line (n : Line) : s.tickTimers.line n = (s.line n).tick := Vec.get_map _ _ _

end

theorem TrainState.tick_changeover (r : Changeover) :
    (TrainState.changeover r).tick = .changeover { r with timer := r.timer.map (· - 1) } := rfl

theorem TrainState.tick_other {st : TrainState} (none : st.changeover? = none) : st.tick = st := by
  cases st with
  | changeover r => cases none
  | _ => rfl

/-- Settles O29: the dwell is one timer set, and the tick maps each record's timer. -/
theorem tickAndDwellExpiry : Obligations.TickAndDwellExpiry := by
  unfold Obligations.TickAndDwellExpiry
  intro k s live
  have dwell : exec (.dwellExpiry k) s = .next (if timeIsUp (s.train k).dwell then s.setDwell k none else s) :=
    takeEvent_live (f := fun s => if timeIsUp (s.train k).dwell then s.setDwell k none else s) live
  refine ⟨fun due => ?_, fun running => ?_, _, exec_uptimeTick_of_live live, tick_channel s, fun j => ?_, tick_line s, rfl⟩
  · rw [dwell, if_pos (timeIsUp_iff.2 due)]
    rfl
  · rw [dwell, if_neg (mt timeIsUp_iff.1 running)]
  · have train : ({ s.tickTimers with uptime := s.uptime + 1 } : State).train j = (s.train j).tick := tick_train s j
    rw [train]
    refine ⟨tick_bank s j, tick_demand s j, rfl, rfl, fun r state => ?_, fun none => ?_, rfl, tick_drive s j⟩
    · rw [TrainRec.tick, state, TrainState.tick_changeover]
    · rw [TrainRec.tick, TrainState.tick_other none]

/-! The PWM lines. -/

/-- Settles O41: an output index is three times its train and the place of the output. -/
theorem pwmTakesEffectiveValues : Obligations.PwmTakesEffectiveValues := by
  unfold Obligations.PwmTakesEffectiveValues
  intro s live
  refine ⟨s.beginPeriod, takeEvent_live live, rfl, fun k o => ?_⟩
  intro v train
  have output : (s.output o).effective = v := by
    have index : (⟨o.val / 3, by omega⟩ : Train) = k := Fin.ext train
    rw [State.output, index]
    have remainder : o.val % 3 < 3 := Nat.mod_lt _ (by decide)
    match place : o.val % 3, remainder with
    | 0, _ => simp [v, place]
    | 1, _ => simp [v, place]
    | 2, _ => simp [v, place]
  have count : s.beginPeriod.pwm.get o = highCounts (s.active.polarity.get o) v := by
    rw [State.beginPeriod, Vec.get_ofFn, output]
  refine ⟨fun normal => ?_, fun inverted => ?_⟩
  · rw [count, normal]
    rfl
  · rw [count, inverted]
    rfl

/-! The wheel sources. -/

section
variable {s : State} {k : Train} {band : Option BandLevel}

theorem sourceValue_computed (source : (s.params k).wheelSource = .computed) :
    s.sourceValue k band = computedSpeed (s.params k) (s.effective k).d := by
  rw [State.sourceValue, source]

theorem sourceValue_band (source : (s.params k).wheelSource = .band) :
    s.sourceValue k band = if band = some .high then (s.params k).wsMax else (s.params k).wsMin := by
  rw [State.sourceValue, source]

theorem sourceValue_fixed (source : (s.params k).wheelSource = .fixed) :
    s.sourceValue k band = (s.effective k).fixedSpeed.getD (s.params k).wsMin := by
  rw [State.sourceValue, source]

theorem sourceValue_follow (source : (s.params k).wheelSource = .follow) :
    s.sourceValue k band = (s.drive (s.params k).leader).wheel.command := by
  rw [State.sourceValue, source]

end

theorem roundDiv_mul_self {den q : Int} (positive : 0 < den) : roundDiv (q * den) den = q :=
  le_antisymm (roundDiv_le positive le_rfl) (le_roundDiv positive le_rfl)

section
variable {p : TrainParams} {d : Int}

/-- The rise of the COMPUTED speed over WS_min lies between nothing and the whole span (R136). -/
theorem computedSpeed_rise (order : p.wsMin ≤ p.wsMax) (size : |d| ≤ 100) :
    0 ≤ roundDiv (((p.wsMax : Int) - p.wsMin) * |d|) 100 ∧ roundDiv (((p.wsMax : Int) - p.wsMin) * |d|) 100 ≤ p.wsMax - p.wsMin := by
  have span : (0 : Int) ≤ p.wsMax - p.wsMin := by omega
  refine ⟨le_roundDiv (by decide) ?_, roundDiv_le (by decide) (mul_le_mul_of_nonneg_left size span)⟩
  rw [zero_mul]
  exact mul_nonneg span (abs_nonneg d)

theorem computedSpeed_cast (order : p.wsMin ≤ p.wsMax) (size : |d| ≤ 100) :
    (computedSpeed p d : Int) = p.wsMin + roundDiv (((p.wsMax : Int) - p.wsMin) * |d|) 100 := by
  have := (computedSpeed_rise order size).1
  rw [computedSpeed]
  omega

theorem computedSpeed_zero : computedSpeed p 0 = p.wsMin := by
  simp [computedSpeed, roundDiv]

theorem computedSpeed_full (order : p.wsMin ≤ p.wsMax) (full : |d| = 100) : computedSpeed p d = p.wsMax := by
  rw [computedSpeed, full, roundDiv_mul_self (by decide)]
  omega

theorem computedSpeed_abs {d' : Int} (same : |d'| = |d|) : computedSpeed p d' = computedSpeed p d := by
  rw [computedSpeed, computedSpeed, same]

end

/-! The frost cap (R140). -/

section
variable {p : TrainParams} {x : Int}

theorem frostCapOf_none : frostCapOf p none = p.wsFloor := rfl

theorem frostCapOf_warm (warm : p.tFrost ≤ x) : frostCapOf p (some x) = 1000 := if_pos warm

theorem frostCapOf_cold (below : x < p.tFrost) (cold : x ≤ p.tFrost - p.frostSpan) : frostCapOf p (some x) = p.wsFloor :=
  (if_neg (not_le.2 below)).trans (if_pos cold)

/-- The line of the frost cap between the floor and 1000. -/
theorem frostCapOf_between (floor : p.wsFloor ≤ 1000) (above : p.tFrost - p.frostSpan < x) (below : x < p.tFrost) :
    (frostCapOf p (some x) : Int) = p.wsFloor + roundDiv ((1000 - (p.wsFloor : Int)) * (x - (p.tFrost - p.frostSpan))) p.frostSpan ∧
      p.wsFloor ≤ frostCapOf p (some x) ∧ frostCapOf p (some x) ≤ 1000 := by
  have span : (0 : Int) < p.frostSpan := by omega
  have low := le_roundDiv span (a := 0) (num := (1000 - (p.wsFloor : Int)) * (x - (p.tFrost - p.frostSpan)))
    (by rw [zero_mul]; exact mul_nonneg (by omega) (by omega))
  have high := roundDiv_le span (mul_le_mul_of_nonneg_left (show x - (p.tFrost - p.frostSpan) ≤ p.frostSpan by omega)
    (show (0 : Int) ≤ 1000 - p.wsFloor by omega))
  have line : frostCapOf p (some x) =
      (p.wsFloor + roundDiv ((1000 - (p.wsFloor : Int)) * (x - (p.tFrost - p.frostSpan))) p.frostSpan).toNat :=
    (if_neg (not_le.2 below)).trans (if_neg (not_le.2 above))
  rw [line]
  omega

theorem frostCapOf_mem_range (floor : p.wsFloor ≤ 1000) (t : Option Int) : p.wsFloor ≤ frostCapOf p t ∧ frostCapOf p t ≤ 1000 := by
  cases t with
  | none => exact ⟨le_rfl, floor⟩
  | some x =>
    rcases le_or_gt p.tFrost x with warm | below
    · rw [frostCapOf_warm warm]
      exact ⟨floor, le_rfl⟩
    · rcases le_or_gt x (p.tFrost - p.frostSpan) with cold | above
      · rw [frostCapOf_cold below cold]
        exact ⟨le_rfl, floor⟩
      · exact (frostCapOf_between floor above below).2

end

/-- Settles O38: each source by its own equation, and the frost cap by the three parts of its line. -/
theorem computedWheelSpeed : Obligations.ComputedWheelSpeed := by
  unfold Obligations.ComputedWheelSpeed
  intro k band s p value
  refine ⟨fun source order low high => ?computed, sourceValue_band, fun source => ⟨fun v speed => ?speed, fun none => ?noSpeed⟩,
    sourceValue_follow, frostCapOf_none, fun x => frostCapOf_warm, fun x => frostCapOf_cold,
    fun floor x above below => (frostCapOf_between floor above below).1, frostCapOf_mem_range⟩
  case computed =>
    intro D
    have size : |D| ≤ 100 := abs_le.2 ⟨low, high⟩
    have computed : value = computedSpeed p D := sourceValue_computed source
    have cast := computedSpeed_cast order size
    obtain ⟨riseLow, riseHigh⟩ := computedSpeed_rise order size
    rw [computed]
    refine ⟨cast, by omega, by omega, fun zero => ?_, computedSpeed_full order, fun u b items same => ?_, fun min max demand => ?_⟩
    · rw [zero, computedSpeed_zero]
    · rw [sourceValue_computed (by rw [items]; exact source), items, computedSpeed_abs same]
    · rw [computedSpeed, min, max, demand]
      decide
  case speed => exact (sourceValue_fixed source).trans (by rw [speed]; rfl)
  case noSpeed => exact (sourceValue_fixed source).trans (by rw [none]; rfl)

/-! The ramp (R143, R144). -/

section
variable {r : Nat} {w : OutputRec}

theorem rampStep_within (within : |(w.command : Int) - w.effective| ≤ r) : rampStep r w = w.command := by
  rw [abs_le] at within
  unfold rampStep
  split <;> omega

theorem rampStep_up (far : (r : Int) < |(w.command : Int) - w.effective|) (below : w.effective < w.command) :
    (rampStep r w : Int) = w.effective + r := by
  rw [abs_of_pos (by omega)] at far
  unfold rampStep
  split <;> omega

theorem rampStep_down (far : (r : Int) < |(w.command : Int) - w.effective|) (above : w.command < w.effective) :
    (rampStep r w : Int) = w.effective - r := by
  rw [abs_of_neg (by omega)] at far
  unfold rampStep
  split <;> omega

end

/-- Whether a ramp step brings the wheel of a train to rest. -/
def State.stopsWheel (s : State) (k : Train) : Bool :=
  (s.drive k).wheel.effective ≠ 0 ∧ rampStep s.active.ramp (s.drive k).wheel = 0

theorem ramp_eq (s : State) (k : Train) : s.ramp k = { s with
    drives := s.drives.set k { s.drive k with
      wheel := ⟨(s.drive k).wheel.command, rampStep s.active.ramp (s.drive k).wheel⟩
      ramp := if rampStep s.active.ramp (s.drive k).wheel = (s.drive k).wheel.command then none else some 1
      lockoutHold := s.stopsWheel k || (s.drive k).lockoutHold }
    handoffs := s.handoffs ++ if s.stopsWheel k then [.wheelZero k] else [] } := by
  unfold State.ramp State.wheelZero
  dsimp only
  rw [setDrive_drive_self]
  by_cases stops : (s.drive k).wheel.effective ≠ 0 ∧ rampStep s.active.ramp (s.drive k).wheel = 0
  · have stopsWheel : s.stopsWheel k = true := decide_eq_true stops
    rw [if_pos stops, stopsWheel, State.setDrive, State.setDrive, Vec.set_set]
    rfl
  · have stopsWheel : s.stopsWheel k = false := decide_eq_false stops
    rw [if_neg stops, stopsWheel, if_neg Bool.false_ne_true, List.append_nil, Bool.false_or]
    rfl

/-- Settles O39: the step as `ramp_eq` gives it, with the three ways a wheel moves. -/
theorem rampStepMovesWheel : Obligations.RampStepMovesWheel := by
  unfold Obligations.RampStepMovesWheel
  intro k s live
  have step : exec (.rampStep k) s = .next (if timeIsUp (s.drive k).ramp then s.ramp k else s) :=
    takeEvent_live (f := fun s => if timeIsUp (s.drive k).ramp then s.ramp k else s) live
  refine ⟨fun running => ?_, fun due => ⟨s.ramp k, ?_, ?_⟩⟩
  · rw [step, if_neg (mt timeIsUp_iff.1 running)]
  · rw [step, if_pos (timeIsUp_iff.2 due)]
  · have drive : (s.ramp k).drive k = { s.drive k with
        wheel := ⟨(s.drive k).wheel.command, rampStep s.active.ramp (s.drive k).wheel⟩
        ramp := if rampStep s.active.ramp (s.drive k).wheel = (s.drive k).wheel.command then none else some 1
        lockoutHold := s.stopsWheel k || (s.drive k).lockoutHold } := by
      rw [ramp_eq]
      exact Vec.get_set_self _ _ _
    have handoffs : (s.ramp k).handoffs = s.handoffs ++ if s.stopsWheel k then [.wheelZero k] else [] := by rw [ramp_eq]
    rw [drive, handoffs]
    dsimp only
    refine ⟨fun within => by rw [rampStep_within within], fun far below => rampStep_up far (by omega),
      fun far above => rampStep_down far (by omega), ?_, fun turning stopped => ?_, fun kept => ?_, ramp_eq s k⟩
    · simp only [Nat.cast_inj]
    · have stops : s.stopsWheel k = true := decide_eq_true ⟨by omega, by omega⟩
      rw [stops]
      exact ⟨rfl, rfl⟩
    · have stops : s.stopsWheel k = false := decide_eq_false (by omega)
      rw [stops, if_neg Bool.false_ne_true, List.append_nil]
      exact ⟨rfl, rfl⟩

end Sys2Proof.Machine
end

section
/-! The line events (R152 to R155): what a decision of the effective postures finds and hands on. -/

namespace Sys2Proof.Machine

section
variable {s t u : State} {k : Train}

/-! What a decision finds (R154). -/

theorem governs_iff {n : Line} : s.governs k n = true ↔ (s.line n).asserted = true ∧ inTrains (s.active.lines.get n).trains k = true :=
  Bool.and_eq_true_iff

theorem allLines_sorted : allLines.Pairwise (· < ·) := by decide

/-- The line of a decided posture governs the train, and no line before it does. -/
theorem decidedPosture_some {e : EffectivePosture} (decided : s.decidedPosture k = some e) :
    s.governs k e.line = true ∧ e.code = (s.active.lines.get e.line).code ∧
      ∀ m, m < e.line → s.governs k m = false := by
  obtain ⟨n, found, rfl⟩ := Option.map_eq_some_iff.1 decided
  refine ⟨List.find?_some found, rfl, fun m before => Bool.eq_false_iff.2 fun governs => ?_⟩
  rcases first_of_pairwise allLines_sorted found (mem_allLines m) governs with rfl | after
  · exact lt_irrefl _ before
  · exact lt_asymm before after

theorem decidedPosture_none (decided : s.decidedPosture k = none) (m : Line) : s.governs k m = false :=
  Bool.eq_false_iff.2 (List.find?_eq_none.1 (Option.map_eq_none_iff.1 decided) m (mem_allLines m))

theorem unmapped_of_not_governs {m : Line} (none : s.governs k m = false) (asserted : (s.line m).asserted = true) :
    inTrains (s.active.lines.get m).trains k = false := by
  rw [State.governs, asserted, Bool.true_and] at none
  exact none

/-! What a decision hands on. -/

theorem postureNews_begins {old : Params} {e : EffectivePosture} (before : s.posture k = none) (after : s.decidedPosture k = some e) :
    s.postureNews old k = [.postureBegins k, .posture k (some (s.active.postureValues e.code))] := by
  rw [State.postureNews, before, after]

theorem postureNews_ends {old : Params} (before : s.posture k ≠ none) (after : s.decidedPosture k = none) :
    s.postureNews old k = [.postureEnds k, .posture k none] := by
  obtain ⟨e, posture⟩ := Option.ne_none_iff_exists'.1 before
  rw [State.postureNews, posture, after]

theorem postureNews_of_same {old : Params} (posture : t.posture k = s.posture k) (decided : t.decidedPosture k = s.decidedPosture k)
    (active : t.active = s.active) : t.postureNews old k = s.postureNews old k := by
  rw [State.postureNews, State.postureNews, posture, decided, active]

/-- The decisions hand on the news of each train in turn. -/
theorem decidePostures_handoffs (old : Params) (s : State) :
    (s.decidePostures old).handoffs = s.handoffs ++ allTrains.flatMap (s.postureNews old) := by
  have each : ∀ ks : List Train, ks.Nodup → ∀ u : State,
      (forEach ks (State.decideTrainPosture old) u).handoffs = u.handoffs ++ ks.flatMap (u.postureNews old) := by
    intro ks once
    induction ks with
    | nil => exact fun u => (List.append_nil _).symm
    | cons k ks ih =>
      intro u
      obtain ⟨fresh, once⟩ := List.nodup_cons.1 once
      have same := decideTrainPosture_same old k u
      have others : ks.flatMap ((State.decideTrainPosture old k u).postureNews old) = ks.flatMap (u.postureNews old) := by
        refine List.flatMap_congr fun j member => postureNews_of_same ?_ ?_ same.active
        · rw [decideTrainPosture_posture, if_neg (ne_of_mem_of_not_mem member fresh).symm]
        · exact decidedPosture_of_same (fun n => by rw [same.line]) same.active j
      rw [forEach_cons, ih once, others, decideTrainPosture_eq, List.flatMap_cons, List.append_assoc]
  exact each allTrains allTrains_nodup s

end

/-- Settles O42: every line event leaves the postures as a decision on its lines finds them. -/
theorem lineEventsDecidePostures : Obligations.LineEventsDecidePostures := by
  unfold Obligations.LineEventsDecidePostures
  intro n s live sounds decided settled
  have settles : ∀ t : State, (∀ m, m ≠ n → t.line m = s.line m) → (∀ k, t.posture k = t.decidedPosture k) →
      t = { s with lines := t.lines, postures := t.postures, handoffs := t.handoffs } →
      (∀ k, (t.posture k = none → s.posture k ≠ none → .postureEnds k ∈ t.handoffs ∧ .posture k none ∈ t.handoffs) ∧
        (∀ e, t.posture k = some e → s.posture k = none →
          .postureBegins k ∈ t.handoffs ∧ .posture k (some (s.active.postureValues e.code)) ∈ t.handoffs)) → settled t := by
    intro t lines found frame told
    have active : t.active = s.active := (congrArg State.active frame :)
    refine ⟨lines, fun k => ⟨fun e posture => ?_, fun none m asserted => ?_, (told k).1, (told k).2⟩, frame⟩
    · obtain ⟨governs, code, first⟩ := decidedPosture_some ((found k).symm.trans posture)
      obtain ⟨asserted, mapped⟩ := governs_iff.1 governs
      rw [← active]
      exact ⟨asserted, mapped, code, fun m before asserted => unmapped_of_not_governs (first m before) asserted⟩
    · rw [← active]
      exact unmapped_of_not_governs (decidedPosture_none ((found k).symm.trans none) m) asserted
  have decides : ∀ r, settled ((s.setLine n r).decidePostures s.active) := by
    intro r
    have same := decidePostures_same (s.setLine n r) s.active
    have posture := decidePostures_posture s.active (s.setLine n r)
    have line : ∀ m, ((s.setLine n r).decidePostures s.active).line m = (s.setLine n r).line m := same.line
    refine settles _ (fun m other => ?_) (fun k => ?_) ?_ fun k => ?_
    · rw [line, setLine_line, if_neg (Ne.symm other)]
    · rw [posture, decidedPosture_of_same (fun m => by rw [line]) same.active]
    · rw [same.lines]
      exact same
    · have member : ∀ x ∈ (s.setLine n r).postureNews s.active k, x ∈ ((s.setLine n r).decidePostures s.active).handoffs := by
        intro x news
        rw [decidePostures_handoffs]
        exact List.mem_append_right _ (List.mem_flatMap.2 ⟨k, mem_allTrains k, news⟩)
      rw [posture]
      refine ⟨fun after before => ?_, fun e after before => ?_⟩
      · rw [postureNews_ends (s := s.setLine n r) before after] at member
        exact ⟨member _ (by simp), member _ (by simp)⟩
      · rw [postureNews_begins (s := s.setLine n r) before after] at member
        exact ⟨member _ (by simp), member _ (by simp)⟩
  have keeps : ∀ r : LineRec, r.asserted = (s.line n).asserted → settled (s.setLine n r) := by
    intro r assertion
    refine settles _ (fun m other => ?_) (fun k => ?_) rfl fun k => ?_
    · rw [setLine_line, if_neg (Ne.symm other)]
    · refine (decided k).trans (decidedPosture_of_same (s := s) (t := s.setLine n r) (fun m => ?_) rfl k).symm
      rw [setLine_line]
      split
      · next same => rw [assertion, same]
      · rfl
    · exact ⟨fun after before => absurd after before, fun e after before => absurd (before.symm.trans after) (Option.some_ne_none e).symm⟩
  have decides_line : ∀ r, ((s.setLine n r).decidePostures s.active).line n = r := fun r => by
    rw [(decidePostures_same (s.setLine n r) s.active).line, setLine_line_self]
  refine ⟨fun high => ?low, fun low => ?high, fun running => ?running, fun due => ?expired⟩
  case low =>
    have event : exec (.lineSensedLow n) s = .next (if (s.line n).level = .low then s else s.senseLow n) :=
      takeEvent_live (f := fun s => if (s.line n).level = .low then s else s.senseLow n) live
    rw [high, if_neg (by decide), State.senseLow] at event
    split at event
    · next asserted => exact ⟨_, event, setLine_line_self _ _ _, keeps _ asserted.symm⟩
    · exact ⟨_, event, decides_line _, decides _⟩
  case high =>
    have event : exec (.lineSensedHigh n) s = .next (if (s.line n).level = .high then s else s.senseHigh n) :=
      takeEvent_live (f := fun s => if (s.line n).level = .high then s else s.senseHigh n) live
    have asserted : (s.line n).asserted = true := (sounds n).1.2 (.inl low)
    rw [low, if_neg (by decide), State.senseHigh] at event
    rw [asserted, if_neg (by decide)] at event
    by_cases zero : (s.active.lines.get n).delay = 0
    · rw [startTimer, if_pos zero] at event
      exact ⟨_, event, decides _, fun positive => absurd zero (Nat.pos_iff_ne_zero.1 positive), fun _ => decides_line _⟩
    · rw [startTimer, if_neg zero] at event
      exact ⟨_, event, keeps _ asserted.symm, fun _ => setLine_line_self _ _ _, fun none => absurd none zero⟩
  case running =>
    have event : exec (.releaseDelayExpiry n) s = .next (if timeIsUp (s.line n).delay then s.endAssertion n else s) :=
      takeEvent_live (f := fun s => if timeIsUp (s.line n).delay then s.endAssertion n else s) live
    rw [event, if_neg (mt timeIsUp_iff.1 running)]
  case expired =>
    have event : exec (.releaseDelayExpiry n) s = .next (if timeIsUp (s.line n).delay then s.endAssertion n else s) :=
      takeEvent_live (f := fun s => if timeIsUp (s.line n).delay then s.endAssertion n else s) live
    have level : (s.line n).level = .high := (sounds n).2 (by rw [due]; rfl)
    rw [if_pos (timeIsUp_iff.2 due), State.endAssertion] at event
    exact ⟨_, event, (decides_line _).trans (congrArg (LineRec.mk · false none) level), decides _⟩

end Sys2Proof.Machine
end

section
/-! The three commands of a recomputation, line by line (R133 to R141), and the occasions that make one. -/

namespace Sys2Proof.Machine

/-! The commands by the line that applies. -/

section
variable {s : State} {k : Train} {hold : Bool} {band : Option BandLevel} {v : OutputValues}

theorem wheelCommand_of_posture (posture : (s.drive k).posture = some v) : s.wheelCommand k hold band = (v.ws, none) := by
  rw [State.wheelCommand, posture]

theorem wheelCommand_of_hold (free : (s.drive k).posture = none) : s.wheelCommand k true band = (0, none) := by
  rw [State.wheelCommand, free]
  exact if_pos rfl

theorem wheelCommand_of_basis (free : (s.drive k).posture = none) : s.wheelCommand k false band =
    match (s.drive k).bases.wheel with
    | .zero => (0, none)
    | .posture => ((s.drive k).wheel.command, none)
    | .hold => ((s.holdValues k).ws, none)
    | .recover =>
      match s.frostCap k with
      | some cap => (min (s.sourceValue k band) cap, some cap)
      | none => (s.sourceValue k band, none) := by
  rw [State.wheelCommand, free]
  exact if_neg Bool.false_ne_true

theorem wheelCommand_of_zero (free : (s.drive k).posture = none) (basis : (s.drive k).bases.wheel = .zero) :
    s.wheelCommand k hold band = (0, none) := by
  cases hold with
  | true => exact wheelCommand_of_hold free
  | false => rw [wheelCommand_of_basis free, basis]

theorem frostCap_of_recoverHeat (state : (s.train k).state = .steady .recoverHeat) :
    s.frostCap k = some (frostCapOf (s.params k) ((s.bank k).decision.bind (·.tEXL))) := by
  rw [State.frostCap, state]

theorem frostCap_of_other (state : (s.train k).state ≠ .steady .recoverHeat) : s.frostCap k = none := by
  unfold State.frostCap
  split
  · exact absurd ‹_› state
  · rfl

/-- The frost cap is applied on the last line alone (R140). -/
theorem wheelCommand_uncapped (other : (s.drive k).posture ≠ none ∨ hold = true ∨ (s.drive k).bases.wheel ≠ .recover) :
    (s.wheelCommand k hold band).2 = none := by
  cases posture : (s.drive k).posture with
  | some v => rw [wheelCommand_of_posture posture]
  | none =>
    cases hold with
    | true => rw [wheelCommand_of_hold posture]
    | false =>
      rw [wheelCommand_of_basis posture]
      cases basis : (s.drive k).bases.wheel with
      | recover => simp [posture, basis] at other
      | zero | posture | hold => rfl

theorem bypassCommand_of_posture (posture : (s.drive k).posture = some v) : s.bypassCommand k = v.bp := by
  rw [State.bypassCommand, posture]

theorem bypassCommand_of_basis (free : (s.drive k).posture = none) : s.bypassCommand k =
    match (s.drive k).bases.bypass with
    | .closed => 0
    | .opened => 1000
    | .hold => (s.holdValues k).bp
    | .posture => (s.drive k).bypass.command := by
  rw [State.bypassCommand, free] <;> rfl

theorem oaCommand_of_posture (posture : (s.drive k).posture = some v) : s.oaCommand k = v.oa := by
  rw [State.oaCommand, posture]

theorem oaCommand_of_basis (free : (s.drive k).posture = none) : s.oaCommand k =
    match (s.drive k).bases.oa with
    | .zero => 0
    | .min | .econ => (s.drive k).grant.getD (s.drive k).oa.command
    | .hold => (s.holdValues k).oa
    | .posture => (s.drive k).oa.command := by
  rw [State.oaCommand, free] <;> rfl

theorem holdValues_of_hold? (held : (s.train k).state.hold? = some v) : s.holdValues k = v := by
  unfold State.holdValues
  cases state : (s.train k).state with
  | held h => rw [state] at held; exact Option.some.inj held
  | steady | changeover | safe => rw [state] at held; cases held

/-! The band level (R137). -/

theorem bandAfter_of_other (other : (s.params k).wheelSource ≠ .band ∨ (s.drive k).bases.wheel ≠ .recover) :
    s.bandAfter k = (s.drive k).band := if_neg fun h => other.elim (· h.1) (· h.2)

theorem bandAfter_of_band (source : (s.params k).wheelSource = .band) (basis : (s.drive k).bases.wheel = .recover) :
    (s.usableValue (s.params k).bandChannel = none → s.bandAfter k = (s.drive k).band) ∧
    ∀ x, s.usableValue (s.params k).bandChannel = some x → s.bandAfter k =
      if s.active.pool.get (s.params k).bandHigh < x.1 then some .high
      else if x.1 < s.active.pool.get (s.params k).bandLow then some .low else (s.drive k).band := by
  have judged : s.bandAfter k = judgeBand (s.active.pool.get (s.params k).bandLow) (s.active.pool.get (s.params k).bandHigh)
      ((s.usableValue (s.params k).bandChannel).map Prod.fst) (s.drive k).band := if_pos ⟨source, basis⟩
  rw [judged]
  refine ⟨fun absent => ?_, fun x usable => ?_⟩
  · rw [absent]
    rfl
  · rw [usable]
    rfl

theorem rampAfter_eq (ramp : Timer) (w : OutputRec) :
    rampAfter ramp w = if w.effective = w.command then none else some (ramp.getD 1) := by
  cases ramp <;> rfl

/-- A FOLLOW source reads the leader's wheel command, every other source nothing of the Drive Stage. -/
theorem sourceValue_of_same {t : State} (params : t.params k = s.params k) (effective : t.effective k = s.effective k)
    (commands : ∀ j, (t.drive j).wheel.command = (s.drive j).wheel.command) : t.sourceValue k band = s.sourceValue k band := by
  cases source : (s.params k).wheelSource with
  | computed => rw [sourceValue_computed source, sourceValue_computed (by rw [params]; exact source), params, effective]
  | band => rw [sourceValue_band source, sourceValue_band (by rw [params]; exact source), params]
  | fixed => rw [sourceValue_fixed source, sourceValue_fixed (by rw [params]; exact source), params, effective]
  | follow => rw [sourceValue_follow source, sourceValue_follow (by rw [params]; exact source), params, commands]

end

/-! Occasions. -/

/-- A drive record as an occasion leaves it stored, before the recomputation. -/
def State.stored (s : State) (k : Train) : Occasion → DriveRec
  | .bases b => { s.drive k with bases := b, grant := grantAfter b.oa (s.drive k).grant }
  | .grant g => { s.drive k with grant := some g }
  | .demand => { s.drive k with lastRequest := economizerRequest (s.params k).oaMin (s.effective k).d }
  | .record | .lockoutStart | .lockoutExpiry _ | .holdValues | .leader => s.drive k

/-- What an economizer request formed at an occasion hands to the Shaft Allocator (R142). -/
def State.requestNews (s : State) (k : Train) (o : Occasion) : List Handoff :=
  if (s.stored k o).lastRequest = (s.drive k).lastRequest then [] else [.shaft k (.request (s.stored k o).lastRequest)]

theorem store_eq (s : State) (k : Train) (o : Occasion) : s.store k o = { s with
    drives := s.drives.set k (s.stored k o), handoffs := s.handoffs ++ s.requestNews k o } := by
  have kept : ∀ d : DriveRec, d = s.drive k → s = { s with drives := s.drives.set k d, handoffs := s.handoffs ++ [] } := by
    rintro d rfl
    rw [List.append_nil, State.drive, Vec.set_get]
  unfold State.requestNews
  cases o with
  | bases b | grant g =>
    rw [State.stored, if_pos rfl, List.append_nil]
    rfl
  | demand =>
    rw [State.store, formRequest_eq, State.stored]
    dsimp only
    split
    · next same =>
      refine kept _ ?_
      rw [same]
    · rfl
  | record | lockoutStart | lockoutExpiry | holdValues | leader =>
    rw [State.stored, if_pos rfl]
    exact kept _ rfl

/-- The state an occasion leaves stored, before the recomputation, once its hand-off is taken. -/
def State.taken (s : State) (k : Train) (o : Occasion) : State := { s with
  drives := s.drives.set k (s.stored k o)
  handoffs := s.handoffs.eraseP (Handoff.isDrive k o.source) ++ s.requestNews k o }

section
variable (s : State) (k : Train) (o : Occasion)

theorem taken_drive_self : (s.taken k o).drive k = s.stored k o := Vec.get_set_self _ _ _

theorem taken_drive_ne {j : Train} (other : j ≠ k) : (s.taken k o).drive j = s.drive j := Vec.get_set_ne _ (Ne.symm other) _

theorem stored_kept : (s.stored k o).posture = (s.drive k).posture ∧ (s.stored k o).wheel = (s.drive k).wheel ∧
    (s.stored k o).bypass = (s.drive k).bypass ∧ (s.stored k o).oa = (s.drive k).oa ∧ (s.stored k o).ramp = (s.drive k).ramp ∧
    (s.stored k o).band = (s.drive k).band ∧ (s.stored k o).lockoutHold = (s.drive k).lockoutHold := by
  cases o <;> exact ⟨rfl, rfl, rfl, rfl, rfl, rfl, rfl⟩

theorem grantAfter_eq (b : OaBasis) (g : Option Nat) : grantAfter b g = if b = .min ∨ b = .econ then g else none := by
  cases b <;> rfl

/-- An economizer request that waits for the allocator answers no wheel-zero event. -/
theorem taken_keepsHold : (s.taken k o).keepsHold k =
    (decide ((s.train k).lockout ≠ none) || (s.handoffs.eraseP (Handoff.isDrive k o.source)).any (Handoff.awaitsAnswer k)) := by
  have news : (s.requestNews k o).any (Handoff.awaitsAnswer k) = false := by
    unfold State.requestNews
    split <;> rfl
  have handed : (s.taken k o).handoffs.any (Handoff.awaitsAnswer k) =
      (s.handoffs.eraseP (Handoff.isDrive k o.source)).any (Handoff.awaitsAnswer k) := by
    rw [State.taken, List.any_append, news, Bool.or_false]
  have train : (s.taken k o).train k = s.train k := rfl
  rw [State.keepsHold, handed, train]
  cases (s.train k).lockout <;> rfl

theorem taken_sourceValue (band : Option BandLevel) : (s.taken k o).sourceValue k band = s.sourceValue k band := by
  refine sourceValue_of_same (s := s) (t := s.taken k o) rfl rfl fun j => ?_
  by_cases same : j = k
  · rw [same, taken_drive_self, (stored_kept s k o).2.1]
  · rw [taken_drive_ne s k o same]

end

theorem exec_commandRecompute {s : State} {k : Train} {o : Occasion} (live : s.live)
    (found : s.handoffs.find? (Handoff.isDrive k o.source) = some (.drive k o)) :
    exec (.commandRecompute k o.source) s = .next ((s.taken k o).recompute k) := by
  show execCommandRecompute k o.source s = _
  rw [execCommandRecompute, takeEvent_live live, takeHandoff_of_find found]
  show Host.Outcome.next (((s.setHandoffs (s.handoffs.eraseP (Handoff.isDrive k o.source))).store k o).recompute k) = _
  rw [store_eq]
  cases o <;> rfl

/-! A recomputed drive record by the rule of the line that applies. -/

section
variable {s : State} {k : Train} {v : OutputValues}

theorem recomputed_of_posture (posture : (s.drive k).posture = some v) : (s.recomputed k).wheel.command = v.ws ∧
    (s.recomputed k).bypass.command = v.bp ∧ (s.recomputed k).oa.command = v.oa :=
  ⟨congrArg Prod.fst (wheelCommand_of_posture posture), bypassCommand_of_posture posture, oaCommand_of_posture posture⟩

theorem recomputed_wheel_of_hold (free : (s.drive k).posture = none) (hold : (s.recomputed k).lockoutHold = true) :
    (s.recomputed k).wheel.command = 0 := by
  have held : ((s.drive k).lockoutHold && s.keepsHold k) = true := hold
  show (s.wheelCommand k ((s.drive k).lockoutHold && s.keepsHold k) _).1 = 0
  rw [held, wheelCommand_of_hold free]

theorem recomputed_wheel_of_basis (free : (s.drive k).posture = none) (noHold : (s.recomputed k).lockoutHold = false) :
    ((s.recomputed k).wheel.command, (s.recomputed k).frostCap) =
    match (s.drive k).bases.wheel with
    | .zero => (0, none)
    | .posture => ((s.drive k).wheel.command, none)
    | .hold => ((s.holdValues k).ws, none)
    | .recover =>
      match s.frostCap k with
      | some cap => (min (s.sourceValue k (s.recomputed k).band) cap, some cap)
      | none => (s.sourceValue k (s.recomputed k).band, none) := by
  have released : ((s.drive k).lockoutHold && s.keepsHold k) = false := noHold
  show s.wheelCommand k ((s.drive k).lockoutHold && s.keepsHold k) (s.bandAfter k) = _
  rw [released, wheelCommand_of_basis free]
  rfl

theorem recomputed_uncapped
    (other : (s.drive k).posture ≠ none ∨ (s.recomputed k).lockoutHold = true ∨ (s.drive k).bases.wheel ≠ .recover) :
    (s.recomputed k).frostCap = none := wheelCommand_uncapped other

end

/-- Settles O37: the state an occasion leaves stored, recomputed by the rule of the line that applies. -/
theorem commandsFollowBases : Obligations.CommandsFollowBases := by
  unfold Obligations.CommandsFollowBases
  intro k o s live found
  refine ⟨_, exec_commandRecompute live found, ?_⟩
  intro d d' p rest stored bases values
  have drive : d' = (s.taken k o).recomputed k := recompute_drive_self _ k
  have self : (s.taken k o).drive k = s.stored k o := taken_drive_self s k o
  obtain ⟨posture, wheel, bypass, oa, ramp, band, lockoutHold⟩ := stored_kept s k o
  rw [← self] at posture wheel bypass oa ramp band lockoutHold
  have storedIs : stored = (((s.taken k o).drive k).bases, ((s.taken k o).drive k).grant) := by
    rw [self]
    cases o with
    | bases b => exact congrArg (Prod.mk b) (grantAfter_eq _ _).symm
    | record | demand | lockoutStart | lockoutExpiry | holdValues | grant | leader => rfl
  have basesIs : bases = ((s.taken k o).drive k).bases := congrArg Prod.fst storedIs
  have grantIs : stored.2 = ((s.taken k o).drive k).grant := congrArg Prod.snd storedIs
  have sources : ∀ level, (s.taken k o).sourceValue k level = s.sourceValue k level := taken_sourceValue s k o
  rw [basesIs, grantIs]
  clear_value d' bases stored
  subst drive
  have hold : ∀ v, values = some v → (s.taken k o).holdValues k = v := fun v held => holdValues_of_hold? held
  refine ⟨rfl, rfl, posture, fun other => ?_, ?_, fun other => ?_, fun source basis => ?_, fun v held => ?_, fun free held => ?_,
    fun free noHold => ?_, fun other => ?_, fun free => ?_, (congrArg OutputRec.effective wheel :), rfl, rfl, ?_,
    fun j other => ?_, ?_⟩
  · show ((s.taken k o).drive k).lastRequest = _
    rw [self]
    cases o with
    | demand => exact absurd rfl other
    | record | bases | lockoutStart | lockoutExpiry | holdValues | grant | leader => rfl
  · rw [← taken_keepsHold, ← lockoutHold]
    rfl
  · exact (bandAfter_of_other (s := s.taken k o) other).trans band
  · obtain ⟨absent, judged⟩ := bandAfter_of_band (s := s.taken k o) source basis
    rw [band] at absent judged
    exact ⟨absent, judged⟩
  · exact recomputed_of_posture (posture.trans held)
  · exact recomputed_wheel_of_hold (posture.trans free) held
  · have command := recomputed_wheel_of_basis (posture.trans free) noHold
    refine ⟨fun basis => ?_, fun basis => ?_, fun v basis held => ?_, fun basis => ⟨fun state => ?_, fun state => ?_⟩⟩
    · rw [basis] at command
      exact congrArg Prod.fst command
    · rw [basis] at command
      exact (congrArg Prod.fst command).trans (congrArg OutputRec.command wheel)
    · rw [basis] at command
      exact (congrArg Prod.fst command).trans (congrArg OutputValues.ws (hold v held))
    · rw [basis] at command
      dsimp only at command
      rw [frostCap_of_other (s := s.taken k o) state, sources] at command
      exact ⟨congrArg Prod.snd command, congrArg Prod.fst command⟩
    · rw [basis] at command
      dsimp only at command
      rw [frostCap_of_recoverHeat (s := s.taken k o) state, sources] at command
      exact ⟨congrArg Prod.snd command, congrArg Prod.fst command⟩
  · exact recomputed_uncapped (by rw [posture]; exact other)
  · have bypassIs : ((s.taken k o).recomputed k).bypass.command = _ := bypassCommand_of_basis (posture.trans free)
    have oaIs : ((s.taken k o).recomputed k).oa.command = _ := oaCommand_of_basis (posture.trans free)
    rw [bypass] at bypassIs
    rw [oa] at oaIs
    refine ⟨fun basis => ?_, fun basis => ?_, fun basis => ?_, fun v basis held => ?_, fun basis => ?_, fun basis => ?_,
      fun basis => ?_, fun v basis held => ?_⟩
    · rw [bypassIs, basis]
    · rw [bypassIs, basis]
    · rw [bypassIs, basis]
    · rw [bypassIs, basis]
      exact congrArg OutputValues.bp (hold v held)
    · rw [oaIs, basis]
    · rw [oaIs]
      rcases basis with basis | basis <;> rw [basis]
    · rw [oaIs, basis]
    · rw [oaIs, basis]
      exact congrArg OutputValues.oa (hold v held)
  · show rampAfter _ _ = _
    rw [rampAfter_eq, ramp]
    show (if ((s.taken k o).drive k).wheel.effective = _ then _ else _) = _
    rw [wheel]
    rfl
  · rw [recompute_drive_ne (Ne.symm other), taken_drive_ne s k o other]
  · have request : ((s.taken k o).recomputed k).lastRequest = (s.stored k o).lastRequest := by rw [← self]; rfl
    rw [request]
    show _ = { s with
      drives := ((s.taken k o).recompute k).drives, staleReads := ((s.taken k o).recompute k).staleReads
      handoffs := rest ++ s.requestNews k o ++ _ }
    rw [← wheel, recompute_eq]
    rfl

end Sys2Proof.Machine
end

section
/-! Postures at the Drive Stage (R145). -/

namespace Sys2Proof.Machine

/-- Taking a hand-off that answers no wheel-zero event leaves the answers on their way (R135). -/
theorem any_eraseP {α : Type} {p q : α → Bool} (apart : ∀ x, p x = true → q x = false) (xs : List α) :
    (xs.eraseP p).any q = xs.any q := by
  induction xs with
  | nil => rfl
  | cons x xs ih =>
    by_cases taken : p x = true
    · rw [List.eraseP_cons_of_pos taken, List.any_cons, apart x taken, Bool.false_or]
    · rw [List.eraseP_cons_of_neg taken, List.any_cons, List.any_cons, ih]

theorem awaitsAnswer_of_isPosture {k : Train} (x : Handoff) (posture : Handoff.isPosture k x = true) :
    Handoff.awaitsAnswer k x = false := by
  cases x with
  | posture => rfl
  | decision | drive | shaft | postureBegins | postureEnds | wheelZero => cases posture

theorem keepsHold_eq (s : State) (k : Train) :
    s.keepsHold k = (decide ((s.train k).lockout ≠ none) || s.handoffs.any (Handoff.awaitsAnswer k)) := by
  unfold State.keepsHold
  cases (s.train k).lockout <;> rfl

/-- The record of a train whose posture begins, changes or ends, before the recomputation. -/
def State.posed (s : State) (k : Train) (v : Option OutputValues) : State := s.setDrive k { s.drive k with posture := v }

theorem posed_drive_self (s : State) (k : Train) (v : Option OutputValues) :
    (s.posed k v).drive k = { s.drive k with posture := v } := setDrive_drive_self _ _ _

theorem posed_bandAfter (s : State) (k : Train) (v : Option OutputValues) : (s.posed k v).bandAfter k = s.bandAfter k := by
  unfold State.bandAfter
  rw [posed_drive_self]
  rfl

/-- A recomputation under a posture: its three commands, whatever the bases, and no frost cap. -/
theorem posed_recomputed (s : State) (k : Train) (v : OutputValues) : (s.posed k (some v)).recomputed k = { s.drive k with
    wheel := ⟨v.ws, (s.drive k).wheel.effective⟩, bypass := ⟨v.bp, v.bp⟩, oa := ⟨v.oa, v.oa⟩
    ramp := rampAfter (s.drive k).ramp ⟨v.ws, (s.drive k).wheel.effective⟩, posture := some v, frostCap := none
    band := s.bandAfter k
    lockoutHold := (s.drive k).lockoutHold && s.keepsHold k } := by
  have self := posed_drive_self s k (some v)
  have posture : ((s.posed k (some v)).drive k).posture = some v := by rw [self]
  unfold State.recomputed
  dsimp only
  rw [wheelCommand_of_posture posture, bypassCommand_of_posture posture, oaCommand_of_posture posture, posed_bandAfter, self]
  rfl

theorem applyPosture_eq (s : State) (k : Train) (v : OutputValues) : s.applyPosture k v = { s with
    drives := s.drives.set k { s.drive k with
      wheel := ⟨v.ws, v.ws⟩, bypass := ⟨v.bp, v.bp⟩, oa := ⟨v.oa, v.oa⟩, ramp := none, posture := some v, frostCap := none
      band := s.bandAfter k
      lockoutHold := decide ((s.drive k).wheel.effective ≠ 0 ∧ v.ws = 0) || ((s.drive k).lockoutHold && s.keepsHold k) }
    handoffs := s.handoffs ++ (if v.ws = (s.drive k).wheel.command then [] else s.toFollowers k) ++
      (if (s.drive k).wheel.effective ≠ 0 ∧ v.ws = 0 then [.wheelZero k] else []) } := by
  have self := posed_drive_self s k (some v)
  have fresh : (s.posed k (some v)).readsStaleHold k = false := by
    unfold State.readsStaleHold
    rw [self]
    split <;> rfl
  have recomputed : (s.posed k (some v)).recompute k = { s with
      drives := (s.drives.set k { s.drive k with posture := some v }).set k ((s.posed k (some v)).recomputed k)
      handoffs := s.handoffs ++ if v.ws = (s.drive k).wheel.command then [] else s.toFollowers k } := by
    have command : ((s.posed k (some v)).recomputed k).wheel.command = v.ws := by rw [posed_recomputed]
    rw [recompute_eq, fresh, command, self]
    rfl
  show (((s.posed k (some v)).recompute k).stopRamp k).wheelZero k (s.drive k).wheel.effective = _
  have stopped : ((s.posed k (some v)).recompute k).stopRamp k = { s with
      drives := s.drives.set k { (s.posed k (some v)).recomputed k with wheel := ⟨v.ws, v.ws⟩, ramp := none }
      handoffs := s.handoffs ++ if v.ws = (s.drive k).wheel.command then [] else s.toFollowers k } := by
    unfold State.stopRamp
    rw [recompute_drive_self, recomputed, posed_recomputed]
    simp only [State.setDrive, Vec.set_set]
    rfl
  rw [stopped, wheelZero_eq, posed_recomputed]
  have drive (d : DriveRec) (hs : List Handoff) : ({ s with drives := s.drives.set k d, handoffs := hs } : State).drive k = d :=
    Vec.get_set_self _ _ _
  rw [drive]
  dsimp only
  split
  · next rest =>
    rw [decide_eq_true rest, Vec.set_set, Bool.true_or]
  · next moves =>
    rw [decide_eq_false moves, List.append_nil, Bool.false_or]

/-- Settles O40: `applyPosture_eq` as a posture begins or changes, the recomputation by the bases as it ends. -/
theorem postureAppliedAtOnce : Obligations.PostureAppliedAtOnce := by
  unfold Obligations.PostureAppliedAtOnce
  intro k s awake d p rest followers held
  have answers : rest.any (Handoff.awaitsAnswer k) = s.handoffs.any (Handoff.awaitsAnswer k) :=
    any_eraseP awaitsAnswer_of_isPosture _
  have keeps : (s.setHandoffs rest).keepsHold k = (decide ((s.train k).lockout ≠ none) || s.handoffs.any (Handoff.awaitsAnswer k)) := by
    rw [← answers]
    exact keepsHold_eq _ k
  have executed : exec (.postureApply k) s = whenLive (fun s => match s.takeHandoff (Handoff.isPosture k) with
    | some (.posture _ (some v), s) => s.applyPosture k v
    | some (.posture _ none, s) => s.endPosture k
    | _ => s) s := rfl
  rw [executed, whenLive_live awake]
  refine ⟨fun v found => ?_, fun found => ?_⟩
  · refine ⟨(s.setHandoffs rest).applyPosture k v, by rw [takeHandoff_of_find found], ?_⟩
    have applied := applyPosture_eq (s.setHandoffs rest) k v
    rw [keeps] at applied
    have band : (((s.setHandoffs rest).applyPosture k v).drive k).band = (s.setHandoffs rest).bandAfter k := by
      rw [applied]
      exact congrArg DriveRec.band (Vec.get_set_self _ _ _)
    refine ⟨?_, fun other => ?_, fun source basis => ?_, ?_, ?_⟩
    · rw [band, applied]
      rfl
    · exact band.trans (bandAfter_of_other (s := s.setHandoffs rest) other)
    · obtain ⟨absent, judged⟩ := bandAfter_of_band (s := s.setHandoffs rest) (k := k) source basis
      exact ⟨fun none => band.trans (absent none), fun x some => band.trans (judged x some)⟩
    · rw [applied]
      rfl
    · rw [applied]
      rfl
  · refine ⟨((s.setHandoffs rest).posed k none).recompute k, by rw [takeHandoff_of_find found]; rfl, ?_⟩
    have self : ((s.setHandoffs rest).posed k none).drive k = { d with posture := none } := posed_drive_self _ k none
    have free : (((s.setHandoffs rest).posed k none).drive k).posture = none := by rw [self]
    have record := recompute_drive_self ((s.setHandoffs rest).posed k none) k
    have hold : (((s.setHandoffs rest).posed k none).recomputed k).lockoutHold = held := by
      show (_ && (s.setHandoffs rest).keepsHold k) = _
      rw [self, keeps]
    have wheel := fun released => recomputed_wheel_of_basis free (hold.trans released)
    have bypass : (((s.setHandoffs rest).posed k none).recomputed k).bypass.effective = _ := bypassCommand_of_basis free
    have oa : (((s.setHandoffs rest).posed k none).recomputed k).oa.effective = _ := oaCommand_of_basis free
    rw [self] at wheel bypass oa
    rw [record]
    refine ⟨?_, ?_, hold, fun released basis => ?_, fun zero => ?_, fun other => ?_, fun basis => ?_, fun basis => ?_, fun basis => ?_,
      fun basis => ?_, fun basis => ?_, ?_, fun j other => ?_, ?_⟩
    · exact free
    · show (((s.setHandoffs rest).posed k none).drive k).wheel.effective = _
      rw [self]
    · have command := wheel released
      rw [basis] at command
      exact congrArg Prod.fst command
    · show (((s.setHandoffs rest).posed k none).wheelCommand k _ _).1 = 0
      rcases zero with held | basis
      · exact recomputed_wheel_of_hold free (hold.trans held)
      · rw [wheelCommand_of_zero free (by rw [self]; exact basis)]
    · exact recomputed_uncapped (.inr (.inr (by rw [self]; exact other)))
    · rw [bypass, basis]
    · rw [bypass, basis]
    · rw [bypass, basis]
    · rw [oa, basis]
    · rw [oa, basis]
    · rw [recompute_eq, self]
      rfl
    · rw [recompute_drive_ne (Ne.symm other)]
      exact Vec.get_set_ne _ (Ne.symm other) _
    · rw [recompute_eq]
      rfl

end Sys2Proof.Machine
end

section
/-! Item ids (R183): the number of a code in its list, and the item three bytes name. -/

namespace Sys2Proof.Machine

/-! Codes and indices. -/

theorem getElem?_codeIn {α : Type} [DecidableEq α] {all : List α} {x : α} (mem : x ∈ all) : all[codeIn all x]? = some x :=
  List.getElem?_idxOf mem

theorem codeIn_of_getElem? {α : Type} [DecidableEq α] {all : List α} (nodup : all.Nodup) {n : Nat} {x : α} (at_n : all[n]? = some x) :
    codeIn all x = n := by
  obtain ⟨bound, rfl⟩ := List.getElem?_eq_some_iff.1 at_n
  exact nodup.idxOf_getElem n bound

theorem codeIn_lt {α : Type} [DecidableEq α] {all : List α} {x : α} (mem : x ∈ all) : codeIn all x < all.length :=
  List.idxOf_lt_length_of_mem mem

theorem index?_val {n : Nat} (i : Fin n) : index? n i.val = some i := dif_pos i.isLt

theorem index?_eq_some {n m : Nat} {i : Fin n} (h : index? n m = some i) : i.val = m := by
  unfold index? at h
  split_ifs at h
  cases h
  rfl

theorem mem_allTrainFields (f : TrainField) : f ∈ allTrainFields := by cases f <;> decide
theorem mem_allSlotFields (f : SlotField) : f ∈ allSlotFields := by cases f <;> decide
theorem mem_allPermitFields (f : PermitField) : f ∈ allPermitFields := by cases f <;> decide
theorem mem_allChannelFields (f : ChannelField) : f ∈ allChannelFields := by cases f <;> decide
theorem mem_allReferenceFields (f : ReferenceField) : f ∈ allReferenceFields := by cases f <;> decide
theorem mem_allShaftFields (f : ShaftField) : f ∈ allShaftFields := by cases f <;> decide
theorem mem_allRightsFields (f : RightsField) : f ∈ allRightsFields := by cases f <;> decide
theorem mem_allLineFields (f : LineField) : f ∈ allLineFields := by cases f <;> decide
theorem mem_allPostureFields (f : PostureField) : f ∈ allPostureFields := by cases f <;> decide

theorem getElem?_linkIndex (l : Link) : allLinks[(linkIndex l).val]? = some l := by cases l <;> rfl

theorem getElem?_postureIndex (c : PostureCode) : allPostureCodes[(postureIndex c).val]? = some c := by cases c <;> rfl

theorem getElem?_classIndex (c : NoticeClass) : allClasses[(classIndex c).val]? = some c := by cases c <;> rfl

theorem linkIndex_of_getElem? {n : Nat} {l : Link} (at_n : allLinks[n]? = some l) : (linkIndex l).val = n := by
  rw [← codeIn_of_getElem? (by decide) at_n]
  cases l <;> rfl

theorem postureIndex_of_getElem? {n : Nat} {c : PostureCode} (at_n : allPostureCodes[n]? = some c) : (postureIndex c).val = n := by
  rw [← codeIn_of_getElem? (by decide) at_n]
  cases c <;> rfl

theorem classIndex_of_getElem? {n : Nat} {c : NoticeClass} (at_n : allClasses[n]? = some c) : (classIndex c).val = n := by
  rw [← codeIn_of_getElem? (by decide) at_n]
  cases c <;> rfl

/-! The ids. -/

/-- An item's id names it. -/
theorem itemOf?_id (i : Item) : itemOf? i.id.1 i.id.2.1 i.id.2.2 = some i := by
  unfold itemOf? Item.id
  cases i with
  | train k f => simp [index?_val, getElem?_codeIn (mem_allTrainFields f)]
  | slot k c f =>
    have place : index? 64 (8 * k.val + c.val) = some ⟨8 * k.val + c.val, by omega⟩ := index?_val ⟨8 * k.val + c.val, by omega⟩
    simp only [place, getElem?_codeIn (mem_allSlotFields f)]
    simp [Fin.ext_iff]
    omega
  | permit k c f =>
    have place : index? 24 (3 * k.val + c.val) = some ⟨3 * k.val + c.val, by omega⟩ := index?_val ⟨3 * k.val + c.val, by omega⟩
    simp only [place, getElem?_codeIn (mem_allPermitFields f)]
    simp [Fin.ext_iff]
    omega
  | pool b => simp [index?_val]
  | channel c f => simp [index?_val, getElem?_codeIn (mem_allChannelFields f)]
  | height st => simp [index?_val]
  | reference f => simp [getElem?_codeIn (mem_allReferenceFields f)]
  | shaft h f => simp [index?_val, getElem?_codeIn (mem_allShaftFields f)]
  | demandTimeout | ramp => rfl
  | polarity o => simp [index?_val]
  | routing c => simp [getElem?_classIndex]
  | rights l f => simp [getElem?_linkIndex, getElem?_codeIn (mem_allRightsFields f)]
  | line n f =>
    have small : codeIn allLineFields f < 3 := codeIn_lt (mem_allLineFields f)
    simp [small, index?_val, getElem?_codeIn (mem_allLineFields f)]
  | posture c f => simp [getElem?_postureIndex, getElem?_codeIn (mem_allPostureFields f)]

/-- No other id names an item. -/
theorem id_of_itemOf? {g x f : Nat} {i : Item} (named : itemOf? g x f = some i) : i.id = (g, x, f) := by
  unfold itemOf? at named
  split at named
  case h_13 => cases named
  all_goals
    simp only [Option.pure_def, Option.bind_eq_bind, Option.bind_eq_some_iff, Option.some.injEq, Option.guard_eq_some'] at named
  case h_1 =>
    obtain ⟨k, index, field, code, rfl⟩ := named
    rw [Item.id, index?_eq_some index, codeIn_of_getElem? (by decide) code]
  case h_2 =>
    obtain ⟨n, index, field, code, rfl⟩ := named
    rw [Item.id, codeIn_of_getElem? (by decide) code, ← index?_eq_some index, Nat.div_add_mod]
  case h_3 =>
    obtain ⟨n, index, field, code, rfl⟩ := named
    rw [Item.id, codeIn_of_getElem? (by decide) code, ← index?_eq_some index, Nat.div_add_mod]
  case h_4 =>
    obtain ⟨-, rfl, b, index, rfl⟩ := named
    rw [Item.id, index?_eq_some index]
  case h_5 =>
    obtain ⟨c, index, field, code, rfl⟩ := named
    rw [Item.id, index?_eq_some index, codeIn_of_getElem? (by decide) code]
  case h_6 =>
    split_ifs at named with height <;> simp only [Option.bind_eq_some_iff, Option.some.injEq, Option.guard_eq_some'] at named
    · obtain ⟨st, index, rfl⟩ := named
      rw [Item.id, index?_eq_some index, height]
    · obtain ⟨-, rfl, field, code, rfl⟩ := named
      rw [Item.id, codeIn_of_getElem? (by decide) code, Nat.sub_add_cancel (Nat.one_le_iff_ne_zero.2 height)]
  case h_7 =>
    obtain ⟨h, index, field, code, rfl⟩ := named
    rw [Item.id, index?_eq_some index, codeIn_of_getElem? (by decide) code]
  case h_8 =>
    obtain ⟨-, rfl, named⟩ := named
    split at named <;> cases named <;> rfl
  case h_9 =>
    obtain ⟨-, rfl, o, index, rfl⟩ := named
    rw [Item.id, index?_eq_some index]
  case h_10 =>
    obtain ⟨-, ⟨rfl, one⟩, c, code, rfl⟩ := named
    rw [Item.id, classIndex_of_getElem? code, Nat.sub_add_cancel one]
  case h_11 =>
    obtain ⟨l, index, field, code, rfl⟩ := named
    rw [Item.id, linkIndex_of_getElem? index, codeIn_of_getElem? (by decide) code]
  case h_12 =>
    split_ifs at named with line <;> simp only [Option.bind_eq_some_iff, Option.some.injEq] at named
    · obtain ⟨n, index, field, code, rfl⟩ := named
      rw [Item.id, index?_eq_some index, codeIn_of_getElem? (by decide) code]
    · obtain ⟨c, index, field, code, rfl⟩ := named
      rw [Item.id, postureIndex_of_getElem? index, codeIn_of_getElem? (by decide) code, Nat.sub_add_cancel (Nat.le_of_not_lt line)]

/-- Each number of an id fits its byte. -/
theorem id_lt (i : Item) : i.id.1 < 256 ∧ i.id.2.1 < 256 ∧ i.id.2.2 < 256 := by
  unfold Item.id
  cases i with
  | pool | height | demandTimeout | ramp | polarity | routing => dsimp only; omega
  | train k f =>
    have small : codeIn allTrainFields f < 19 := codeIn_lt (mem_allTrainFields f)
    dsimp only
    omega
  | slot k c f =>
    have small : codeIn allSlotFields f < 6 := codeIn_lt (mem_allSlotFields f)
    dsimp only
    omega
  | permit k c f =>
    have small : codeIn allPermitFields f < 7 := codeIn_lt (mem_allPermitFields f)
    dsimp only
    omega
  | channel c f =>
    have small : codeIn allChannelFields f < 5 := codeIn_lt (mem_allChannelFields f)
    dsimp only
    omega
  | reference f =>
    have small : codeIn allReferenceFields f < 4 := codeIn_lt (mem_allReferenceFields f)
    dsimp only
    omega
  | shaft h f =>
    have small : codeIn allShaftFields f < 2 := codeIn_lt (mem_allShaftFields f)
    dsimp only
    omega
  | rights l f =>
    have small : codeIn allRightsFields f < 6 := codeIn_lt (mem_allRightsFields f)
    dsimp only
    omega
  | line n f =>
    have small : codeIn allLineFields f < 3 := codeIn_lt (mem_allLineFields f)
    dsimp only
    omega
  | posture c f =>
    have small : codeIn allPostureFields f < 2 := codeIn_lt (mem_allPostureFields f)
    dsimp only
    omega

theorem toNat_byte_of_lt {n : Nat} (small : n < 256) : (byte n).toNat = n := by
  rw [byte, BitVec.toNat_ofNat, Nat.mod_eq_of_lt small]

theorem byte_toNat (b : Byte) : byte b.toNat = b := by simp [byte]

theorem itemOfBytes?_byte_id (i : Item) : itemOfBytes? (byte i.id.1) (byte i.id.2.1) (byte i.id.2.2) = some i := by
  obtain ⟨group, index, field⟩ := id_lt i
  rw [itemOfBytes?, toNat_byte_of_lt group, toNat_byte_of_lt index, toNat_byte_of_lt field, itemOf?_id]

/-- Settles O44: an item's id names it, and no other id does; each number of an id fits its byte. -/
theorem itemIdsRoundTrip : Obligations.ItemIdsRoundTrip := by
  unfold Obligations.ItemIdsRoundTrip
  refine ⟨fun i => ⟨_, _, _, rfl, itemOfBytes?_byte_id i⟩, fun g x f i named => ?_⟩
  rw [Item.bytes, id_of_itemOf? named, byte_toNat, byte_toNat, byte_toNat]

end Sys2Proof.Machine
end

section
/-! One item of a set staged: it reads back as the word staged, every other item as it was (R160, R183). -/

namespace Sys2Proof.Machine

/-! A value read within its range goes back to the wire as the word it was. -/

section
variable {w : BitVec 16}

theorem ofNat_of_natIn {lo hi n : Nat} (read : natIn lo hi w = some n) : BitVec.ofNat 16 n = w := (natIn_some read).2.2.symm

theorem ofInt_of_intIn {lo hi v : Int} (read : intIn lo hi w = some v) : BitVec.ofInt 16 v = w := (intIn_some read).2.2.symm

theorem ofNat_of_index? {n : Nat} {i : Fin n} (read : index? n w.toNat = some i) : BitVec.ofNat 16 i.val = w := by
  rw [index?_eq_some read, BitVec.ofNat_toNat, BitVec.setWidth_eq]

theorem ofNat_of_code {α : Type} [DecidableEq α] {all : List α} {x : α} (read : all[w.toNat]? = some x) (nodup : all.Nodup) :
    BitVec.ofNat 16 (codeIn all x) = w := by
  rw [codeIn_of_getElem? nodup read, BitVec.ofNat_toNat, BitVec.setWidth_eq]

theorem setWidth_of_flagIn {b : Bool} (read : flagIn w = some b) : (flagByte b).setWidth 16 = w := by
  unfold flagIn at read
  split_ifs at read with zero one <;> cases read
  · rw [zero]
    rfl
  · rw [one]
    rfl

theorem setWidth_of_setIn {m : BitVec 8} (read : setIn w = some m) : m.setWidth 16 = w := by
  unfold setIn at read
  split_ifs at read with small
  cases read
  apply BitVec.eq_of_toNat_eq
  rw [BitVec.toNat_setWidth, BitVec.toNat_setWidth, Nat.mod_eq_of_lt small, Nat.mod_eq_of_lt w.isLt]

theorem setWidth_of_linksIn {m : BitVec 3} (read : linksIn w = some m) : m.setWidth 16 = w := by
  unfold linksIn at read
  split_ifs at read with small
  cases read
  apply BitVec.eq_of_toNat_eq
  rw [BitVec.toNat_setWidth, BitVec.toNat_setWidth, Nat.mod_eq_of_lt small, Nat.mod_eq_of_lt w.isLt]

theorem ofInt_of_limitIn {c : Channel} {v : Int} (read : limitIn c w = some v) : BitVec.ofInt 16 v = w := by
  unfold limitIn at read
  split_ifs at read
  · obtain ⟨n, within, rfl⟩ := Option.map_eq_some_iff.1 read
    exact (BitVec.ofInt_natCast 16 n).trans (ofNat_of_natIn within)
  · exact ofInt_of_intIn read

/-- The word of a stand-in: absent, or a channel (R183). -/
theorem word_of_standInIn {c : Channel} {d : Option Channel} (read : standInIn c w = some d) :
    d.elim (0xFFFF : BitVec 16) (fun d => .ofNat 16 d.val) = w := by
  unfold standInIn at read
  split_ifs at read with absent
  · cases read
    exact absent.symm
  · obtain ⟨e, index, rfl⟩ := Option.map_eq_some_iff.1 read
    exact ofNat_of_index? index

end

theorem postureIndex_injective {c d : PostureCode} (same : postureIndex c = postureIndex d) : c = d :=
  Option.some.inj ((getElem?_postureIndex c).symm.trans
    ((congrArg (fun i : Fin 2 => allPostureCodes[i.val]?) same).trans (getElem?_postureIndex d)))

/-! One group's item staged: the item itself, and the others of the same record. -/

section
variable {p q : Params} {w : BitVec 16}

theorem stageTrain_wire {k : Train} {f : TrainField} (staged : p.stage? (.train k f) w = some q) :
    q.wire (.train k f) = w ∧ ∀ j, j ≠ .train k f → q.wire j = p.wire j := by
  obtain ⟨t, fields, rfl⟩ := Option.map_eq_some_iff.1 staged
  have self : (p.setTrain k t).train k = t := Vec.get_set_self _ _ _
  refine ⟨?_, fun j other => ?_⟩
  · simp only [Params.wire, self]
    cases f <;> obtain ⟨n, read, rfl⟩ := Option.map_eq_some_iff.1 fields
    case tFrost => exact ofInt_of_intIn read
    case wheelSource => exact ofNat_of_code read (by decide)
    case shaft | bandChannel | bandLow | bandHigh | leader => exact ofNat_of_index? read
    all_goals exact ofNat_of_natIn read
  · cases j with
    | train k' f' =>
      by_cases same : k' = k
      · obtain rfl := same
        simp only [Params.wire, self]
        cases f <;> obtain ⟨n, -, rfl⟩ := Option.map_eq_some_iff.1 fields <;> cases f' <;>
          first
          | exact absurd rfl other
          | rfl
      · have kept : (p.setTrain k t).train k' = p.train k' := Vec.get_set_ne _ (Ne.symm same) _
        simp only [Params.wire, kept]
    | _ => rfl

theorem stageSlot_wire {k : Train} {c : Fin 8} {f : SlotField} (staged : p.stage? (.slot k c f) w = some q) :
    q.wire (.slot k c f) = w ∧ ∀ j, j ≠ .slot k c f → q.wire j = p.wire j := by
  obtain ⟨t, fields, rfl⟩ := Option.map_eq_some_iff.1 staged
  have self : ((p.setSlot k c t).slots.get k).get c = t := by rw [Params.setSlot, Vec.get_set_self, Vec.get_set_self]
  refine ⟨?_, fun j other => ?_⟩
  · simp only [Params.wire, self]
    cases f <;> obtain ⟨n, read, rfl⟩ := Option.map_eq_some_iff.1 fields
    case quantity | area => exact ofNat_of_code read (by decide)
    case boundA | boundB => exact ofNat_of_index? read
    all_goals exact ofNat_of_natIn read
  · cases j with
    | slot k' c' f' =>
      by_cases same : k' = k ∧ c' = c
      · obtain ⟨rfl, rfl⟩ := same
        simp only [Params.wire, self]
        cases f <;> obtain ⟨n, -, rfl⟩ := Option.map_eq_some_iff.1 fields <;> cases f' <;>
          first
          | exact absurd rfl other
          | rfl
      · have kept : ((p.setSlot k c t).slots.get k').get c' = (p.slots.get k').get c' := by
          rw [Params.setSlot, Vec.get_set]
          split
          · next at_k => rw [Vec.get_set_ne _ (fun at_c => same ⟨at_k.symm, at_c.symm⟩), at_k]
          · rfl
        simp only [Params.wire, kept]
    | _ => rfl

theorem stagePermit_wire {k : Train} {c : Fin 3} {f : PermitField} (staged : p.stage? (.permit k c f) w = some q) :
    q.wire (.permit k c f) = w ∧ ∀ j, j ≠ .permit k c f → q.wire j = p.wire j := by
  obtain ⟨t, fields, rfl⟩ := Option.map_eq_some_iff.1 staged
  have self : ((p.setPermit k c t).permits.get k).get c = t := by rw [Params.setPermit, Vec.get_set_self, Vec.get_set_self]
  refine ⟨?_, fun j other => ?_⟩
  · simp only [Params.wire, self]
    cases f <;> obtain ⟨n, read, rfl⟩ := Option.map_eq_some_iff.1 fields
    case enable1 | enable2 => exact setWidth_of_flagIn read
    case logic => exact ofNat_of_code read (by decide)
    all_goals exact setWidth_of_setIn read
  · cases j with
    | permit k' c' f' =>
      by_cases same : k' = k ∧ c' = c
      · obtain ⟨rfl, rfl⟩ := same
        simp only [Params.wire, self]
        cases f <;> obtain ⟨n, -, rfl⟩ := Option.map_eq_some_iff.1 fields <;> cases f' <;>
          first
          | exact absurd rfl other
          | rfl
      · have kept : ((p.setPermit k c t).permits.get k').get c' = (p.permits.get k').get c' := by
          rw [Params.setPermit, Vec.get_set]
          split
          · next at_k => rw [Vec.get_set_ne _ (fun at_c => same ⟨at_k.symm, at_c.symm⟩), at_k]
          · rfl
        simp only [Params.wire, kept]
    | _ => rfl

theorem stageChannel_wire {c : Channel} {f : ChannelField} (staged : p.stage? (.channel c f) w = some q) :
    q.wire (.channel c f) = w ∧ ∀ j, j ≠ .channel c f → q.wire j = p.wire j := by
  obtain ⟨t, fields, rfl⟩ := Option.map_eq_some_iff.1 staged
  have self : (p.setChannel c t).channel c = t := Vec.get_set_self _ _ _
  refine ⟨?_, fun j other => ?_⟩
  · simp only [Params.wire, self]
    cases f <;> obtain ⟨n, read, rfl⟩ := Option.map_eq_some_iff.1 fields
    case low | high => exact ofInt_of_limitIn read
    case standIn => cases n <;> exact word_of_standInIn read
    all_goals exact ofNat_of_natIn read
  · cases j with
    | channel c' f' =>
      by_cases same : c' = c
      · obtain rfl := same
        simp only [Params.wire, self]
        cases f <;> obtain ⟨n, -, rfl⟩ := Option.map_eq_some_iff.1 fields <;> cases f' <;>
          first
          | exact absurd rfl other
          | rfl
      · have kept : (p.setChannel c t).channel c' = p.channel c' := Vec.get_set_ne _ (Ne.symm same) _
        simp only [Params.wire, kept]
    | _ => rfl

theorem stageReference_wire {f : ReferenceField} (staged : p.stage? (.reference f) w = some q) :
    q.wire (.reference f) = w ∧ ∀ j, j ≠ .reference f → q.wire j = p.wire j := by
  obtain ⟨t, fields, rfl⟩ := Option.map_eq_some_iff.1 staged
  refine ⟨?_, fun j other => ?_⟩
  · simp only [Params.wire]
    cases f <;> obtain ⟨n, read, rfl⟩ := Option.map_eq_some_iff.1 fields
    case lapse => exact ofInt_of_intIn read
    all_goals exact ofNat_of_natIn read
  · cases j with
    | reference f' =>
      cases f <;> obtain ⟨n, -, rfl⟩ := Option.map_eq_some_iff.1 fields <;> cases f' <;>
        first
        | exact absurd rfl other
        | rfl
    | height st => cases f <;> obtain ⟨n, -, rfl⟩ := Option.map_eq_some_iff.1 fields <;> rfl
    | _ => rfl

theorem stageShaft_wire {h : Shaft} {f : ShaftField} (staged : p.stage? (.shaft h f) w = some q) :
    q.wire (.shaft h f) = w ∧ ∀ j, j ≠ .shaft h f → q.wire j = p.wire j := by
  obtain ⟨t, fields, rfl⟩ := Option.map_eq_some_iff.1 staged
  have self : (p.shafts.set h t).get h = t := Vec.get_set_self _ _ _
  refine ⟨?_, fun j other => ?_⟩
  · simp only [Params.wire, self]
    cases f <;> obtain ⟨n, read, rfl⟩ := Option.map_eq_some_iff.1 fields
    all_goals exact ofNat_of_natIn read
  · cases j with
    | shaft h' f' =>
      by_cases same : h' = h
      · obtain rfl := same
        simp only [Params.wire, self]
        cases f <;> obtain ⟨n, -, rfl⟩ := Option.map_eq_some_iff.1 fields <;> cases f' <;>
          first
          | exact absurd rfl other
          | rfl
      · have kept : (p.shafts.set h t).get h' = p.shafts.get h' := Vec.get_set_ne _ (Ne.symm same) _
        simp only [Params.wire, kept]
    | _ => rfl

theorem stageRights_wire {l : Link} {f : RightsField} (staged : p.stage? (.rights l f) w = some q) :
    q.wire (.rights l f) = w ∧ ∀ j, j ≠ .rights l f → q.wire j = p.wire j := by
  obtain ⟨t, fields, rfl⟩ := Option.map_eq_some_iff.1 staged
  have self : (p.setRights l t).right l = t := Vec.get_set_self _ _ _
  refine ⟨?_, fun j other => ?_⟩
  · simp only [Params.wire, self]
    cases f <;> obtain ⟨n, read, rfl⟩ := Option.map_eq_some_iff.1 fields
    case trains => exact setWidth_of_setIn read
    case priority => exact ofNat_of_natIn read
    all_goals exact setWidth_of_flagIn read
  · cases j with
    | rights l' f' =>
      by_cases same : l' = l
      · obtain rfl := same
        simp only [Params.wire, self]
        cases f <;> obtain ⟨n, -, rfl⟩ := Option.map_eq_some_iff.1 fields <;> cases f' <;>
          first
          | exact absurd rfl other
          | rfl
      · have kept : (p.setRights l t).right l' = p.right l' := Vec.get_set_ne _ (fun at_l => same (linkIndex_inj.1 at_l.symm)) _
        simp only [Params.wire, kept]
    | _ => rfl

theorem stageLine_wire {n : Line} {f : LineField} (staged : p.stage? (.line n f) w = some q) :
    q.wire (.line n f) = w ∧ ∀ j, j ≠ .line n f → q.wire j = p.wire j := by
  obtain ⟨t, fields, rfl⟩ := Option.map_eq_some_iff.1 staged
  have self : (p.lines.set n t).get n = t := Vec.get_set_self _ _ _
  refine ⟨?_, fun j other => ?_⟩
  · simp only [Params.wire, self]
    cases f <;> obtain ⟨m, read, rfl⟩ := Option.map_eq_some_iff.1 fields
    case trains => exact setWidth_of_setIn read
    case code => exact ofNat_of_code read (by decide)
    case delay => exact ofNat_of_natIn read
  · cases j with
    | line n' f' =>
      by_cases same : n' = n
      · obtain rfl := same
        simp only [Params.wire, self]
        cases f <;> obtain ⟨m, -, rfl⟩ := Option.map_eq_some_iff.1 fields <;> cases f' <;>
          first
          | exact absurd rfl other
          | rfl
      · have kept : (p.lines.set n t).get n' = p.lines.get n' := Vec.get_set_ne _ (Ne.symm same) _
        simp only [Params.wire, kept]
    | _ => rfl

theorem stagePosture_wire {c : PostureCode} {f : PostureField} (staged : p.stage? (.posture c f) w = some q) :
    q.wire (.posture c f) = w ∧ ∀ j, j ≠ .posture c f → q.wire j = p.wire j := by
  obtain ⟨t, fields, rfl⟩ := Option.map_eq_some_iff.1 staged
  have self : (p.setPosture c t).posture c = t := Vec.get_set_self _ _ _
  refine ⟨?_, fun j other => ?_⟩
  · simp only [Params.wire, self]
    cases f <;> obtain ⟨n, read, rfl⟩ := Option.map_eq_some_iff.1 fields
    all_goals exact ofNat_of_natIn read
  · cases j with
    | posture c' f' =>
      by_cases same : c' = c
      · obtain rfl := same
        simp only [Params.wire, self]
        cases f <;> obtain ⟨n, -, rfl⟩ := Option.map_eq_some_iff.1 fields <;> cases f' <;>
          first
          | exact absurd rfl other
          | rfl
      · have kept : (p.setPosture c t).posture c' = p.posture c' := Vec.get_set_ne _ (fun at_c => same (postureIndex_injective at_c.symm)) _
        simp only [Params.wire, kept]
    | _ => rfl

/-- A staged item reads back as the word staged, and every other item as it was (R160). -/
theorem stage_wire {i : Item} (staged : p.stage? i w = some q) : q.wire i = w ∧ ∀ j, j ≠ i → q.wire j = p.wire j := by
  cases i with
  | train k f => exact stageTrain_wire staged
  | slot k c f => exact stageSlot_wire staged
  | permit k c f => exact stagePermit_wire staged
  | channel c f => exact stageChannel_wire staged
  | reference f => exact stageReference_wire staged
  | shaft h f => exact stageShaft_wire staged
  | rights l f => exact stageRights_wire staged
  | line n f => exact stageLine_wire staged
  | posture c f => exact stagePosture_wire staged
  | demandTimeout | ramp =>
    obtain ⟨n, read, rfl⟩ := Option.map_eq_some_iff.1 staged
    refine ⟨ofNat_of_natIn read, fun j other => ?_⟩
    cases j <;>
      first
      | exact absurd rfl other
      | rfl
  | pool b =>
    obtain ⟨v, read, rfl⟩ := Option.map_eq_some_iff.1 staged
    refine ⟨?_, fun j other => ?_⟩
    · exact (congrArg (BitVec.ofInt 16) (Vec.get_set_self _ _ _)).trans (ofInt_of_intIn read)
    · cases j with
      | pool b' => exact congrArg (BitVec.ofInt 16) (Vec.get_set_ne _ (fun same => other (by rw [same])) _)
      | _ => rfl
  | height st =>
    obtain ⟨n, read, rfl⟩ := Option.map_eq_some_iff.1 staged
    refine ⟨?_, fun j other => ?_⟩
    · exact (congrArg (BitVec.ofNat 16) (Vec.get_set_self _ _ _)).trans (ofNat_of_natIn read)
    · cases j with
      | height st' => exact congrArg (BitVec.ofNat 16) (Vec.get_set_ne _ (fun same => other (by rw [same])) _)
      | _ => rfl
  | polarity o =>
    obtain ⟨x, read, rfl⟩ := Option.map_eq_some_iff.1 staged
    refine ⟨?_, fun j other => ?_⟩
    · exact (congrArg (fun x => BitVec.ofNat 16 (codeIn allPolarities x)) (Vec.get_set_self _ _ _)).trans (ofNat_of_code read (by decide))
    · cases j with
      | polarity o' =>
        exact congrArg (fun x => BitVec.ofNat 16 (codeIn allPolarities x)) (Vec.get_set_ne _ (fun same => other (by rw [same])) _)
      | _ => rfl
  | routing c =>
    obtain ⟨m, read, rfl⟩ := Option.map_eq_some_iff.1 staged
    refine ⟨?_, fun j other => ?_⟩
    · exact (congrArg (BitVec.setWidth 16) (Vec.get_set_self _ _ _)).trans (setWidth_of_linksIn read)
    · cases j with
      | routing c' =>
        exact congrArg (BitVec.setWidth 16) (Vec.get_set_ne _ (fun same => other (by rw [classIndex_injective same])) _)
      | _ => rfl

end

/-! The request. -/

section
variable {l : Link} {g x f : Byte} {w : BitVec 16} {s : State}

theorem requestStage_short {payload : List Byte} (short : payload.length ≠ 5) : requestStage l payload s = refuse .badLength s := by
  unfold requestStage
  split
  · exact absurd rfl short
  · rfl

theorem requestStage_noRight (right : (s.right l).config = false) :
    requestStage l ([g, x, f] ++ bytes16 w) s = refuse .noRight s := by
  simp [requestStage, bytes16, right]

theorem requestStage_unnamed (right : (s.right l).config = true) (unnamed : itemOfBytes? g x f = none) :
    requestStage l ([g, x, f] ++ bytes16 w) s = refuse .badIndex s := by
  simp [requestStage, bytes16, right, unnamed]

section
variable {i : Item} (right : (s.right l).config = true) (named : itemOfBytes? g x f = some i)
include right named

theorem requestStage_locked (locked : s.locked = true) (item : i.locked = true) :
    requestStage l ([g, x, f] ++ bytes16 w) s = refuse .locked s := by
  simp [requestStage, bytes16, right, named, locked, item]

theorem requestStage_free (free : s.locked = true → i.locked = false) : requestStage l ([g, x, f] ++ bytes16 w) s =
    match s.staged.stage? i w with
    | none => refuse .outOfRange s
    | some p => ({ s with staged := p }, .ok []) := by
  have unfrozen : (s.locked && i.locked) = false := by
    cases locked : s.locked with
    | false => rfl
    | true => exact free locked
  have value : word16 (w.extractLsb' 0 8) (w.extractLsb' 8 8) = w := word16_bytes16 w
  simp only [requestStage, bytes16, List.cons_append, List.nil_append, right, named, unfrozen, value]
  rfl

end

end

/-- Settles O43: the checks in order, and the item staged by `stage_wire`. -/
theorem stageSetsOneItem : Obligations.StageSetsOneItem := by
  unfold Obligations.StageSetsOneItem
  intro l tag payload g x f w s ready refused staging
  refine ⟨fun short => ?_, fun noRight => ?_, fun right unnamed => ?_, fun i right named => ⟨fun locked item => ?_, fun free outside => ?_,
    fun free inside => ?_⟩⟩
  · exact answerRequest_of_refused ready (requestStage_short short)
  · exact answerRequest_of_refused ready (requestStage_noRight noRight)
  · exact answerRequest_of_refused ready (requestStage_unnamed right unnamed)
  · exact answerRequest_of_refused ready (requestStage_locked right named locked item)
  · refine answerRequest_of_refused ready ((requestStage_free (s := s.setPort l (s.port l).hunt) right named free).trans ?_)
    rw [show (s.setPort l (s.port l).hunt).staged.stage? i w = none from outside]
  · obtain ⟨p, staged⟩ := Option.ne_none_iff_exists'.1 inside
    refine ⟨p, ?_, stage_wire staged⟩
    refine answerRequest_of_ports_kept (t := { s.setPort l (s.port l).hunt with staged := p }) (r := .ok []) ready
      ((requestStage_free (s := s.setPort l (s.port l).hunt) right named free).trans ?_) rfl
    rw [show (s.setPort l (s.port l).hunt).staged.stage? i w = some p from staged]

/-! LOCK (R165). -/

/-- The set of a LOCK: the locked items as they are active, the others as they are staged. -/
theorem withLockedOf_wire (p q : Params) (i : Item) : (p.withLockedOf q).wire i = if i.locked = true then q.wire i else p.wire i := by
  cases i <;> rfl

theorem requestLock_eq {l : Link} {s : State} (right : (s.right l).config = true) : requestLock l [] s = (s.setLock, .ok []) :=
  whenConfig_of_right (f := fun s => (s.setLock, .ok [])) right

/-- Settles O48: a LOCK takes back the staged locked items, and a STAGE of one is then refused. -/
theorem lockFreezesItems : Obligations.LockFreezesItems := by
  unfold Obligations.LockFreezesItems
  intro l tag i w s ready right
  have effect := requestLock_eq (s := s.setPort l (s.port l).hunt) right
  refine ⟨fun locked => ⟨?_, fun item => ?_⟩, fun unlocked => ?_⟩
  · have kept : (s.setPort l (s.port l).hunt).setLock = s.setPort l (s.port l).hunt := if_pos locked
    rw [kept] at effect
    exact answerRequest_of_ports_kept ready effect rfl
  · exact answerRequest_of_refused ready (requestStage_locked right (itemOfBytes?_byte_id i) locked item)
  · have set : (s.setPort l (s.port l).hunt).setLock = { s.setPort l (s.port l).hunt with
        locked := true, staged := s.staged.withLockedOf s.active } := if_neg (by rw [setPort_locked, unlocked]; decide)
    rw [set] at effect
    exact ⟨s.staged.withLockedOf s.active, answerRequest_of_ports_kept ready effect rfl, withLockedOf_wire _ _ _⟩

end Sys2Proof.Machine
end

section
/-! The records of a READ: their lengths (R182, R184), their answers (R172) and their latches (R174). -/

namespace Sys2Proof.Machine

/-! Lengths of fields. -/

@[simp] theorem bytes16_length (w : BitVec 16) : (bytes16 w).length = 2 := rfl
@[simp] theorem bytes32_length (w : BitVec 32) : (bytes32 w).length = 4 := rfl
@[simp] theorem u16_length (n : Nat) : (u16 n).length = 2 := rfl
@[simp] theorem s16_length (i : Int) : (s16 i).length = 2 := rfl
@[simp] theorem u32_length (n : Nat) : (u32 n).length = 4 := rfl
@[simp] theorem s32_length (i : Int) : (s32 i).length = 4 := rfl
@[simp] theorem u16?_length (o : Option Nat) : (u16? o).length = 2 := by cases o <;> rfl
@[simp] theorem s16?_length (o : Option Int) : (s16? o).length = 2 := by cases o <;> rfl

@[simp] theorem padded_length (n : Nat) (bs : List Byte) : (padded n bs).length = n := by
  simp only [padded, List.length_append, List.length_take, List.length_replicate]
  omega

@[simp] theorem latchBytes_length {n : Nat} (x : Option (Latch n)) : (latchBytes x).length = 5 := by
  cases x <;> simp [latchBytes]

@[simp] theorem channelValue_length (c : Channel) (v : Option Int) : (channelValue c v).length = 2 := by
  unfold channelValue
  split <;> simp

@[simp] theorem selection_bytes_length (x : Selection) : x.bytes.length = 3 := by cases x <;> rfl

@[simp] theorem changeoverBytes_length (r : Option Changeover) : (changeoverBytes r).length = 9 := by
  cases r <;> simp [changeoverBytes]

@[simp] theorem effective_bytes_length (e : Effective) : e.bytes.length = 7 := by simp [Effective.bytes]

@[simp] theorem lineRec_bytes_length (r : LineRec) : r.bytes.length = 4 := by simp [LineRec.bytes]

@[simp] theorem outputBytes_length (s : State) (o : Fin 24) : (s.outputBytes o).length = 5 := by simp [State.outputBytes]

@[simp] theorem memberBytes_length (s : State) (h : Shaft) (k : Train) : (s.memberBytes h k).length = 13 := by
  unfold State.memberBytes
  split <;> simp

theorem flatMap_length_const {α : Type} {f : α → List Byte} {n : Nat} (each : ∀ x, (f x).length = n) (xs : List α) :
    (xs.flatMap f).length = xs.length * n := by
  simp [List.length_flatMap, each]

@[simp] theorem decisionBytes_length (d : Option Decision) : (decisionBytes d).length = 35 := by
  cases d <;> simp [decisionBytes, Vec.len]

/-- Settles O50: each record's fields have the lengths of the layout. -/
theorem recordLengths : Obligations.RecordLengths := by
  unfold Obligations.RecordLengths
  intro s l c st k h q
  refine ⟨?_, ?_, ?_, ?_, ?_, ?_, ?_, ?_, ?_, ?_, ?_⟩
  · simp [State.identityRecord]
  · simp [State.linkStatusRecord]
  · simp [State.channelRecord]
  · simp [State.stationRecord]
  · simp [State.referenceRecord]
  · simp [State.demandsRecord]
  · exact decisionBytes_length _
  · have slots : ((s.bank k).slots.toList.flatMap fun r => [flagByte r.asserted, byte r.counter, byte r.lastRaw.code]).length = 8 * 3 := by
      rw [flatMap_length_const (n := 3) (fun _ => rfl), Vec.len]
    simp [State.trainRecord, State.bankBytes, slots]
  · simp [State.trainRecord, State.sequencerBytes]
  · have outputs : ((outputsOf k).flatMap s.outputBytes).length = 3 * 5 := flatMap_length_const (outputBytes_length s) _
    have lines : (s.lines.toList.flatMap LineRec.bytes).length = 4 * 4 := by
      rw [flatMap_length_const lineRec_bytes_length, Vec.len]
    simp [State.trainRecord, State.driveBytes, outputs, lines]
  · match q with
    | 0 => simp [State.shaftRecord, State.shaftBytes]
    | 1 => simp [State.shaftRecord]
    | 2 => simp [State.shaftRecord]

/-! READ (R172). -/

section
variable {s : State} {l : Link} {tag : Byte}

/-- A READ that only answers: its record, made of the hunting state, and nothing else changed. -/
theorem answerRequest_of_record {kind : Byte} {f : RequestMeaning} {data : List Byte} (ready : s.ready l)
    (record : f (s.setPort l (s.port l).hunt) = (s.setPort l (s.port l).hunt, .ok data)) :
    answerRequest l kind tag f s = .next { s with ports := s.repliedPorts l kind tag .ok data } :=
  answerRequest_of_ports_kept ready record rfl

theorem readIndexed_byte {n : Nat} (small : n ≤ 256) (record : State → Fin n → List Byte) (i : Fin n) (s : State) :
    readIndexed [byte i.val] (indexByte? n) record s = (s, .ok (record s i)) := by
  simp only [readIndexed, indexByte?_byte small]

theorem readSection_bytes {n m : Nat} (small : n ≤ 256) (small' : m ≤ 256) (record : State → Fin n → Fin m → List Byte) (i : Fin n)
    (j : Fin m) (s : State) : readSection n m [byte i.val, byte j.val] record s = (s, .ok (record s i j)) := by
  simp only [readSection, indexByte?_byte small, indexByte?_byte small']

theorem readItem_bytes (record : State → Item → List Byte) (i : Item) (s : State) :
    readItem i.bytes record s = (s, .ok (record s i)) := by
  simp only [readItem, Item.bytes, itemOfBytes?_byte_id]

theorem linkByte?_byte (m : Link) : linkByte? (byte (linkIndex m).val) = some m := by cases m <;> rfl

theorem linkStatusRecord_hunting (m : Link) : (s.setPort l (s.port l).hunt).linkStatusRecord m = s.linkStatusRecord m := by
  have port : (s.setPort l (s.port l).hunt).port m = if l = m then (s.port m).hunt else s.port m := by
    rw [setPort_port]
    split
    · next same => rw [same]
    · rfl
  unfold State.linkStatusRecord
  rw [port]
  split <;> rfl

end

/-- Settles O49: each record read by its index, and the two since-read flags cleared after the record is made. -/
theorem readsAnswerRecords : Obligations.ReadsAnswerRecords := by
  unfold Obligations.ReadsAnswerRecords
  intro l m tag c st k h p q i s ready answered
  refine ⟨answerRequest_of_record ready rfl, answerRequest_of_record ready (readIndexed_byte (by decide) _ c _),
    answerRequest_of_record ready (readIndexed_byte (by decide) _ st _),
    answerRequest_of_record ready (readSection_bytes (by decide) (by decide) _ k p _),
    answerRequest_of_record ready (readIndexed_byte (by decide) _ k _),
    answerRequest_of_record ready (readSection_bytes (by decide) (by decide) _ h q _),
    answerRequest_of_record ready (readItem_bytes _ i _), answerRequest_of_record ready (readItem_bytes _ i _), ?_, ?_⟩
  · exact ⟨_, answerRequest_of_ports_kept (t := (s.setPort l (s.port l).hunt).clearLostSinceRead) (r := .ok s.referenceRecord) ready rfl rfl,
      rfl⟩
  · have effect : requestReadLinkStatus [byte (linkIndex m).val] (s.setPort l (s.port l).hunt) =
        ((s.setPort l (s.port l).hunt).clearDropped m, .ok (s.linkStatusRecord m)) := by
      simp only [requestReadLinkStatus, linkByte?_byte, linkStatusRecord_hunting]
    obtain ⟨live, transmitterIdle⟩ := ready
    refine ⟨_, (answerRequest_live live).trans (congrArg _ (answer_idle transmitterIdle _ _ _)), ?_⟩
    rw [effect]
    refine ⟨rfl, fun x => ?_⟩
    simp only [State.clearDropped, setPort_port]
    rcases eq_or_ne l x with rfl | own
    · rcases eq_or_ne m l with rfl | named
      · simp only [if_true]
        rfl
      · simp only [if_true, if_neg named, if_neg (Ne.symm named)]
        rfl
    · rcases eq_or_ne m x with rfl | named
      · simp only [if_true, if_neg own, if_neg (Ne.symm own)]
      · simp only [if_neg own, if_neg (Ne.symm own), if_neg named, if_neg (Ne.symm named)]

/-! Latches (R174). -/

theorem trainsLatch_get (s : State) (k : Train) (p : Fin 4) :
    s.trainsLatch.records.get ⟨4 * k.val + p.val, by omega⟩ = s.trainRecord k p := by
  have index : (4 * k.val + p.val) / 4 = k.val ∧ (4 * k.val + p.val) % 4 = p.val := by omega
  simp only [State.trainsLatch, Vec.get_ofFn, index]

theorem shaftsLatch_get (s : State) (h : Shaft) (q : Fin 3) :
    s.shaftsLatch.records.get ⟨3 * h.val + q.val, by omega⟩ = s.shaftRecord h q := by
  have index : (3 * h.val + q.val) / 3 = h.val ∧ (3 * h.val + q.val) % 3 = q.val := by omega
  simp only [State.shaftsLatch, Vec.get_ofFn, index]

theorem referenceLatch_get (s : State) (st : Station) : s.referenceLatch.records.get ⟨st.val, by omega⟩ = s.stationRecord st := by
  simp [State.referenceLatch]

theorem referenceLatch_get_last (s : State) : s.referenceLatch.records.get 4 = s.referenceRecord := by
  simp [State.referenceLatch]

section
variable {s : State} {l : Link} {tag : Byte}

/-- A LATCH leaves its copy at the link beside the response. -/
theorem answerRequest_of_latch {kind : Byte} {f : RequestMeaning} {t : State} {p : LinkPort} {r : Reply} (ready : s.ready l)
    (effect : f (s.setPort l (s.port l).hunt) = ((t.setPort l p), r)) (ports : t.ports = (s.setPort l (s.port l).hunt).ports) :
    answerRequest l kind tag f s = .next { t with
      ports := s.ports.set (linkIndex l) { p with sending := some ⟨kind ||| 0x80, tag, r.status, r.data⟩ } } := by
  obtain ⟨live, transmitterIdle⟩ := ready
  rw [answerRequest_live live, answer_idle transmitterIdle, effect, setPort_port_self]
  unfold State.setPort
  dsimp only
  rw [Vec.set_set, ports, setPort_ports, Vec.set_set]

theorem requestReadLatched_trains (k : Train) (p : Fin 4) : requestReadLatched l [0, byte k.val, byte p.val] s =
    (s, latchedReply (s.port l).latchTrains ⟨4 * k.val + p.val, by omega⟩) := by
  simp [requestReadLatched, scopeTrains, latchedPosition, indexByte?_byte]

theorem requestReadLatched_shafts (h : Shaft) (q : Fin 3) : requestReadLatched l [2, byte h.val, byte q.val] s =
    (s, latchedReply (s.port l).latchShafts ⟨3 * h.val + q.val, by omega⟩) := by
  simp [requestReadLatched, scopeTrains, scopeReference, scopeShafts, latchedPosition, indexByte?_byte]

theorem requestReadLatched_station (st : Station) : requestReadLatched l [1, byte st.val] s =
    (s, latchedReply (s.port l).latchReference ⟨st.val, by omega⟩) := by
  have below : byte st.val ≠ 0xFF := by
    intro same
    have value := congrArg BitVec.toNat same
    rw [toNat_byte_of_lt (by omega)] at value
    have : st.val = 255 := value
    omega
  have position : referencePosition? (byte st.val) = some ⟨st.val, by omega⟩ := by
    rw [referencePosition?, if_neg below, indexByte?_byte (by decide)]
    rfl
  simp [requestReadLatched, scopeTrains, scopeReference, position]

theorem requestReadLatched_reference : requestReadLatched l [1, 0xFF] s = (s, latchedReply (s.port l).latchReference 4) := rfl

end

/-- Settles O51: the copies by their positions, and what a latch held or not held answers. -/
theorem latchesFreezeRecords : Obligations.LatchesFreezeRecords := by
  unfold Obligations.LatchesFreezeRecords
  intro l tag k p h q st s ready
  have self : (s.setPort l (s.port l).hunt).port l = (s.port l).hunt := setPort_port_self s l _
  have trains : (s.port l).latchTrains = ((s.setPort l (s.port l).hunt).port l).latchTrains := by rw [self]; rfl
  have reference : (s.port l).latchReference = ((s.setPort l (s.port l).hunt).port l).latchReference := by rw [self]; rfl
  have shafts : (s.port l).latchShafts = ((s.setPort l (s.port l).hunt).port l).latchShafts := by rw [self]; rfl
  refine ⟨⟨(s.setPort l (s.port l).hunt).trainsLatch, ?_, rfl, trainsLatch_get _ k p⟩,
    ⟨(s.setPort l (s.port l).hunt).referenceLatch, ?_, rfl, referenceLatch_get _ st, referenceLatch_get_last _⟩,
    ⟨(s.setPort l (s.port l).hunt).shaftsLatch, ?_, rfl, shaftsLatch_get _ h q⟩, ?_⟩
  · refine answerRequest_of_latch (t := s.setPort l (s.port l).hunt) (r := .ok (uptimeBytes s.uptime))
      (p := { (s.port l).hunt with latchTrains := some (s.setPort l (s.port l).hunt).trainsLatch }) ready ?_ rfl
    unfold requestLatchTrains
    rw [whenEmpty_nil, self]
    rfl
  · refine answerRequest_of_latch (t := (s.setPort l (s.port l).hunt).clearLostSinceRead) (r := .ok (uptimeBytes s.uptime))
      (p := { (s.port l).hunt with latchReference := some (s.setPort l (s.port l).hunt).referenceLatch }) ready ?_ rfl
    unfold requestLatchReference
    rw [whenEmpty_nil, self]
    rfl
  · refine answerRequest_of_latch (t := s.setPort l (s.port l).hunt) (r := .ok (uptimeBytes s.uptime))
      (p := { (s.port l).hunt with latchShafts := some (s.setPort l (s.port l).hunt).shaftsLatch }) ready ?_ rfl
    unfold requestLatchShafts
    rw [whenEmpty_nil, self]
    rfl
  intro answered
  rw [trains, reference, shafts]
  refine ⟨fun x held => ?_, fun missing => ?_, fun x held => ⟨?_, ?_⟩, fun missing => ⟨?_, ?_⟩, fun x held => ?_, fun missing => ?_⟩
  · exact answerRequest_of_record ready (by rw [requestReadLatched_trains, held]; rfl)
  · exact answerRequest_of_refused ready (by rw [requestReadLatched_trains, missing]; rfl)
  · exact answerRequest_of_record ready (by rw [requestReadLatched_station, held]; rfl)
  · exact answerRequest_of_record ready (by rw [requestReadLatched_reference, held]; rfl)
  · exact answerRequest_of_refused ready (by rw [requestReadLatched_station, missing]; rfl)
  · exact answerRequest_of_refused ready (by rw [requestReadLatched_reference, missing]; rfl)
  · exact answerRequest_of_record ready (by rw [requestReadLatched_shafts, held]; rfl)
  · exact answerRequest_of_refused ready (by rw [requestReadLatched_shafts, missing]; rfl)

end Sys2Proof.Machine
end

section
/-! The Notice Table's own event and its three requests (R176 to R179). -/

namespace Sys2Proof.Machine

section
variable {c : Condition} {e x : NoticeEntry} {es : List NoticeEntry}

/-- The entry of the condition of a raise, after it was handled (R177). -/
theorem mem_raiseEntries_self {r : Raise} (ordered : Ordered es) (same : e.cond = r.condition) : e ∈ raiseEntries r es ↔ (match r with
    | .edge _ => (e = ⟨r.condition, 1, false⟩ ∧ ∀ y ∈ es, y.cond ≠ r.condition) ∨
        ∃ y ∈ es, y.cond = r.condition ∧ e = { y with count := min (y.count + 1) 255 }
    | .begins _ => e = ⟨r.condition, 1, false⟩
    | .ends _ => False) := by
  cases r with
  | edge c => exact (mem_fileEdge ordered).trans (or_iff_right fun other => other.1 same)
  | begins c => exact (mem_fileLevel ordered).trans (or_iff_right fun other => other.1 same)
  | ends c => exact mem_removeCondition.trans (iff_false_intro fun kept => kept.2 same)

/-- Every other entry is as it was. -/
theorem mem_raiseEntries_ne {r : Raise} (ordered : Ordered es) (other : e.cond ≠ r.condition) : e ∈ raiseEntries r es ↔ e ∈ es := by
  cases r with
  | edge c =>
    refine (mem_fileEdge ordered).trans ⟨?_, fun he => .inl ⟨other, he⟩⟩
    rintro (⟨-, he⟩ | ⟨rfl, -⟩ | ⟨y, -, same, rfl⟩)
    · exact he
    · exact absurd rfl other
    · exact absurd same other
  | begins c =>
    refine (mem_fileLevel ordered).trans ⟨?_, fun he => .inl ⟨other, he⟩⟩
    rintro (⟨-, he⟩ | rfl)
    · exact he
    · exact absurd rfl other
  | ends c => exact mem_removeCondition.trans (and_iff_left other)

theorem raiseEntries_ordered (r : Raise) (ordered : Ordered es) : Ordered (raiseEntries r es) := by
  cases r with
  | edge c => exact fileEdge_ordered ordered
  | begins c => exact fileLevel_ordered ordered
  | ends c => exact removeCondition_ordered ordered

/-! A TAKE of an entry and an ACK of a condition. -/

theorem takeEntry_edge (edge : x.cond.cls.level = false) : takeEntry x es = es.filter (fun y => y.cond ≠ x.cond) := by
  rw [takeEntry, edge]
  rfl

theorem takeEntry_level (level : x.cond.cls.level = true) :
    takeEntry x es = es.map fun e => if e.cond = x.cond then { e with taken := true } else e := if_pos level

theorem mem_takeEntry_other (he : e ∈ es) (other : e.cond ≠ x.cond) : e ∈ takeEntry x es := by
  cases level : x.cond.cls.level with
  | false =>
    rw [takeEntry_edge level]
    exact List.mem_filter.2 ⟨he, decide_eq_true other⟩
  | true =>
    rw [takeEntry_level level]
    exact List.mem_map.2 ⟨e, he, if_neg other⟩

theorem map_cond_count {f : NoticeEntry → NoticeEntry} (keeps : ∀ e, (f e).cond = e.cond ∧ (f e).count = e.count) :
    (es.map f).map (fun x => (x.cond, x.count)) = es.map fun x => (x.cond, x.count) := by
  rw [List.map_map]
  refine List.map_congr_left fun e _ => ?_
  exact Prod.ext (keeps e).1 (keeps e).2

theorem mem_ackCondition_other (he : e ∈ es) (other : e.cond ≠ c) : e ∈ ackCondition c es :=
  List.mem_map.2 ⟨e, he, by simp [other]⟩

/-- After an ACK the condition's entry is pending: it was taken only if its class is a level class. -/
theorem ackCondition_untaken (sound : ∀ e ∈ es, e.sound) (he : e ∈ ackCondition c es) (same : e.cond = c) : e.taken = false := by
  obtain ⟨y, hy, rfl⟩ := List.mem_map.1 he
  have cond : y.cond = c := by
    rw [← same]
    split <;> rfl
  split
  · rfl
  · next edge =>
    obtain ⟨-, -, -, taken⟩ := sound y hy
    refine Bool.eq_false_iff.2 fun mark => edge ?_
    rw [← cond, taken mark]
    simp

end

/-! The requests. -/

section
variable {s : State} {l : Link} {e : NoticeEntry}

theorem requestPeek_some (first : firstUntaken (s.notice l).entries = some e) : requestPeek l [] s = (s, .ok e.bytes) := by
  rw [requestPeek, whenEmpty_nil, first]

theorem requestTake_some (first : firstUntaken (s.notice l).entries = some e) :
    requestTake l [] s = (s.setEntries l (takeEntry e (s.notice l).entries), .ok e.bytes) := by
  rw [requestTake, whenEmpty_nil, first]

theorem requestPeek_none (taken : firstUntaken (s.notice l).entries = none) : requestPeek l [] s = refuse .empty s := by
  rw [requestPeek, whenEmpty_nil, taken]

theorem requestTake_none (taken : firstUntaken (s.notice l).entries = none) : requestTake l [] s = refuse .empty s := by
  rw [requestTake, whenEmpty_nil, taken]

theorem requestAck_none {cls subject : Byte} (none : condition? cls subject = none) :
    requestAck l [cls, subject] s = refuse .badIndex s := by
  simp only [requestAck, none]

theorem requestAck_some {cls subject : Byte} {c : Condition} (some : condition? cls subject = some c) :
    requestAck l [cls, subject] s = (s.setEntries l (ackCondition c (s.notice l).entries), .ok []) := by
  simp only [requestAck, some]

/-- A request that changes the link's own set alone: the line follows the set, and the other links keep theirs. -/
theorem answerRequest_of_entries {kind tag : Byte} {f : RequestMeaning} {es : List NoticeEntry} {r : Reply} (ready : s.ready l)
    (effect : f (s.setPort l (s.port l).hunt) = ((s.setPort l (s.port l).hunt).setEntries l es, r)) :
    ∃ t, answerRequest l kind tag f s = .next t ∧
      t = { s with ports := s.repliedPorts l kind tag r.status r.data, notices := t.notices } ∧
      t.notice l = ⟨es, asksAttention es⟩ ∧ ∀ m, m ≠ l → t.notice m = s.notice m :=
  ⟨_, answerRequest_of_ports_kept ready effect rfl, rfl, (setEntries_notice _ l l es).trans (if_pos rfl),
    fun m other => (setEntries_notice (s.setPort l (s.port l).hunt) l m es).trans (if_neg (Ne.symm other))⟩

end

/-- Settles O52: the raise at the head of the list as `fileRaise` handles it, and the three requests by what they do to the link's set. -/
theorem noticesTaken : Obligations.NoticesTaken := by
  unfold Obligations.NoticesTaken
  refine ⟨fun x more s empty raised live notices held => ?_, fun l tag s ready pending => ?_⟩
  · intro c
    have stepped : step s = .next ((s.setRaised more).fileRaise x) := by
      rw [step, empty]
      exact idle_live live raised
    refine ⟨_, stepped, by rw [fileRaise_frame]; rfl, ?_, fun d => ?_, fun l => ⟨fun route => ?_, fun route => ?_⟩⟩
    · rw [fileRaise_held]
      exact raiseHeld_ordered x held.order
    · rw [fileRaise_held, mem_raiseHeld]
      cases x <;> rfl
    · rw [fileRaise_notice]
      exact if_neg (by rw [Bool.not_eq_true]; exact route)
    · have ordered : Ordered (s.notice l).entries := (notices l).order
      have entries : ((s.setRaised more).fileRaise x).notice l =
          ⟨raiseEntries x (s.notice l).entries, asksAttention (raiseEntries x (s.notice l).entries)⟩ := by
        rw [fileRaise_notice]
        exact if_pos route
      rw [entries]
      refine ⟨raiseEntries_ordered x ordered, asksAttention_iff, fun e other => mem_raiseEntries_ne ordered other, fun e same => ?_⟩
      refine (mem_raiseEntries_self ordered same).trans ?_
      cases x <;> rfl
  · refine ⟨fun e first => ⟨answerRequest_of_record ready (requestPeek_some first), ?_⟩, fun taken => ?_, fun cls subject none =>
      answerRequest_of_refused ready (requestAck_none none), fun cls subject c some => ?_⟩
    · obtain ⟨t, run, frame, self, other⟩ :=
        answerRequest_of_entries (tag := tag) (kind := kindTake) ready (requestTake_some (s := s.setPort l (s.port l).hunt) first)
      refine ⟨t, run, ?_⟩
      rw [self]
      refine ⟨takeEntry_edge, fun level => ?_, fun level => ?_, fun x hx => mem_takeEntry_other hx, asksAttention_iff, other, frame⟩
      · rw [takeEntry_level level]
        exact List.mem_map.2 ⟨e, List.mem_of_find?_eq_some first, if_pos rfl⟩
      · rw [takeEntry_level level]
        exact map_cond_count fun y => by split <;> exact ⟨rfl, rfl⟩
    · have first : firstUntaken (s.notice l).entries = none := List.find?_eq_none.2 fun x hx => by simp [taken x hx]
      exact ⟨answerRequest_of_refused ready (requestPeek_none first), answerRequest_of_refused ready (requestTake_none first)⟩
    · obtain ⟨t, run, frame, self, other⟩ :=
        answerRequest_of_entries (tag := tag) (kind := kindAck) ready (requestAck_some (s := s.setPort l (s.port l).hunt) some)
      refine ⟨t, run, ?_⟩
      rw [self]
      exact ⟨fun x hx => ackCondition_untaken pending.entries hx, map_cond_count fun y => by split <;> exact ⟨rfl, rfl⟩,
        fun x hx => mem_ackCondition_other hx, asksAttention_iff, other, frame⟩

end Sys2Proof.Machine
end

section
/-! A shaft recomputed by a hand-off (R123 to R126): which entries it changes, and what it hands to the Drive Stage. -/

namespace Sys2Proof.Machine

/-- What a grant hands to the Drive Stage: the grant, where it has changed or is new (R126). -/
def grantNews (before : Option Share) (k : Train) (g : Nat) : Option Handoff :=
  if before.map (·.grant) = some g then none else some (.drive k (.grant g))

section
variable (f : Figures) (a : Ask) (s : State)

theorem setGrant_handoffs : (State.setGrant f a s).handoffs =
    s.handoffs ++ (grantNews (s.share a.train).share a.train (grantOf f a)).toList := by
  unfold State.setGrant grantNews
  dsimp only
  split
  · exact (List.append_nil _).symm
  · rfl

theorem setGrant_share_ne {k : Train} (other : a.train ≠ k) : (State.setGrant f a s).share k = s.share k := by
  rw [setGrant_share, if_neg other]

/-- A grant changes no more of an entry than its min, req and grant. -/
theorem setGrant_share_kept (k : Train) : ((State.setGrant f a s).share k).basis = (s.share k).basis ∧
    ((State.setGrant f a s).share k).allocated = (s.share k).allocated ∧
    ((State.setGrant f a s).share k).request = (s.share k).request := by
  rw [setGrant_share]
  split
  · next same => rw [same]; exact ⟨rfl, rfl, rfl⟩
  · exact ⟨rfl, rfl, rfl⟩

end

theorem forEach_setGrant_handoffs (f : Figures) (s₀ : State) {ks : List Train} (nodup : ks.Nodup) (s : State)
    (same : ∀ k ∈ ks, (s.share k).share = (s₀.share k).share) : (forEach (ks.map s₀.ask) (State.setGrant f) s).handoffs =
      s.handoffs ++ ks.filterMap fun k => grantNews (s₀.share k).share k (grantOf f (s₀.ask k)) := by
  induction ks generalizing s with
  | nil => exact (List.append_nil _).symm
  | cons k ks ih =>
    obtain ⟨fresh, nodup⟩ := List.nodup_cons.1 nodup
    have later : ∀ j ∈ ks, ((State.setGrant f (s₀.ask k) s).share j).share = (s₀.share j).share := fun j hj => by
      rw [setGrant_share_ne f _ s (show k ≠ j from fun e => fresh (e ▸ hj)), same j (List.mem_cons_of_mem k hj)]
    rw [List.map_cons, forEach_cons, ih nodup _ later, setGrant_handoffs, ask_train, same k List.mem_cons_self, List.append_assoc,
      List.filterMap_cons]
    cases grantNews (s₀.share k).share k (grantOf f (s₀.ask k)) <;> rfl

section
variable (s : State) (h : Shaft)

theorem mem_allocatedMembers {k : Train} : k ∈ s.allocatedMembers h ↔ s.shaftOf k = h ∧ (s.share k).allocated = true := by
  have all : k ∈ allTrains := mem_allTrains k
  simp only [State.allocatedMembers, membersOf, List.mem_filter, all, true_and, decide_eq_true_eq]
  rfl

theorem allocatedMembers_nodup : (s.allocatedMembers h).Nodup := (allTrains_nodup.filter _).filter _

theorem recomputeShaft_share_kept (k : Train) : ((s.recomputeShaft h).share k).basis = (s.share k).basis ∧
    ((s.recomputeShaft h).share k).allocated = (s.share k).allocated ∧
    ((s.recomputeShaft h).share k).request = (s.share k).request := by
  rw [recomputeShaft_eq]
  refine forEach_induct (P := fun t => (t.share k).basis = (s.share k).basis ∧ (t.share k).allocated = (s.share k).allocated ∧
    (t.share k).request = (s.share k).request) (fun a _ t kept => ?_) ⟨rfl, rfl, rfl⟩
  obtain ⟨basis, allocated, request⟩ := setGrant_share_kept (s.shaftFigures h) a t k
  exact ⟨basis.trans kept.1, allocated.trans kept.2.1, request.trans kept.2.2⟩

theorem recomputeShaft_share_other {k : Train} (other : k ∉ s.allocatedMembers h) : (s.recomputeShaft h).share k = s.share k := by
  rw [recomputeShaft_eq]
  refine forEach_induct (P := fun t => t.share k = s.share k) (fun a ha t kept => ?_) rfl
  obtain ⟨j, hj, rfl⟩ := List.mem_map.1 ha
  rw [setGrant_share_ne _ _ _ (show j ≠ k from fun e => other (e ▸ hj)), kept]

theorem recomputeShaft_shaft_ne {g : Shaft} (other : g ≠ h) : (s.recomputeShaft h).shaft g = s.shaft g := by
  rw [recomputeShaft_eq]
  refine forEach_induct (P := fun t => t.shaft g = s.shaft g) (fun a _ t kept => (setGrant_shaft _ _ _ _).trans kept) ?_
  exact Vec.get_set_ne _ (Ne.symm other) _

theorem recomputeShaft_handoffs : (s.recomputeShaft h).handoffs = s.handoffs ++ (s.allocatedMembers h).filterMap fun k =>
    grantNews (s.share k).share k (grantOf (s.shaftFigures h) (s.ask k)) := by
  rw [recomputeShaft_eq]
  exact forEach_setGrant_handoffs _ s (allocatedMembers_nodup s h) _ fun _ _ => rfl

theorem recomputeShaft_allocatedMembers : (s.recomputeShaft h).allocatedMembers h = s.allocatedMembers h := by
  have active : (s.recomputeShaft h).active = s.active := (recomputeShaft_same s h).active
  unfold State.allocatedMembers
  rw [active]
  exact List.filter_congr fun k _ => (recomputeShaft_share_kept s h k).2.1

theorem recomputeShaft_ask (k : Train) : (s.recomputeShaft h).ask k = s.ask k := by
  have active : (s.recomputeShaft h).params k = s.params k := congrArg (Params.train · k) (recomputeShaft_same s h).active
  obtain ⟨basis, -, request⟩ := recomputeShaft_share_kept s h k
  unfold State.ask
  dsimp only
  rw [active, basis, request]

end

theorem figures_eq (cap : Int) (asks : List Ask) : (figures cap asks).sumReq = (asks.map fun x => x.req * x.q).sum ∧
    (figures cap asks).sumMin = (asks.map fun x => x.min * x.q).sum ∧ (figures cap asks).avail = cap - (figures cap asks).sumMin ∧
    (figures cap asks).excess = (asks.map fun x => (x.req - x.min) * x.q).sum ∧
    ((figures cap asks).allocCase = .unconstrained ↔ ((figures cap asks).sumReq : Int) ≤ cap) :=
  ⟨rfl, rfl, rfl, rfl, figures_unconstrained_iff cap asks⟩

theorem recomputeShaft_lists (s : State) (h : Shaft) : ((s.recomputeShaft h).shaft h).holders = (s.shaft h).holders ∧
    ((s.recomputeShaft h).shaft h).waitList = (s.shaft h).waitList := by
  rw [recomputeShaft_shaft_self, setFigures_shaft_self]
  exact ⟨rfl, rfl⟩

/-- A member's entry as a basis hand-off leaves it, before the recomputation (R123). -/
def AllocEntry.based (e : AllocEntry) (b : OaBasis) (allocated : Bool) : AllocEntry :=
  { e with allocated := allocated, basis := b, share := if allocated then e.share else none }

theorem based_share_self (s : State) (k : Train) (rest : List Handoff) (e : AllocEntry) :
    ((s.setHandoffs rest).setShare k e).share k = e := setShare_share_self _ k e

theorem exec_shaftRecompute_basis {s : State} {k : Train} {b : OaBasis} {a : Bool} (live : s.live)
    (found : s.handoffs.find? (Handoff.isShaft k .sequencer) = some (.shaft k (.basis b a))) :
    exec (.shaftRecompute k .sequencer) s = .next
      (((s.setHandoffs (s.handoffs.eraseP (Handoff.isShaft k .sequencer))).setShare k ((s.share k).based b a)).recomputeShaft
        (s.shaftOf k)) := by
  show execShaftRecompute k .sequencer s = _
  rw [execShaftRecompute, takeEvent_live live, takeHandoff_of_find found]
  rfl

theorem exec_shaftRecompute_request {s : State} {k : Train} {v : Nat} (live : s.live)
    (found : s.handoffs.find? (Handoff.isShaft k .driveStage) = some (.shaft k (.request v))) :
    exec (.shaftRecompute k .driveStage) s = .next
      ((s.setHandoffs (s.handoffs.eraseP (Handoff.isShaft k .driveStage))).takeRequest k v) := by
  show execShaftRecompute k .driveStage s = _
  rw [execShaftRecompute, takeEvent_live live, takeHandoff_of_find found]

/-- The economizer request lies between OA_min and 1000 (R142). -/
theorem economizerRise {oaMin : Nat} {d : Int} (low : oaMin ≤ 1000) (size : -100 ≤ d) :
    (oaMin : Int) ≤ oaMin + roundDiv ((1000 - (oaMin : Int)) * max 0 (-d)) 100 ∧
    oaMin + roundDiv ((1000 - (oaMin : Int)) * max 0 (-d)) 100 ≤ 1000 := by
  have span : 0 ≤ 1000 - (oaMin : Int) := by omega
  have rise : 0 * 100 ≤ (1000 - (oaMin : Int)) * max 0 (-d) := by
    rw [zero_mul]
    exact mul_nonneg span (le_max_left _ _)
  have most : (1000 - (oaMin : Int)) * max 0 (-d) ≤ (1000 - oaMin) * 100 :=
    mul_le_mul_of_nonneg_left (max_le (by decide) (by omega)) span
  have := le_roundDiv (by decide) rise
  have := roundDiv_le (by decide) most
  omega

/-- Settles O35: a hand-off stored, and the shaft recomputed from it. -/
theorem shaftRecomputed : Obligations.ShaftRecomputed := by
  unfold Obligations.ShaftRecomputed
  intro k s live h cap recomputed
  have recomputes : ∀ (shares : Vec 8 AllocEntry) (rest : List Handoff) (u : State), u = { s with shares := shares, handoffs := rest } →
      (∀ j, j ≠ k → u.share j = s.share j) → ((u.share k).allocated = true → (u.share k).share = (s.share k).share) →
      recomputed rest (u.recomputeShaft h) := by
    intro shares rest u frame others own
    have active : u.active = s.active := by rw [frame]
    have member : s.shaftOf k = h := rfl
    have stored : ∀ j ∈ u.allocatedMembers h, (u.share j).share = (s.share j).share := fun j hj => by
      by_cases same : j = k
      · rw [same] at hj ⊢
        exact own ((mem_allocatedMembers u h).1 hj).2
      · rw [others j same]
    obtain ⟨sumMin, sumReq, avail, excess, allocCase⟩ := recomputeShaft_figures u h
    obtain ⟨sumReqIs, sumMinIs, availIs, excessIs, caseIs⟩ := figures_eq (capF u.active h) ((u.allocatedMembers h).map u.ask)
    obtain ⟨holders, waitList⟩ := recomputeShaft_lists u h
    have asked : (u.recomputeShaft h).ask = u.ask := funext (recomputeShaft_ask u h)
    have capIs : capF u.active h = cap := by rw [active]; rfl
    dsimp only [recomputed]
    rw [sumMin, sumReq, avail, excess, allocCase, holders, waitList, asked, recomputeShaft_allocatedMembers]
    refine ⟨sumReqIs, sumMinIs, by rw [← capIs]; exact availIs, excessIs, by rw [frame]; rfl, by rw [frame]; rfl,
      by rw [← capIs]; exact caseIs, fun j hj => ⟨_, recomputeShaft_share hj, rfl, rfl, grantOf_unconstrained _, grantOf_minimum _,
        grantOf_proportional _⟩, ?_, fun g other => ?_, fun j other => ?_, ?_⟩
    · rw [recomputeShaft_handoffs]
      refine congr (congrArg _ (by rw [frame])) (List.filterMap_congr fun j hj => ?_)
      rw [recomputeShaft_share hj, stored j hj]
      rfl
    · rw [recomputeShaft_shaft_ne u h other, frame]
      rfl
    · have outside : j ∉ u.allocatedMembers h := fun hj => other ((by rw [frame]; rfl : u.shaftOf j = s.shaftOf j) ▸ ((mem_allocatedMembers u h).1 hj).1)
      rw [recomputeShaft_share_other u h outside, others j fun same => other (same ▸ member)]
    · have same := recomputeShaft_same u h
      unfold SameButShafts at same
      rw [frame] at same ⊢
      exact same
  refine ⟨fun b a found => ?_, fun v found => ?_, fun found => ?_⟩
  · have self := based_share_self s k (s.handoffs.eraseP (Handoff.isShaft k .sequencer)) ((s.share k).based b a)
    have kept := recomputeShaft_share_kept
      ((s.setHandoffs (s.handoffs.eraseP (Handoff.isShaft k .sequencer))).setShare k ((s.share k).based b a)) h k
    rw [self] at kept
    obtain ⟨basis, allocated, request⟩ := kept
    refine ⟨_, exec_shaftRecompute_basis live found, basis, allocated, request, fun out => ?_,
      recomputes _ _ _ rfl (fun j other => Vec.get_set_ne _ (Ne.symm other) _) fun mine => ?_⟩
    · have outside : k ∉ State.allocatedMembers
          ((s.setHandoffs (s.handoffs.eraseP (Handoff.isShaft k .sequencer))).setShare k ((s.share k).based b a)) h := fun member => by
        have mine := ((mem_allocatedMembers _ h).1 member).2
        rw [self] at mine
        exact absurd (mine.symm.trans out) (by decide)
      rw [recomputeShaft_share_other _ h outside, self, AllocEntry.based, out]
      rfl
    · rw [self] at mine ⊢
      exact if_pos mine
  · intro rest
    have self := based_share_self s k rest { s.share k with request := v }
    have executed := exec_shaftRecompute_request live found
    refine ⟨fun allocated econ => ?_, fun other => ?_⟩
    · have taken : (s.setHandoffs rest).takeRequest k v =
          ((s.setHandoffs rest).setShare k { s.share k with request := v }).recomputeShaft h := by
        refine if_pos ?_
        show ((s.share k).allocated && decide ((s.share k).basis = .econ)) = true
        rw [allocated, econ]
        rfl
      rw [taken] at executed
      have kept := recomputeShaft_share_kept ((s.setHandoffs rest).setShare k { s.share k with request := v }) h k
      rw [self] at kept
      obtain ⟨basis, mine, request⟩ := kept
      exact ⟨_, executed, request, basis.trans econ, mine.trans allocated,
        recomputes _ _ _ rfl (fun j other => Vec.get_set_ne _ (Ne.symm other) _) fun _ => by rw [self]⟩
    · have taken : (s.setHandoffs rest).takeRequest k v = (s.setHandoffs rest).setShare k { s.share k with request := v } := by
        refine if_neg ?_
        show ¬ ((s.share k).allocated && decide ((s.share k).basis = .econ)) = true
        rcases other with out | basis
        · simp [out]
        · simp [basis]
      rw [taken] at executed
      exact executed
  · refine ⟨_, exec_commandRecompute (o := .demand) live found, ?_⟩
    intro oaMin v
    have request : ((s.taken k .demand).recompute k).drive k = (s.taken k .demand).recomputed k := recompute_drive_self _ k
    have lastRequest : (((s.taken k .demand).recompute k).drive k).lastRequest = v.toNat := by
      rw [request]
      show ((s.taken k .demand).drive k).lastRequest = _
      rw [taken_drive_self]
      rfl
    refine ⟨fun positive => ?_, fun small bound => ?_, ?_, fun j other => ?_, ?_⟩
    · rw [lastRequest, Int.toNat_of_nonneg positive]
    · exact economizerRise small bound
    · have news : s.requestNews k .demand = if v.toNat = (s.drive k).lastRequest then [] else [.shaft k (.request v.toNat)] := rfl
      have wheel : ((s.taken k .demand).drive k).wheel = (s.drive k).wheel := by
        rw [taken_drive_self]
        rfl
      rw [lastRequest, ← news, request, ← wheel, recompute_eq]
      rfl
    · rw [recompute_drive_ne (Ne.symm other), taken_drive_ne s k _ other]
    · rw [recompute_eq]
      rfl

end Sys2Proof.Machine
end

section
/-! The Train Sequencer's operations by what they make of the train's record, and the end of an event (R92). -/

namespace Sys2Proof.Machine

/-! What the end of an event hands on. -/

/-- What the end of an event hands on about a train, by its marks (R92). -/
def TrainRec.news (t : TrainRec) (k : Train) : List Handoff :=
  (if t.touched.bases then [.drive k (.bases t.bases)] else []) ++
  (if t.touched.oa || t.touched.standing then [.shaft k (.basis t.bases.oa t.state.allocated)] else [])

/-- A train record with its marks cleared. -/
def TrainRec.settled (t : TrainRec) : TrainRec := { t with touched := .clear }

theorem news_of_clear {t : TrainRec} (clear : t.touched = .clear) (k : Train) : t.news k = [] := by
  rw [TrainRec.news, clear]
  rfl

theorem settled_of_clear {t : TrainRec} (clear : t.touched = .clear) : t.settled = t := by
  rw [TrainRec.settled, ← clear]

theorem handOnBases_eq (k : Train) (s : State) : State.handOnBases k s =
    { s with trains := s.trains.set k (s.train k).settled, handoffs := s.handoffs ++ (s.train k).news k } := by
  unfold State.handOnBases TrainRec.news
  dsimp only
  cases (s.train k).touched.bases <;> cases ((s.train k).touched.oa || (s.train k).touched.standing)
  · exact congrArg (fun hs => (s.setHandoffs hs).setTrain k (s.train k).settled) (List.append_nil s.handoffs).symm
  · rfl
  · rfl
  · exact congrArg (fun hs => (s.setHandoffs hs).setTrain k (s.train k).settled) (List.append_assoc s.handoffs _ _)

theorem flatMap_of_single {α β : Type} {f : α → List β} {x : α} {xs : List α} (once : xs.Nodup) (mem : x ∈ xs)
    (empty : ∀ y, y ≠ x → f y = []) : xs.flatMap f = f x := by
  induction xs with
  | nil => cases mem
  | cons y ys ih =>
    obtain ⟨fresh, once⟩ := List.nodup_cons.1 once
    rw [List.flatMap_cons]
    by_cases same : y = x
    · have rest : ys.flatMap f = [] := List.flatMap_eq_nil_iff.2 fun z hz => empty z fun e => fresh (same.trans e.symm ▸ hz)
      rw [rest, same, List.append_nil]
    · rw [empty y same, ih once (List.mem_of_ne_of_mem (Ne.symm same) mem), List.nil_append]

theorem forEach_handOnBases_handoffs {ks : List Train} (once : ks.Nodup) (s : State) :
    (forEach ks State.handOnBases s).handoffs = s.handoffs ++ ks.flatMap fun j => (s.train j).news j := by
  induction ks generalizing s with
  | nil => exact (List.append_nil _).symm
  | cons k ks ih =>
    obtain ⟨fresh, once⟩ := List.nodup_cons.1 once
    have later : ks.flatMap (fun j => ((State.handOnBases k s).train j).news j) = ks.flatMap fun j => (s.train j).news j :=
      List.flatMap_congr fun j hj => by
        have other : (State.handOnBases k s).train j = s.train j := by
          rw [handOnBases_eq]
          exact Vec.get_set_ne _ (show k ≠ j from fun same => fresh (same ▸ hj)) _
        rw [other]
    rw [forEach_cons, ih once, later, handOnBases_eq, List.flatMap_cons, ← List.append_assoc]

section
variable (s : State)

theorem endEvent_handoffs : s.endEvent.handoffs = s.handoffs ++ allTrains.flatMap fun j => (s.train j).news j :=
  forEach_handOnBases_handoffs allTrains_nodup s

theorem endEvent_train (k : Train) : s.endEvent.train k = (s.train k).settled := by
  refine forEach_at (P := fun u => u.train k = s.train k) (Q := fun u => u.train k = (s.train k).settled) (fun j u other hu => ?_)
    (fun u hu => ?_) (fun j u other hu => ?_) allTrains_nodup (mem_allTrains k) rfl
  · rw [handOnBases_eq]
    exact (Vec.get_set_ne _ other _).trans hu
  · rw [handOnBases_eq, hu]
    exact Vec.get_set_self _ _ _
  · rw [handOnBases_eq]
    exact (Vec.get_set_ne _ other _).trans hu

/-- The end of an event that touched one train alone. -/
theorem endEvent_eq {s : State} {k : Train} (clear : ∀ j, j ≠ k → (s.train j).touched = .clear) : s.endEvent = { s with
    trains := s.trains.set k (s.train k).settled, handoffs := s.handoffs ++ (s.train k).news k } := by
  have trains : s.endEvent.trains = s.trains.set k (s.train k).settled := Vec.ext_get fun j => by
    have at_j := endEvent_train s j
    rw [State.train] at at_j
    rw [at_j, Vec.get_set]
    split
    · next same => rw [same]
    · next other => exact settled_of_clear (clear j (Ne.symm other))
  have told : (allTrains.flatMap fun j => (s.train j).news j) = (s.train k).news k :=
    flatMap_of_single allTrains_nodup (mem_allTrains k) fun j other => news_of_clear (clear j other) j
  rw [endEvent_frame, trains, endEvent_handoffs, told]

end

/-! A train's record changed, and MODE_CHANGED raised. -/

/-- A train record whose bases were set, with the marks of the change (R92). -/
def TrainRec.based (t : TrainRec) (b : Bases) : TrainRec := { t with
  bases := b
  touched := { t.touched with bases := t.touched.bases || b != t.bases, oa := t.touched.oa || b.oa != t.bases.oa } }

/-- A train record that entered a state, with the mark of a step into or out of the allocated states (R92). -/
def TrainRec.entering (t : TrainRec) (st : TrainState) : TrainRec := { t with
  state := st
  touched := { t.touched with standing := t.touched.standing || st.allocated != t.state.allocated } }

/-- A train record that entered a steady mode (R96, R97, R107, R110, R112). -/
def TrainRec.steadied (t : TrainRec) (m : Mode) (dwell : Nat) : TrainRec :=
  { (t.entering (.steady m)).based m.bases with dwell := startTimer dwell }

theorem based_self (t : TrainRec) : t.based t.bases = t := by
  simp [TrainRec.based]

/-- What the end of an event tells of a train whose bases and state changed once, from clear marks (R92). -/
theorem news_of_entering {s : State} {k : Train} (clear : (s.train k).touched = .clear) (st : TrainState) (b : Bases) :
    (((s.train k).entering st).based b).news k = s.basesTold k b st.allocated := by
  unfold TrainRec.news State.basesTold TrainRec.based TrainRec.entering
  rw [clear]
  congr 1
  · by_cases same : (s.train k).bases = b
    · simp [Touched.clear, same]
    · simp [Touched.clear, same, Ne.symm same]
  · have marked : ((false || b.oa != (s.train k).bases.oa) || (false || st.allocated != (s.train k).state.allocated)) = true ↔
        ¬ ((s.train k).bases.oa = b.oa ∧ (s.train k).state.allocated = st.allocated) := by
      rw [not_and_or]
      simp only [Bool.false_or, Bool.or_eq_true, bne_iff_ne]
      exact or_congr ne_comm ne_comm
    by_cases same : (s.train k).bases.oa = b.oa ∧ (s.train k).state.allocated = st.allocated
    · exact (if_neg fun mark => marked.1 mark same).trans (if_pos same).symm
    · exact (if_pos (marked.2 same)).trans (if_neg same).symm

/-- A state after a train's record has changed and the Notice Table was told. -/
def State.moved (s : State) (k : Train) (x : TrainRec) (told : List Raise) : State :=
  { s with trains := s.trains.set k x, raised := s.raised ++ told }

section
variable (s : State) (k : Train) (x y : TrainRec) (told later : List Raise)

@[simp] theorem moved_train_self : (s.moved k x told).train k = x := Vec.get_set_self _ _ _

theorem moved_train_ne {j : Train} (other : j ≠ k) : (s.moved k x told).train j = s.train j := Vec.get_set_ne _ (Ne.symm other) _

theorem moved_moved : (s.moved k x told).moved k y later = s.moved k y (told ++ later) := by
  unfold State.moved
  dsimp only
  rw [Vec.set_set, List.append_assoc]

theorem setTrain_setTrain : (s.setTrain k x).setTrain k y = s.setTrain k y :=
  congrArg (fun trains => ({ s with trains := trains } : State)) (Vec.set_set _ _ _ _)

theorem setTrain_self : s.setTrain k (s.train k) = s :=
  congrArg (fun trains => ({ s with trains := trains } : State)) (Vec.set_get _ _)

theorem setTrain_eq_moved : s.setTrain k x = s.moved k x [] := by
  unfold State.moved
  rw [List.append_nil]
  rfl

theorem moved_setTrain : (s.moved k x told).setTrain k y = s.moved k y told := by
  rw [setTrain_eq_moved, moved_moved, List.append_nil]

theorem enterState_eq (st : TrainState) : s.enterState k st = s.moved k ((s.train k).entering st) [.edge (.modeChanged k)] := rfl

theorem setBases_eq (b : Bases) : s.setBases k b = s.setTrain k ((s.train k).based b) := rfl

theorem moved_setBases (b : Bases) : (s.moved k x told).setBases k b = s.moved k (x.based b) told := by
  rw [setBases_eq, moved_train_self, moved_setTrain]

theorem moved_setDwell (d : Timer) : (s.moved k x told).setDwell k d = s.moved k { x with dwell := d } told := by
  rw [State.setDwell, moved_train_self, moved_setTrain]

theorem moved_setPendingForce (b : Bool) : (s.moved k x told).setPendingForce k b = s.moved k { x with pendingForce := b } told := by
  rw [State.setPendingForce, moved_train_self, moved_setTrain]

theorem moved_enterState (st : TrainState) : (s.moved k x told).enterState k st = s.moved k (x.entering st) (told ++ [.edge (.modeChanged k)]) := by
  rw [enterState_eq, moved_train_self, moved_moved]

theorem enterSteady_eq (m : Mode) : s.enterSteady k m =
    s.moved k ((s.train k).steadied m (s.params k).dwell) [.edge (.modeChanged k)] := by
  rw [State.enterSteady, enterState_eq, moved_setBases, State.startDwell, moved_setDwell]
  rfl

theorem moved_enterSteady (m : Mode) : (s.moved k x told).enterSteady k m =
    s.moved k (x.steadied m (s.params k).dwell) (told ++ [.edge (.modeChanged k)]) := by
  rw [enterSteady_eq, moved_train_self, moved_moved]
  rfl

end

/-! The steps begun in one event (R102, R104). -/

/-- A train record with other bases, and the marks of the change. -/
structure TrainRec.Rebased (a b : TrainRec) : Prop where
  only : b = { a with bases := b.bases, touched := b.touched }
  standing : b.touched.standing = a.touched.standing

theorem TrainRec.Rebased.refl (a : TrainRec) : a.Rebased a := ⟨rfl, rfl⟩

theorem TrainRec.Rebased.trans {a b c : TrainRec} (h : a.Rebased b) (h' : b.Rebased c) : a.Rebased c := by
  refine ⟨?_, h'.standing.trans h.standing⟩
  rw [h'.only, h.only]

theorem based_rebased (t : TrainRec) (b : Bases) : t.Rebased (t.based b) := ⟨rfl, rfl⟩

section
variable {k : Train} {target : Mode} {steps : List Step} {i : Nat} {s : State}

/-- Steps begun set the train's bases and change nothing else. -/
theorem runSteps_rebased : ∃ x, (s.train k).Rebased x ∧ (State.runSteps k target steps i s).1 = s.setTrain k x := by
  induction steps generalizing i s with
  | nil => exact ⟨_, .refl _, (setTrain_self s k).symm⟩
  | cons st rest ih =>
    have begun (b : Bases) : ∃ x, (s.train k).Rebased x ∧ s.setBases k b = s.setTrain k x := ⟨_, based_rebased _ b, rfl⟩
    have again {u : State} (start : ∃ x, (s.train k).Rebased x ∧ u = s.setTrain k x) (b : Bases) :
        ∃ x, (s.train k).Rebased x ∧ u.setBases k b = s.setTrain k x := by
      obtain ⟨x, rebased, rfl⟩ := start
      exact ⟨x.based b, rebased.trans (based_rebased x b), by rw [setBases_eq, setTrain_train_self, setTrain_setTrain]⟩
    have later {u : State} (start : ∃ x, (s.train k).Rebased x ∧ u = s.setTrain k x) :
        ∃ x, (s.train k).Rebased x ∧ (State.runSteps k target rest (i + 1) u).1 = s.setTrain k x := by
      obtain ⟨x, rebased, rfl⟩ := start
      obtain ⟨y, rebased', ran⟩ := ih (i := i + 1) (s := s.setTrain k x)
      rw [setTrain_train_self] at rebased'
      exact ⟨y, rebased.trans rebased', ran.trans (setTrain_setTrain s k x y)⟩
    unfold State.runSteps
    dsimp only
    split
    · split
      · exact begun _
      · exact later (again (begun _) _)
    · split
      · exact begun _
      · split
        · exact later (begun _)
        · exact begun _
    · split
      · exact later (begun _)
      · exact begun _

/-- Steps that all complete in one event take no stroke time (R104). -/
theorem runSteps_done (done : (State.runSteps k target steps i s).2 = .done) {x : Step} (mem : x ∈ steps) (damper : x ≠ .wheelUp)
    (damper' : x ≠ .wheelDown) : (s.params k).stroke = 0 := by
  induction steps generalizing i s with
  | nil => cases mem
  | cons st rest ih =>
    have later {u : State} (ran : (State.runSteps k target rest (i + 1) u).2 = .done) (active : u.active = s.active)
        (mem : x ∈ rest) : (s.params k).stroke = 0 := by
      have same := ih ran mem
      rwa [State.params, active] at same
    unfold State.runSteps at done
    dsimp only at done
    split at done
    · split at done
      · cases done
      · exact later done rfl ((List.mem_cons.1 mem).resolve_left damper)
    · split at done
      · cases done
      · split at done
        · exact later done rfl ((List.mem_cons.1 mem).resolve_left damper')
        · cases done
    · next notUp notDown =>
      split at done
      · next stopped =>
        have stroke : stepDuration (s.params k) st = (s.params k).stroke := by
          cases st with
          | wheelDown => exact absurd rfl notDown
          | wheelUp | bypassOpen | bypassClose | oaSet => rfl
        unfold startTimer at stopped
        split at stopped
        · next zero => exact stroke.symm.trans zero
        · cases stopped
      · cases done

/-- The first step of a changeover waits where the times of its steps are not 0 (R102). -/
theorem runSteps_first {x : Step} (first : x ≠ .wheelUp) (stroke : 0 < (s.params k).stroke) (spinDown : 0 < (s.params k).spinDown) :
    ∃ phase timer, (State.runSteps k target (x :: steps) i s).2 = .waits i phase timer := by
  have params (b : Bases) : (s.setBases k b).params k = s.params k := rfl
  have strokes : startTimer (s.params k).stroke = some (s.params k).stroke := if_neg (by omega)
  have spins : startTimer (s.params k).spinDown = some (s.params k).spinDown := if_neg (by omega)
  unfold State.runSteps
  dsimp only [stepDuration]
  cases x with
  | wheelUp => exact absurd rfl first
  | wheelDown =>
    dsimp only
    split
    · exact ⟨_, _, rfl⟩
    · rw [params, spins]
      exact ⟨_, _, rfl⟩
  | bypassOpen | bypassClose | oaSet =>
    dsimp only
    rw [params, strokes]
    exact ⟨_, _, rfl⟩

end

/-- Every changeover moves a damper (R103). -/
theorem stepList_moves {a b : Mode} (needed : stepList a b ≠ []) : ∃ x ∈ stepList a b, x ≠ .wheelUp ∧ x ≠ .wheelDown := by
  revert needed
  cases a <;> cases b <;> decide

/-- No changeover begins with WHEEL_UP (R103). -/
theorem stepList_first {a b : Mode} (needed : stepList a b ≠ []) : ∃ x rest, stepList a b = x :: rest ∧ x ≠ .wheelUp := by
  cases list : stepList a b with
  | nil => exact absurd list needed
  | cons x rest =>
    refine ⟨x, rest, rfl, ?_⟩
    have none : (stepList a b).head? ≠ some .wheelUp := by cases a <;> cases b <;> decide
    rw [list] at none
    exact fun up => none (congrArg some up)

section
variable {s : State} {k : Train} {r : Changeover} {i : Nat}

theorem proceed_done (came : (State.runSteps k r.target (r.steps.drop (i - 1)) i s).2 = .done) :
    s.proceed k r i = ((State.runSteps k r.target (r.steps.drop (i - 1)) i s).1, true) := by
  rw [State.proceed]
  rw [came]

theorem proceed_waits {j : Nat} {phase : StepPhase} {timer : Timer}
    (came : (State.runSteps k r.target (r.steps.drop (i - 1)) i s).2 = .waits j phase timer) : s.proceed k r i =
      ((State.runSteps k r.target (r.steps.drop (i - 1)) i s).1.setRecord k { r with index := j, phase := phase, timer := timer }, false) := by
  rw [State.proceed]
  rw [came]

end

/-- A changeover started (R101): the record that waits, or, where its steps take no time, all of them completed. -/
theorem startChangeover_eq (s : State) (k : Train) (a b : Mode) : ∃ x, (s.startChangeover k a b).1 = s.moved k x [.edge (.modeChanged k)] ∧
    x.waiting = (s.train k).waiting ∧ x.lockout = (s.train k).lockout ∧ x.dwell = none ∧ x.pendingForce = false ∧
    ((s.startChangeover k a b).2 = false → ∃ r, x.state = .changeover r ∧ r.source = a ∧ r.target = b ∧ r.steps = stepList a b) ∧
    ((s.startChangeover k a b).2 = true → stepList a b ≠ [] → (s.params k).stroke = 0) ∧
    (stepList a b ≠ [] → 0 < (s.params k).stroke → 0 < (s.params k).spinDown → (s.startChangeover k a b).2 = false ∧
      ∃ r, x.state = .changeover r ∧ r.source = a ∧ r.target = b ∧ r.steps = stepList a b ∧ r.index = 1) := by
  let r : Changeover := ⟨a, b, stepList a b, 1, .timing, none⟩
  let y : TrainRec := { (s.train k).entering (.changeover r) with pendingForce := false, dwell := none }
  have started : s.startChangeover k a b = (s.moved k y [.edge (.modeChanged k)]).proceed k r 1 := by
    unfold State.startChangeover
    dsimp only
    rw [enterState_eq, moved_setPendingForce, moved_setDwell]
  obtain ⟨x, ⟨only, -⟩, ran⟩ := runSteps_rebased (k := k) (target := b) (steps := stepList a b) (i := 1)
    (s := s.moved k y [.edge (.modeChanged k)])
  rw [moved_train_self] at only
  rw [moved_setTrain] at ran
  have waiting : x.waiting = (s.train k).waiting := by rw [only]; rfl
  have lockout : x.lockout = (s.train k).lockout := by rw [only]; rfl
  have dwell : x.dwell = none := by rw [only]
  have force : x.pendingForce = false := by rw [only]
  cases came : (State.runSteps k b (stepList a b) 1 (s.moved k y [.edge (.modeChanged k)])).2 with
  | done =>
    have outcome : s.startChangeover k a b = (s.moved k x [.edge (.modeChanged k)], true) := by
      rw [started, proceed_done came]
      exact congrArg (·, true) ran
    rw [outcome]
    refine ⟨x, rfl, waiting, lockout, dwell, force, fun h => (Bool.noConfusion h), fun _ needed => ?_, fun needed stroke spinDown => ?_⟩
    · obtain ⟨st, mem, up, down⟩ := stepList_moves needed
      exact runSteps_done (s := s.moved k y [.edge (.modeChanged k)]) came mem up down
    · obtain ⟨st, rest, list, up⟩ := stepList_first needed
      obtain ⟨phase, timer, waits⟩ := runSteps_first (k := k) (target := b) (steps := rest) (i := 1)
        (s := s.moved k y [.edge (.modeChanged k)]) up stroke spinDown
      rw [← list, came] at waits
      cases waits
  | waits i phase timer =>
    have outcome : s.startChangeover k a b = (s.moved k { x with state := .changeover { r with index := i, phase := phase, timer := timer } }
        [.edge (.modeChanged k)], false) := by
      have record : (s.moved k x [.edge (.modeChanged k)]).setRecord k { r with index := i, phase := phase, timer := timer } =
          s.moved k { x with state := .changeover { r with index := i, phase := phase, timer := timer } } [.edge (.modeChanged k)] := by
        rw [State.setRecord, moved_train_self, moved_setTrain]
      rw [started, proceed_waits came, ← record, ← ran]
      rfl
    rw [outcome]
    refine ⟨_, rfl, waiting, lockout, dwell, force, fun _ => ⟨_, rfl, rfl, rfl, rfl⟩, fun h => (Bool.noConfusion h),
      fun needed stroke spinDown => ⟨rfl, _, rfl, rfl, rfl, rfl, ?_⟩⟩
    obtain ⟨st, rest, list, up⟩ := stepList_first needed
    obtain ⟨phase', timer', waits⟩ := runSteps_first (k := k) (target := b) (steps := rest) (i := 1)
      (s := s.moved k y [.edge (.modeChanged k)]) up stroke spinDown
    rw [← list, came] at waits
    cases waits
    rfl

/-! A slot passed on (R100, R121). -/

/-- A waiting train whose granted changeover completed in the event that granted it. -/
structure TrainRec.Arrived (y : TrainRec) (e : WaitEntry) (dwell : Nat) : Prop where
  state : y.state = .steady e.target
  bases : y.bases = e.target.bases
  waiting : y.waiting = none
  dwell : y.dwell = startTimer dwell

/-- A waiting train in its granted changeover. -/
structure TrainRec.Granted (y : TrainRec) (e : WaitEntry) (m : Mode) : Prop where
  waiting : y.waiting = none
  dwell : y.dwell = none
  force : y.pendingForce = false
  state : ∃ r, y.state = .changeover r ∧ r.source = m ∧ r.target = e.target ∧ r.steps = stepList m e.target

section
variable {s : State} {h : Shaft} {e : WaitEntry} {rest : List WaitEntry} {m : Mode}

/-- The head of a wait list granted a slot: its changeover completes at once, or it holds the slot. -/
theorem grantHead_eq (steady : (s.train e.train).state = .steady m) (needed : stepList m e.target ≠ [])
    (out : e.train ∉ (s.shaft h).holders) :
    (∃ y : TrainRec, s.grantHead h e rest =
        ((s.setShaft h { s.shaft h with waitList := rest }).moved e.train y [.edge (.modeChanged e.train), .edge (.modeChanged e.train)], true) ∧
      y.Arrived e (s.params e.train).dwell ∧ (s.params e.train).stroke = 0) ∨
    ∃ y : TrainRec, s.grantHead h e rest =
        ((s.setShaft h { s.shaft h with waitList := rest, holders := (s.shaft h).holders ++ [e.train] }).moved e.train y
          [.edge (.modeChanged e.train)], false) ∧ y.Granted e m := by
  let u := s.setShaft h { s.shaft h with waitList := rest, holders := (s.shaft h).holders ++ [e.train] }
  let v := u.moved e.train { s.train e.train with waiting := none } []
  have granted : ((s.setShaft h { s.shaft h with waitList := rest }).addHolder h e.train).setWaiting e.train none = v := by
    have added : (s.setShaft h { s.shaft h with waitList := rest }).addHolder h e.train = u := by
      rw [State.addHolder, setShaft_shaft_self]
      exact congrArg (fun shafts => ({ s with shafts := shafts } : State)) (Vec.set_set _ _ _ _)
    rw [added, State.setWaiting, setTrain_eq_moved]
    rfl
  have state : (v.train e.train).state = .steady m := by rw [moved_train_self]; exact steady
  obtain ⟨x, started, waiting, lockout, dwell, force, waits, completes, -⟩ := startChangeover_eq v e.train m e.target
  rw [moved_moved] at started
  rw [moved_train_self] at waiting
  have turn : s.grantHead h e rest = if (v.startChangeover e.train m e.target).2 then
      (((v.startChangeover e.train m e.target).1.enterSteady e.train e.target).dropHolder h e.train, true)
      else ((v.startChangeover e.train m e.target).1, false) := by
    rw [State.grantHead]
    dsimp only
    rw [granted, state]
    rfl
  cases done : (v.startChangeover e.train m e.target).2 with
  | true =>
    refine .inl ⟨x.steadied e.target (s.params e.train).dwell, ?_, ⟨rfl, rfl, waiting, rfl⟩, completes done needed⟩
    rw [turn, done, if_pos rfl, started, moved_enterSteady]
    have holders : ((s.shaft h).holders ++ [e.train]).filter (· ≠ e.train) = (s.shaft h).holders := by
      rw [List.filter_append, List.filter_eq_self.2 fun j hj => decide_eq_true (show j ≠ e.train from fun same => out (same ▸ hj))]
      simp
    have dropped : u.dropHolder h e.train = s.setShaft h { s.shaft h with waitList := rest } := by
      rw [State.dropHolder, setShaft_shaft_self]
      dsimp only
      rw [holders]
      exact congrArg (fun shafts => ({ s with shafts := shafts } : State)) (Vec.set_set _ _ _ _)
    exact congrArg (fun w : State => (w.moved e.train (x.steadied e.target (s.params e.train).dwell)
      [.edge (.modeChanged e.train), .edge (.modeChanged e.train)], true)) dropped
  | false =>
    obtain ⟨r, record⟩ := waits done
    refine .inr ⟨x, ?_, waiting, dwell, force, r, record⟩
    rw [turn, done, if_neg Bool.false_ne_true, started]
    rfl

end

/-- A slot handed on from the head of a shaft's wait list (R121): the changeovers `done` that completed at once, the next head in its own, the
entries behind it as before. -/
structure HandedOn (s t : State) (h : Shaft) (done rest : List WaitEntry) : Prop where
  list : (s.shaft h).waitList = done ++ rest
  shafts : t.shafts = s.shafts.set h { s.shaft h with
    holders := (s.shaft h).holders ++ rest.head?.toList.map (·.train), waitList := rest.tail }
  raised : t.raised = s.raised ++ (done.flatMap fun e => [.edge (.modeChanged e.train), .edge (.modeChanged e.train)]) ++
    rest.head?.toList.map fun e => .edge (.modeChanged e.train)
  arrived : ∀ e ∈ done, (s.params e.train).stroke = 0 ∧ (t.train e.train).Arrived e (s.params e.train).dwell
  granted : ∀ e ∈ rest.head?, ∃ m, (s.train e.train).state = .steady m ∧ (t.train e.train).Granted e m
  waiting : ∀ e ∈ rest.tail, t.train e.train = s.train e.train
  others : ∀ j, (∀ e ∈ (s.shaft h).waitList, e.train ≠ j) → t.train j = s.train j
  frame : t = { s with trains := t.trains, shafts := t.shafts, raised := t.raised }

theorem grantChain_nil (n : Nat) {h : Shaft} {s : State} (nobody : (s.shaft h).waitList = []) : State.grantChain n h s = s := by
  cases n with
  | zero => rfl
  | succ n => rw [State.grantChain, nobody]

theorem handedOn_nil {h : Shaft} {s : State} (nobody : (s.shaft h).waitList = []) : HandedOn s s h [] [] where
  list := nobody
  shafts := by
    have same : ({ s.shaft h with holders := (s.shaft h).holders ++ [], waitList := [] } : ShaftRec) = s.shaft h := by
      rw [List.append_nil, ← nobody]
    exact ((congrArg (s.shafts.set h) same).trans (Vec.set_get _ _)).symm
  raised := by simp
  arrived _ mem := by cases mem
  granted _ mem := by cases mem
  waiting _ mem := by cases mem
  others _ _ := rfl
  frame := rfl

/-- Each waiting train once, none a holder, each in a steady mode from which its target needs a changeover. -/
structure State.Waiters (s : State) (h : Shaft) : Prop where
  once : ((s.shaft h).waitList.map (·.train)).Nodup
  ready : ∀ e ∈ (s.shaft h).waitList, e.train ∉ (s.shaft h).holders ∧ ∃ m, (s.train e.train).state = .steady m ∧ stepList m e.target ≠ []

theorem grantChain_handedOn {n : Nat} {h : Shaft} {s : State} (waiters : s.Waiters h) (enough : (s.shaft h).waitList.length ≤ n) :
    ∃ done rest, HandedOn s (State.grantChain n h s) h done rest := by
  induction n generalizing s with
  | zero =>
    have nobody : (s.shaft h).waitList = [] := List.length_eq_zero_iff.1 (Nat.le_zero.1 enough)
    exact ⟨[], [], handedOn_nil nobody⟩
  | succ n ih =>
    cases list : (s.shaft h).waitList with
    | nil =>
      rw [grantChain_nil _ list]
      exact ⟨[], [], handedOn_nil list⟩
    | cons e rest =>
      obtain ⟨once, ready⟩ := waiters
      rw [list] at once ready enough
      obtain ⟨fresh, once⟩ := List.nodup_cons.1 once
      obtain ⟨out, m, steady, needed⟩ := ready e List.mem_cons_self
      have other : ∀ x ∈ rest, x.train ≠ e.train := fun x hx same =>
        fresh (List.mem_map.2 ⟨x, hx, same⟩)
      have turn : State.grantChain (n + 1) h s =
          if (s.grantHead h e rest).2 then State.grantChain n h (s.grantHead h e rest).1 else (s.grantHead h e rest).1 := by
        rw [State.grantChain, list]
      rw [turn]
      rcases grantHead_eq (rest := rest) steady needed out with ⟨y, head, arrived, stroke⟩ | ⟨y, head, granted⟩
      · rw [head, if_pos rfl]
        let u := (s.setShaft h { s.shaft h with waitList := rest }).moved e.train y
          [.edge (.modeChanged e.train), .edge (.modeChanged e.train)]
        have shaft : u.shaft h = { s.shaft h with waitList := rest } := setShaft_shaft_self _ _ _
        have behind : ∀ x ∈ rest, u.train x.train = s.train x.train := fun x hx => moved_train_ne _ _ _ _ (other x hx)
        have later : u.Waiters h := by
          refine ⟨by rw [shaft]; exact once, fun x hx => ?_⟩
          rw [shaft] at hx ⊢
          rw [behind x hx]
          exact ready x (List.mem_cons_of_mem _ hx)
        obtain ⟨done, rest', handed⟩ := ih later (by rw [shaft]; exact Nat.le_of_succ_le_succ enough)
        obtain ⟨list', shafts, raised, arrived', granted, waiting, others, frame⟩ := handed
        rw [shaft] at list' shafts others
        have listed : rest = done ++ rest' := list'
        refine ⟨e :: done, rest', by rw [list, listed]; rfl, ?_, ?_, fun x mem => ?_, fun x mem => ?_, fun x mem => ?_, fun j free => ?_, ?_⟩
        · rw [shafts]
          exact Vec.set_set _ _ _ _
        · rw [raised, List.flatMap_cons]
          simp [u, State.moved, State.setShaft]
        · rcases List.mem_cons.1 mem with rfl | mem
          · refine ⟨stroke, ?_⟩
            rw [others x.train fun z hz => other z hz, moved_train_self]
            exact arrived
          · exact arrived' x mem
        · obtain ⟨m', steady', granted⟩ := granted x mem
          have member : x ∈ rest := listed ▸ List.mem_append_right _ (List.mem_of_mem_head? mem)
          exact ⟨m', behind x member ▸ steady', granted⟩
        · have member : x ∈ rest := listed ▸ List.mem_append_right _ (List.mem_of_mem_tail mem)
          rw [waiting x mem, behind x member]
        · rw [others j fun z hz => free z (list ▸ List.mem_cons_of_mem _ hz)]
          exact moved_train_ne _ _ _ _ (Ne.symm (free e (list ▸ List.mem_cons_self)))
        · rw [frame]
          rfl
      · rw [head, if_neg Bool.false_ne_true]
        refine ⟨[], e :: rest, list, rfl, ?_, fun _ mem => (by cases mem), fun x mem => ?_, fun x mem => ?_, fun j free => ?_, rfl⟩
        · simp [State.moved, State.setShaft]
        · cases mem
          exact ⟨m, steady, (moved_train_self _ _ _ _).symm ▸ granted⟩
        · exact moved_train_ne _ _ _ _ (other x mem)
        · exact moved_train_ne _ _ _ _ (Ne.symm (free e (list ▸ List.mem_cons_self)))

/-- A train's slot released after its record changed: it passes on (R121). -/
theorem releaseSlot_passesOn {s : State} {k : Train} {x : TrainRec} {told : List Raise} (ready : s.waitersReady (s.shaftOf k) k) :
    s.slotPassesOn ((s.moved k x told).releaseSlot k) (s.shaftOf k) k told [] ∧
    ((s.moved k x told).releaseSlot k).train k = x ∧
    (s.moved k x told).releaseSlot k = { s with
      trains := ((s.moved k x told).releaseSlot k).trains, shafts := ((s.moved k x told).releaseSlot k).shafts
      raised := ((s.moved k x told).releaseSlot k).raised } := by
  let h := s.shaftOf k
  let u := (s.moved k x told).dropHolder h k
  have released : (s.moved k x told).releaseSlot k = State.grantChain (s.shaft h).waitList.length h u := rfl
  have shaft : u.shaft h = { s.shaft h with holders := (s.shaft h).holders.filter (· ≠ k) } := setShaft_shaft_self _ _ _
  obtain ⟨once, ready⟩ := ready
  have same : ∀ j, j ≠ k → u.train j = s.train j := fun j other => moved_train_ne s k x told other
  have waiters : u.Waiters h := by
    refine ⟨by rw [shaft]; exact once, fun e he => ?_⟩
    rw [shaft] at he ⊢
    obtain ⟨other, out, m, steady, needed⟩ := ready e he
    refine ⟨fun mem => out (List.mem_filter.1 mem).1, m, ?_, needed⟩
    rw [same _ other]
    cases state : (s.train e.train).state with
    | steady m' => rw [state] at steady; cases steady; rfl
    | changeover | safe | held => rw [state] at steady; cases steady
  obtain ⟨done, rest, list, shafts, raised, arrived, granted, waiting, others, frame⟩ :=
    grantChain_handedOn (n := (s.shaft h).waitList.length) waiters (by rw [shaft])
  rw [← released] at shafts raised arrived granted waiting others frame
  rw [shaft] at list shafts others
  have listed : (s.shaft h).waitList = done ++ rest := list
  have behind : ∀ e, e ∈ done ∨ e ∈ rest → u.train e.train = s.train e.train := fun e mem =>
    same _ (ready e (listed ▸ List.mem_append.2 mem)).1
  refine ⟨⟨done, rest, listed, ?_, ?_, fun e mem => ?_, fun e mem => ?_, fun e mem => ?_, fun j other free => ?_⟩, ?_, ?_⟩
  · rw [shafts]
    exact Vec.set_set _ _ _ _
  · rw [raised, List.append_nil]
    rfl
  · obtain ⟨stroke, state, bases, waiting, dwell⟩ := arrived e mem
    exact ⟨stroke, state, bases, waiting, dwell⟩
  · obtain ⟨m, steady, waiting, dwell, force, r, state, source⟩ := granted e mem
    rw [behind e (.inr (List.mem_of_mem_head? mem))] at steady
    exact ⟨waiting, dwell, force, m, r, steady, state, source⟩
  · rw [waiting e mem, behind e (.inr (List.mem_of_mem_tail mem))]
  · rw [others j free, same j other]
  · rw [others k fun e he => (ready e he).1]
    exact moved_train_self s k x told
  · rw [frame]
    rfl

/-- With nobody waiting the slot is free (R121). -/
theorem releaseSlot_nil {s : State} {k : Train} (nobody : (s.shaft (s.shaftOf k)).waitList = []) :
    s.releaseSlot k = s.dropHolder (s.shaftOf k) k := by
  refine grantChain_nil _ ?_
  rw [State.dropHolder, setShaft_shaft_self]
  exact nobody

section
variable {s t : State} {h : Shaft} {k : Train} {before after : List Raise}

/-- The end of the event leaves the passing-on as it was. -/
theorem passesOn_endEvent (clear : ∀ j, (s.train j).touched = .clear) (passes : s.slotPassesOn t h k before after) :
    s.slotPassesOn t.endEvent h k before after := by
  obtain ⟨done, rest, list, shafts, raised, arrived, granted, waiting, others⟩ := passes
  have kept : ∀ j, t.train j = s.train j → t.endEvent.train j = s.train j := fun j same => by
    rw [endEvent_train, same, settled_of_clear (clear j)]
  refine ⟨done, rest, list, ?_, ?_, fun e mem => ?_, fun e mem => ?_, fun e mem => kept _ (waiting e mem),
    fun j other free => kept j (others j other free)⟩
  · rw [endEvent_frame]
    exact shafts
  · rw [endEvent_frame]
    exact raised
  · rw [endEvent_train]
    exact arrived e mem
  · rw [endEvent_train]
    exact granted e mem

/-- Raises of the same event, after the others. -/
theorem passesOn_raised (after : List Raise) (passes : s.slotPassesOn t h k before []) :
    s.slotPassesOn (t.setRaised (t.raised ++ after)) h k before after := by
  obtain ⟨done, rest, list, shafts, raised, arrived, granted, waiting, others⟩ := passes
  refine ⟨done, rest, list, shafts, ?_, arrived, granted, waiting, others⟩
  show t.raised ++ after = _
  rw [raised, List.append_nil]

/-- What the end of an event tells of a train is handed on. -/
theorem mem_endEvent_handoffs {y : Handoff} (told : y ∈ (t.train k).news k) : y ∈ t.endEvent.handoffs := by
  rw [endEvent_handoffs]
  exact List.mem_append_right _ (List.mem_flatMap.2 ⟨k, mem_allTrains k, told⟩)

end

end Sys2Proof.Machine
end

section
/-! HELD and SAFE (R108 to R112): a train taken over, and its return to BYPASS. -/

namespace Sys2Proof.Machine

/-- The end of an event that changed one train's record. -/
theorem endEvent_moved {s : State} (clear : ∀ j, (s.train j).touched = .clear) (k : Train) (x : TrainRec) (told : List Raise) :
    (s.moved k x told).endEvent = { s with
      trains := s.trains.set k x.settled, raised := s.raised ++ told, handoffs := s.handoffs ++ x.news k } := by
  have others : ∀ j, j ≠ k → ((s.moved k x told).train j).touched = .clear := fun j other => by
    rw [moved_train_ne s k x told other]
    exact clear j
  rw [endEvent_eq others, moved_train_self]
  unfold State.moved
  dsimp only
  rw [Vec.set_set]

/-- The same, by the state it leaves. -/
theorem ended_moved {s : State} (clear : ∀ j, (s.train j).touched = .clear) (k : Train) (x : TrainRec) (told : List Raise) :
    ∃ t, (s.moved k x told).endEvent = t ∧ t.train k = x.settled ∧ (∀ j, j ≠ k → t.train j = s.train j) ∧
      t = { s with trains := t.trains, raised := s.raised ++ told, handoffs := s.handoffs ++ x.news k } :=
  ⟨_, endEvent_moved clear k x told, Vec.get_set_self _ _ _, fun _ other => Vec.get_set_ne _ (Ne.symm other) _, rfl⟩

theorem frame_ended {s v w : State} (moved : v = { s with trains := v.trains, shafts := v.shafts, raised := v.raised })
    (ended : w = { v with trains := w.trains, handoffs := w.handoffs, raised := w.raised }) :
    w = { s with trains := w.trains, shafts := w.shafts, handoffs := w.handoffs, raised := w.raised } := by
  rw [moved] at ended
  have shafts : w.shafts = v.shafts := by rw [ended]
  rw [shafts]
  exact ended

/-- The end of an event in which a train's slot passed on, with what else it raised. -/
theorem ended_released_raised {s : State} {k : Train} (clear : ∀ j, (s.train j).touched = .clear) (ready : s.waitersReady (s.shaftOf k) k)
    (x : TrainRec) (told after : List Raise) :
    ∃ t, (((s.moved k x told).releaseSlot k).setRaised (((s.moved k x told).releaseSlot k).raised ++ after)).endEvent = t ∧
      t.train k = x.settled ∧ s.slotPassesOn t (s.shaftOf k) k told after ∧ (∀ y ∈ x.news k, y ∈ t.handoffs) ∧
      t = { s with trains := t.trains, shafts := t.shafts, handoffs := t.handoffs, raised := t.raised } := by
  obtain ⟨passes, self, frame⟩ := releaseSlot_passesOn (x := x) (told := told) ready
  generalize (s.moved k x told).releaseSlot k = v at passes self frame ⊢
  have record : (v.setRaised (v.raised ++ after)).train k = x := self
  refine ⟨_, rfl, ?_, passesOn_endEvent clear (passesOn_raised after passes), fun y hy => mem_endEvent_handoffs (k := k) ?_, ?_⟩
  · rw [endEvent_train, record]
  · rw [record]
    exact hy
  · have ended := endEvent_frame (v.setRaised (v.raised ++ after))
    have raised : (v.setRaised (v.raised ++ after)).endEvent.raised = v.raised ++ after := by rw [endEvent_frame]; rfl
    generalize (v.setRaised (v.raised ++ after)).endEvent = w at ended raised ⊢
    refine frame_ended frame (ended.trans ?_)
    rw [raised]
    rfl

theorem ended_released {s : State} {k : Train} (clear : ∀ j, (s.train j).touched = .clear) (ready : s.waitersReady (s.shaftOf k) k)
    (x : TrainRec) (told : List Raise) :
    ∃ t, ((s.moved k x told).releaseSlot k).endEvent = t ∧
      t.train k = x.settled ∧ s.slotPassesOn t (s.shaftOf k) k told [] ∧ (∀ y ∈ x.news k, y ∈ t.handoffs) ∧
      t = { s with trains := t.trains, shafts := t.shafts, handoffs := t.handoffs, raised := t.raised } := by
  have released := ended_released_raised clear ready x told []
  rwa [List.append_nil, show ∀ v : State, v.setRaised v.raised = v from fun _ => rfl] at released

/-- A train record taken over by HELD or SAFE (R109, R111). -/
def TrainRec.takenOver (t : TrainRec) (st : TrainState) (b : Bases) : TrainRec := { (t.entering st).based b with dwell := none }

/-- A shaft record without a train's place in its wait list (R119). -/
def ShaftRec.waitless (r : ShaftRec) (k : Train) : ShaftRec := { r with waitList := r.waitList.filter (·.train ≠ k) }

section
variable {s : State} {k : Train} {st : TrainState} {b : Bases}

theorem dropWaiting_eq (s : State) (k : Train) : s.dropWaiting k =
    (s.setShaft (s.shaftOf k) ((s.shaft (s.shaftOf k)).waitless k)).moved k { s.train k with waiting := none } [] := by
  rw [State.dropWaiting, State.setWaiting, setTrain_eq_moved]
  rfl

theorem takeOver_steady {m : Mode} (state : (s.train k).state = .steady m) : s.takeOver k st b =
    (s.setShaft (s.shaftOf k) ((s.shaft (s.shaftOf k)).waitless k)).moved k
      (TrainRec.takenOver { s.train k with waiting := none } st b) [.edge (.modeChanged k)] := by
  have entered : s.takeOver k st b = (((s.dropWaiting k).enterState k st).setBases k b).setDwell k none := by
    rw [State.takeOver]
    dsimp only
    rw [state]
  rw [entered, dropWaiting_eq, moved_enterState, moved_setBases, moved_setDwell]
  rfl

theorem takeOver_held {v : OutputValues} (state : (s.train k).state = .held v) : s.takeOver k st b =
    s.moved k ((s.train k).takenOver st b) [.edge (.modeChanged k)] := by
  have entered : s.takeOver k st b = ((s.enterState k st).setBases k b).setDwell k none := by
    rw [State.takeOver]
    dsimp only
    rw [state]
  rw [entered, enterState_eq, moved_setBases, moved_setDwell]
  rfl

theorem takeOver_changeover {r : Changeover} (state : (s.train k).state = .changeover r) : s.takeOver k st b =
    (s.moved k { (s.train k).takenOver st b with pendingForce := false } [.edge (.modeChanged k)]).releaseSlot k := by
  have entered : s.takeOver k st b = ((((s.enterState k st).setBases k b).setDwell k none).setPendingForce k false).releaseSlot k := by
    rw [State.takeOver]
    dsimp only
    rw [state]
  rw [entered, enterState_eq, moved_setBases, moved_setDwell, moved_setPendingForce]
  rfl

/-- What the end of the event tells of a train taken over. -/
theorem news_takenOver (clear : (s.train k).touched = .clear) (w : Option Mode) :
    (TrainRec.takenOver { s.train k with waiting := w } st b).news k = s.basesTold k b st.allocated := news_of_entering clear st b

theorem news_takenOver_force (clear : (s.train k).touched = .clear) (f : Bool) :
    TrainRec.news { (s.train k).takenOver st b with pendingForce := f } k = s.basesTold k b st.allocated := news_of_entering clear st b

theorem news_steadied (clear : (s.train k).touched = .clear) (m : Mode) (d : Nat) :
    ((s.train k).steadied m d).news k = s.basesTold k m.bases (TrainState.steady m).allocated := news_of_entering clear _ _

end

theorem exec_safeEntry {s : State} {k : Train} (awake : s.awake)
    (found : s.handoffs.find? (Handoff.isPostureNews k) = some (.postureBegins k)) :
    exec (.safeEntry k) s = .next (((s.setHandoffs (s.handoffs.eraseP (Handoff.isPostureNews k))).enterSafe k).endEvent) := by
  show execSafeEntry k s = _
  rw [execSafeEntry, whenLive_live awake, takeHandoff_of_find found]

theorem exec_safeExit {s : State} {k : Train} (awake : s.awake)
    (found : s.handoffs.find? (Handoff.isPostureNews k) = some (.postureEnds k)) :
    exec (.safeExit k) s = .next (((s.setHandoffs (s.handoffs.eraseP (Handoff.isPostureNews k))).leaveSafe k).endEvent) := by
  show execSafeExit k s = _
  rw [execSafeExit, whenLive_live awake, takeHandoff_of_find found]

theorem enterSafe_of_other {s : State} {k : Train} (other : (s.train k).state ≠ .safe) :
    s.enterSafe k = (s.takeOver k .safe postureBases).beginLevel (.safe k) := by
  unfold State.enterSafe
  split
  · exact absurd ‹_› other
  · rfl

theorem leaveSafe_of_safe {s : State} {k : Train} (safe : (s.train k).state = .safe) :
    s.leaveSafe k = (s.enterSteady k .bypass).endLevel (.safe k) := by
  rw [State.leaveSafe, safe]

theorem moved_setRaised (s : State) (k : Train) (x : TrainRec) (told : List Raise) (r : Raise) :
    (s.moved k x told).setRaised ((s.moved k x told).raised ++ [r]) = s.moved k x (told ++ [r]) :=
  congrArg (fun rs => ({ s with trains := s.trains.set k x, raised := rs } : State)) (List.append_assoc _ _ _)

theorem changeover_of_isSome {st : TrainState} (changing : st.changeover?.isSome = true) : ∃ r, st = .changeover r := by
  cases st with
  | changeover r => exact ⟨r, rfl⟩
  | steady | safe | held => cases changing

/-- Settles O34: a train taken over by SAFE in each of its states, and its return to BYPASS. -/
theorem safeEntryAndExit : Obligations.SafeEntryAndExit := by
  unfold Obligations.SafeEntryAndExit
  intro k s awake clear rest told waitless
  let u := s.setHandoffs rest
  refine ⟨fun found notSafe notChanging => ?_, fun found changing ready => ?_, fun found safe => ?_⟩
  · have entered := enterSafe_of_other (s := u) notSafe
    cases state : (s.train k).state with
    | changeover r => rw [state] at notChanging; cases notChanging
    | safe => exact absurd state notSafe
    | steady m =>
      rw [takeOver_steady (s := u) state, State.beginLevel, moved_setRaised] at entered
      obtain ⟨t, ended, self, others, frame⟩ := ended_moved (s := u.setShaft (s.shaftOf k) waitless) clear k
        (TrainRec.takenOver { s.train k with waiting := none } .safe postureBases) [.edge (.modeChanged k), .begins (.safe k)]
      rw [news_takenOver (clear k) none] at frame
      have shafts : t.shafts = s.shafts.set (s.shaftOf k) waitless := by rw [frame]; rfl
      refine ⟨t, (exec_safeEntry awake found).trans (congrArg _ ((congrArg State.endEvent entered).trans ended)), ?_⟩
      rw [self]
      refine ⟨rfl, rfl, rfl, rfl, fun _ => ⟨rfl, shafts⟩, fun none => (by cases none), others, frame.trans ?_⟩
      rw [shafts]
      rfl
    | held v =>
      rw [takeOver_held (s := u) state, State.beginLevel, moved_setRaised] at entered
      obtain ⟨t, ended, self, others, frame⟩ := ended_moved (s := u) clear k ((s.train k).takenOver .safe postureBases)
        [.edge (.modeChanged k), .begins (.safe k)]
      rw [show (TrainRec.takenOver (s.train k) .safe postureBases).news k = told from news_of_entering (clear k) _ _] at frame
      have shafts : t.shafts = s.shafts := by rw [frame]; rfl
      refine ⟨t, (exec_safeEntry awake found).trans (congrArg _ ((congrArg State.endEvent entered).trans ended)), ?_⟩
      rw [self]
      refine ⟨rfl, rfl, rfl, rfl, fun some => (Bool.noConfusion some), fun _ => shafts, others, frame.trans ?_⟩
      rw [shafts]
      rfl
  · obtain ⟨r, state⟩ := changeover_of_isSome changing
    have entered := enterSafe_of_other (s := u) (by rw [show (u.train k).state = _ from state]; exact TrainState.noConfusion)
    rw [takeOver_changeover (s := u) state] at entered
    obtain ⟨t, ended, self, passes, news, frame⟩ := ended_released_raised (s := u) clear ready
      { (s.train k).takenOver .safe postureBases with pendingForce := false } [.edge (.modeChanged k)] [.begins (.safe k)]
    rw [news_takenOver_force (clear k)] at news
    refine ⟨t, (exec_safeEntry awake found).trans (congrArg _ ((congrArg State.endEvent entered).trans ended)), ?_⟩
    rw [self]
    exact ⟨rfl, rfl, rfl, rfl, rfl, passes, news, frame⟩
  · have left := leaveSafe_of_safe (s := u) safe
    rw [enterSteady_eq, State.endLevel, moved_setRaised] at left
    obtain ⟨t, ended, self, others, frame⟩ := ended_moved (s := u) clear k ((s.train k).steadied .bypass (s.params k).dwell)
      [.edge (.modeChanged k), .ends (.safe k)]
    rw [news_steadied (clear k)] at frame
    refine ⟨t, (exec_safeExit awake found).trans (congrArg _ ((congrArg State.endEvent left).trans ended)), ?_⟩
    rw [self]
    exact ⟨rfl, rfl, rfl, rfl, others, frame⟩

end Sys2Proof.Machine
end

section
/-! HOLD and RELEASE (R87, R88, R109, R110). -/

namespace Sys2Proof.Machine

theorem unsigned16_bytes16 (w : BitVec 16) : unsigned16 (w.extractLsb' 0 8) (w.extractLsb' 8 8) = w.toNat := by
  rw [unsigned16, word16_bytes16]

theorem holdFields?_bytes (x : Byte) (a b c : BitVec 16) : holdFields? (x :: bytes16 a ++ bytes16 b ++ bytes16 c) =
    some (x, ⟨min a.toNat 1000, min b.toNat 1000, min c.toNat 1000⟩) := by
  show some (x, (⟨clampPermille (unsigned16 _ _), clampPermille (unsigned16 _ _), clampPermille (unsigned16 _ _)⟩ : OutputValues)) = _
  rw [unsigned16_bytes16, unsigned16_bytes16, unsigned16_bytes16]
  rfl

section
variable {s : State} {l : Link} {k : Train}

theorem requestHold_safe {payload : List Byte} {v : OutputValues} (fields : holdFields? payload = some (byte k.val, v))
    (right : (s.right l).maintenance = true) (set : s.inSet l k = true) (safe : s.inSafe k = true) :
    requestHold l payload s = refuse .trainBusy s := by
  simp only [requestHold, fields, indexByte?_byte (show 8 ≤ 256 by decide), right, set, safe]
  rfl

theorem requestHold_other {payload : List Byte} {v : OutputValues} (fields : holdFields? payload = some (byte k.val, v))
    (right : (s.right l).maintenance = true) (set : s.inSet l k = true) (other : s.inSafe k = false) :
    requestHold l payload s = ((s.enterHeld k v).endEvent, .ok (u16 v.ws ++ u16 v.bp ++ u16 v.oa)) := by
  simp only [requestHold, fields, indexByte?_byte (show 8 ≤ 256 by decide), right, set, other]
  rfl

theorem requestRelease_eq (right : (s.right l).maintenance = true) (set : s.inSet l k = true) :
    requestRelease l [byte k.val] s = ((s.leaveHeld k).endEvent, .ok []) := by
  simp only [requestRelease, indexByte?_byte (show 8 ≤ 256 by decide), right, set]
  rfl

theorem inSafe_of_other (other : (s.train k).state ≠ .safe) : s.inSafe k = false := by
  unfold State.inSafe
  split
  · exact absurd ‹_› other
  · rfl

theorem enterHeld_of_other {v : OutputValues} (other : (s.train k).state.hold? = none) :
    s.enterHeld k v = s.takeOver k (.held v) holdBases := by
  unfold State.enterHeld
  split
  · next state => rw [state] at other; cases other
  · rfl

/-- A train HELD already takes the new values (R93, R109). -/
theorem enterHeld_of_held {v w : OutputValues} (held : (s.train k).state = .held w) : s.enterHeld k v =
    (s.handOn (.drive k .holdValues)).moved k (((s.train k).entering (.held v)).based holdBases) [] := by
  have entered : s.enterHeld k v = ((s.setTrain k { s.train k with state := .held v }).setBases k holdBases).handOn (.drive k .holdValues) := by
    rw [State.enterHeld, held]
  have standing : (s.train k).entering (.held v) = { s.train k with state := .held v } := by
    rw [TrainRec.entering, held]
    simp [TrainState.allocated]
  rw [entered, standing, setTrain_eq_moved, moved_setBases]
  rfl

theorem leaveHeld_of_held {v : OutputValues} (held : (s.train k).state = .held v) : s.leaveHeld k = s.enterSteady k .bypass := by
  rw [State.leaveHeld, held]

theorem leaveHeld_of_other (other : (s.train k).state.hold? = none) : s.leaveHeld k = s := by
  unfold State.leaveHeld
  split
  · next state => rw [state] at other; cases other
  · rfl

/-- The end of an event that touched no train. -/
theorem endEvent_clear (clear : ∀ j, (s.train j).touched = .clear) : s.endEvent = s := by
  have same : s.moved 0 (s.train 0) [] = s := by rw [← setTrain_eq_moved, setTrain_self]
  have ended := endEvent_moved clear 0 (s.train 0) []
  rw [same, settled_of_clear (clear 0), news_of_clear (clear 0), List.append_nil, List.append_nil] at ended
  exact ended.trans (setTrain_self s 0)

end

theorem steady_or_held {st : TrainState} (notSafe : st ≠ .safe) (notChanging : st.changeover? = none) :
    (∃ m, st = .steady m) ∨ ∃ v, st = .held v := by
  cases st with
  | steady m => exact .inl ⟨m, rfl⟩
  | held v => exact .inr ⟨v, rfl⟩
  | changeover r => cases notChanging
  | safe => exact absurd rfl notSafe

/-- Settles O33: a train taken over by HELD in each of its states, and its return to BYPASS. -/
theorem holdAndRelease : Obligations.HoldAndRelease := by
  unfold Obligations.HoldAndRelease
  intro l tag k a b c s ready right set clear v payload steady told
  let q := s.setPort l (s.port l).hunt
  have fields : holdFields? payload = some (byte k.val, v) := holdFields?_bytes _ a b c
  refine ⟨fun safe => ?_, fun notSafe notChanging => ?_, fun changing waiters => ?_, fun w held => ?_, fun other => ?_⟩
  · refine answerRequest_of_refused ready (requestHold_safe fields right set ?_)
    show (match (s.train k).state with | .safe => true | _ => false) = true
    rw [safe]
  · have effect := requestHold_other (s := q) fields right set (inSafe_of_other notSafe)
    obtain ⟨m, state⟩ | ⟨w, state⟩ := steady_or_held notSafe notChanging
    · have isSteady : steady := by
        show (s.train k).state.steady?.isSome = true
        rw [state]
        rfl
      obtain ⟨t, ended, self, others, frame⟩ := ended_moved (s := q.setShaft (s.shaftOf k) ((s.shaft (s.shaftOf k)).waitless k)) clear k
        (TrainRec.takenOver { s.train k with waiting := none } (.held v) holdBases) [.edge (.modeChanged k)]
      rw [enterHeld_of_other (by rw [show (q.train k).state = _ from state]; rfl), takeOver_steady (s := q) state] at effect
      replace effect := effect.trans (congrArg (·, Reply.ok (u16 v.ws ++ u16 v.bp ++ u16 v.oa)) ended)
      rw [news_takenOver (clear k) none] at frame
      refine ⟨_, answerRequest_of_ports_kept ready effect (by rw [frame]; rfl), ?_⟩
      rw [if_pos isSteady, if_pos isSteady, if_pos isSteady]
      refine ⟨congrArg TrainRec.state self, congrArg TrainRec.bases self, (congrArg TrainRec.lockout self :),
        fun _ => ⟨congrArg TrainRec.dwell self, congrArg TrainRec.waiting self⟩, ?_, ?_, ?_, others, ?_⟩
      all_goals rw [frame]; rfl
    · have notSteady : ¬ steady := by
        show ¬ (s.train k).state.steady?.isSome = true
        rw [state]
        exact Bool.false_ne_true
      obtain ⟨t, ended, self, others, frame⟩ := ended_moved (s := q.handOn (.drive k .holdValues)) clear k
        (((s.train k).entering (.held v)).based holdBases) []
      rw [enterHeld_of_held (s := q) state] at effect
      replace effect := effect.trans (congrArg (·, Reply.ok (u16 v.ws ++ u16 v.bp ++ u16 v.oa)) ended)
      rw [news_of_entering (clear k)] at frame
      refine ⟨_, answerRequest_of_ports_kept ready effect (by rw [frame]; rfl), ?_⟩
      rw [if_neg notSteady, if_neg notSteady, if_neg notSteady]
      refine ⟨congrArg TrainRec.state self, congrArg TrainRec.bases self, (congrArg TrainRec.lockout self :),
        fun yes => absurd yes notSteady, ?_, ?_, ?_, others, ?_⟩
      · rw [frame]; rfl
      · rw [frame]; exact List.append_nil _
      · rw [frame]; rfl
      · rw [frame]; rfl
  · obtain ⟨r, state⟩ := changeover_of_isSome changing
    have effect := requestHold_other (s := q) fields right set
      (inSafe_of_other (by rw [show (q.train k).state = _ from state]; exact TrainState.noConfusion))
    obtain ⟨t, ended, self, passes, news, frame⟩ := ended_released (s := q) clear waiters
      { (s.train k).takenOver (.held v) holdBases with pendingForce := false } [.edge (.modeChanged k)]
    rw [enterHeld_of_other (by rw [show (q.train k).state = _ from state]; rfl), takeOver_changeover (s := q) state] at effect
    replace effect := effect.trans (congrArg (·, Reply.ok (u16 v.ws ++ u16 v.bp ++ u16 v.oa)) ended)
    rw [news_takenOver_force (clear k)] at news
    refine ⟨_, answerRequest_of_ports_kept ready effect (by rw [frame]), congrArg TrainRec.state self, congrArg TrainRec.bases self,
      (congrArg TrainRec.lockout self :), congrArg TrainRec.dwell self, congrArg TrainRec.pendingForce self, passes, news, ?_⟩
    rw [frame]
    rfl
  · have effect := requestRelease_eq (s := q) right set
    obtain ⟨t, ended, self, others, frame⟩ := ended_moved (s := q) clear k ((s.train k).steadied .bypass (s.params k).dwell)
      [.edge (.modeChanged k)]
    rw [leaveHeld_of_held (s := q) held, enterSteady_eq] at effect
    replace effect := effect.trans (congrArg (·, Reply.ok []) ended)
    rw [news_steadied (clear k)] at frame
    refine ⟨_, answerRequest_of_ports_kept ready effect (by rw [frame]), congrArg TrainRec.state self, congrArg TrainRec.bases self,
      congrArg TrainRec.dwell self, others, ?_⟩
    rw [frame]
    rfl
  · have released := requestRelease_eq (s := q) right set
    rw [leaveHeld_of_other (s := q) other, endEvent_clear (s := q) clear] at released
    exact answerRequest_of_ports_kept ready released rfl

end Sys2Proof.Machine
end

section
/-! Target decisions (R94 to R99, R106). -/

namespace Sys2Proof.Machine

theorem exec_targetDecision {s : State} {k : Train} {src : DecisionSource} {x : Handoff} (live : s.live)
    (found : s.handoffs.find? (Handoff.isDecision k src) = some x) : exec (.targetDecision k src) s =
      .next (((s.setHandoffs (s.handoffs.eraseP (Handoff.isDecision k src))).decideTarget k).endEvent) := by
  show execTargetDecision k src s = _
  rw [execTargetDecision, takeEvent_live live, takeHandoff_of_find found]

/-- A changeover that has steps is between two modes, not to OFFLINE and not between the two recovery modes (R98, R103). -/
theorem stepList_needed {a b : Mode} (needed : stepList a b ≠ []) : b ≠ a ∧ b ≠ .offline ∧ (b.recovers && a.recovers) = false := by
  revert needed
  cases a <;> cases b <;> decide

theorem bases_of_recovers {m : Mode} (recovers : m.recovers = true) : m.bases = ⟨.recover, .closed, .min⟩ := by
  cases m with
  | recoverHeat | recoverCool => rfl
  | offline | bypass | freeCool => cases recovers

theorem allocated_of_recovers {m : Mode} (recovers : m.recovers = true) : (TrainState.steady m).allocated = true := by
  cases m with
  | recoverHeat | recoverCool => rfl
  | offline | bypass | freeCool => cases recovers

section
variable {s : State} {k : Train} {target : Mode} {force : Bool}

theorem target?_fanOff (fan : (s.effective k).fan = false) : s.target? k = some (.offline, false) := by
  rw [State.target?, fan]
  rfl

theorem target?_force {m : Mode} (fan : (s.effective k).fan = true) (request : (s.effective k).request = .force m) :
    s.target? k = some (m, true) := by
  rw [State.target?, fan, request]
  rfl

theorem target?_auto (fan : (s.effective k).fan = true) (request : (s.effective k).request = .auto) :
    s.target? k = (s.bank k).decision.map fun d => (d.candidate, false) := by
  rw [State.target?, fan, request]
  rfl

theorem decideTarget_of_none (none : s.target? k = none) : s.decideTarget k = s := by
  rw [State.decideTarget, none]

theorem decideTarget_steady {m : Mode} (some : s.target? k = some (target, force)) (state : (s.train k).state = .steady m) :
    s.decideTarget k = s.decideSteady k m target force := by
  rw [State.decideTarget, some, state]

theorem decideTarget_changeover {r : Changeover} (some : s.target? k = some (target, force)) (state : (s.train k).state = .changeover r) :
    s.decideTarget k = s.decideChangeover k r target force := by
  rw [State.decideTarget, some, state]

/-- SAFE and HELD ignore a decision (R94). -/
theorem decideTarget_ignored (state : (s.train k).state = .safe ∨ ∃ v, (s.train k).state = .held v) : s.decideTarget k = s := by
  rw [State.decideTarget]
  split
  · rfl
  · obtain state | ⟨v, state⟩ := state <;> rw [state]

theorem decideChangeover_auto {r : Changeover} (other : target ≠ .offline) : s.decideChangeover k r target false = s := by
  rw [State.decideChangeover, if_neg other]
  rfl

theorem decideChangeover_own {r : Changeover} (other : target ≠ .offline) (own : target = r.target) :
    s.decideChangeover k r target force = s := by
  rw [State.decideChangeover, if_neg other, if_neg fun h => ?_]
  obtain ⟨-, named⟩ := Bool.and_eq_true_iff.1 h
  exact of_decide_eq_true named own

theorem decideChangeover_force {r : Changeover} (other : target ≠ .offline) (another : target ≠ r.target) :
    s.decideChangeover k r target true = s.setPendingForce k true := by
  rw [State.decideChangeover, if_neg other, if_pos]
  exact Bool.and_eq_true_iff.2 ⟨rfl, decide_eq_true another⟩

theorem decideChangeover_offline {r : Changeover} : s.decideChangeover k r .offline force =
    (s.moved k { (s.train k).steadied .offline (s.params k).dwell with pendingForce := false } [.edge (.modeChanged k)]).releaseSlot k := by
  rw [State.decideChangeover, if_pos rfl, enterSteady_eq, moved_setPendingForce]

/-- A steady mode entered at once (R96, R98): the waiting target is dropped with the place in the wait list. -/
theorem dropWaiting_enterSteady (m : Mode) : (s.dropWaiting k).enterSteady k m =
    (s.setShaft (s.shaftOf k) ((s.shaft (s.shaftOf k)).waitless k)).moved k
      (TrainRec.steadied { s.train k with waiting := none } m (s.params k).dwell) [.edge (.modeChanged k)] := by
  rw [dropWaiting_eq, moved_enterSteady]
  rfl

theorem news_steadied_waiting (clear : (s.train k).touched = .clear) (w : Option Mode) (m : Mode) (d : Nat) :
    (TrainRec.steadied { s.train k with waiting := w } m d).news k = s.basesTold k m.bases (TrainState.steady m).allocated :=
  news_of_entering clear _ _

theorem decideSteady_offline {m : Mode} (other : m ≠ .offline) : s.decideSteady k m .offline force = (s.dropWaiting k).enterSteady k .offline := by
  rw [State.decideSteady, if_neg (Ne.symm other), if_pos rfl]

/-- A train's own mode, and an AUTO target against a running dwell, drop a waiting target (R95, R97). -/
theorem decideSteady_stays {m : Mode} (stays : target = m ∨ target ≠ .offline ∧ force = false ∧ (s.train k).dwell ≠ none) :
    s.decideSteady k m target force = if (s.train k).waiting.isSome then s.dropWaiting k else s := by
  rw [State.decideSteady]
  by_cases own : target = m
  · exact if_pos own
  · obtain ⟨other, auto, dwells⟩ := stays.resolve_left own
    have running : (!force && (s.train k).dwell.isSome) = true := by
      rw [auto, Option.isSome_iff_ne_none.2 dwells]
      rfl
    exact (if_neg own).trans ((if_neg other).trans (if_pos running))

theorem decideSteady_swap {m : Mode} (another : target ≠ m) (source : m.recovers = true) (recovers : target.recovers = true)
    (free : force = true ∨ (s.train k).dwell = none) : s.decideSteady k m target force = (s.dropWaiting k).enterSteady k target := by
  have other : target ≠ .offline := by
    rintro rfl
    cases recovers
  have idle : ¬ (!force && (s.train k).dwell.isSome) = true := by
    obtain free | free := free <;> simp [free]
  rw [State.decideSteady, if_neg another, if_neg other]
  exact (if_neg idle).trans (if_pos (Bool.and_eq_true_iff.2 ⟨recovers, source⟩))

theorem decideSteady_asks {m : Mode} (needed : stepList m target ≠ []) (free : force = true ∨ (s.train k).dwell = none) :
    s.decideSteady k m target force = s.requestSlot k m target := by
  obtain ⟨another, other, swap⟩ := stepList_needed needed
  have idle : ¬ (!force && (s.train k).dwell.isSome) = true := by
    obtain free | free := free <;> simp [free]
  rw [State.decideSteady, if_neg another, if_neg other]
  refine (if_neg idle).trans (if_neg ?_)
  rw [swap]
  exact Bool.false_ne_true

/-- The end of an event that changed a train's record without a mark. -/
theorem endEvent_unmarked {x : TrainRec} (clear : ∀ j, (s.train j).touched = .clear) (mark : x.touched = .clear) :
    (s.setTrain k x).endEvent = s.setTrain k x := by
  refine endEvent_clear fun j => ?_
  by_cases same : j = k
  · rw [same, setTrain_train_self]
    exact mark
  · exact (congrArg TrainRec.touched (Vec.get_set_ne _ (Ne.symm same) _)).trans (clear j)

end

/-- The end of an event in which a train's slot was released with nobody waiting (R121). -/
theorem ended_released_alone {s : State} {k : Train} (clear : ∀ j, (s.train j).touched = .clear)
    (nobody : (s.shaft (s.shaftOf k)).waitList = []) (x : TrainRec) (told : List Raise) :
    ((s.moved k x told).releaseSlot k).endEvent = { s with
      trains := s.trains.set k x.settled
      shafts := s.shafts.set (s.shaftOf k) { s.shaft (s.shaftOf k) with holders := (s.shaft (s.shaftOf k)).holders.filter (· ≠ k) }
      raised := s.raised ++ told, handoffs := s.handoffs ++ x.news k } := by
  rw [releaseSlot_nil (s := s.moved k x told) nobody]
  exact endEvent_moved (s := s.dropHolder (s.shaftOf k) k) clear k x told

/-- Settles O27: the decision by the train's state, and the end of its event. -/
theorem decisionGoesOffline : Obligations.DecisionGoesOffline := by
  unfold Obligations.DecisionGoesOffline
  intro k src x s live found clear h rest told
  let q := s.setHandoffs rest
  have ran : exec (.targetDecision k src) s = .next ((q.decideTarget k).endEvent) := exec_targetDecision live found
  have ends {u : State} (decided : q.decideTarget k = u) : exec (.targetDecision k src) s = .next u.endEvent := decided ▸ ran
  have unchanged (decided : q.decideTarget k = q) : exec (.targetDecision k src) s = .next q := by
    rw [ends decided, endEvent_clear (s := q) clear]
  refine ⟨fun m state other fan => ?_, fun r state => ⟨fun fan ready => ?_, fun m fan request other another => ?_,
    fun m fan request other own => ?_, fun fan request none => ?_⟩, fun state => unchanged (decideTarget_ignored (s := q) state)⟩
  · have decided := decideTarget_steady (s := q) (target?_fanOff fan) state
    rw [decideSteady_offline other, dropWaiting_enterSteady] at decided
    obtain ⟨t, ended, self, others, frame⟩ := ended_moved (s := q.setShaft h ((s.shaft h).waitless k)) clear k
      (TrainRec.steadied { s.train k with waiting := none } .offline (s.params k).dwell) [.edge (.modeChanged k)]
    have shafts : t.shafts = s.shafts.set h ((s.shaft h).waitless k) := by rw [frame]; rfl
    rw [news_steadied_waiting (clear k)] at frame
    refine ⟨t, (ends decided).trans (congrArg _ ended), ?_⟩
    rw [self]
    refine ⟨rfl, rfl, rfl, rfl, rfl, others, shafts, frame.trans ?_⟩
    rw [shafts]
    rfl
  · have decided := decideTarget_changeover (s := q) (target?_fanOff fan) state
    rw [decideChangeover_offline] at decided
    let y : TrainRec := { (s.train k).steadied .offline (s.params k).dwell with pendingForce := false }
    have news : y.news k = told := news_of_entering (clear k) (.steady .offline) _
    obtain ⟨t, ended, self, passes, handed, frame⟩ := ended_released (s := q) clear ready y [.edge (.modeChanged k)]
    rw [news] at handed
    refine ⟨t, (ends decided).trans (congrArg _ ended), ?_⟩
    rw [self]
    refine ⟨rfl, rfl, rfl, rfl, rfl, passes, handed, fun nobody => ?_, frame⟩
    rw [← ended, ended_released_alone (s := q) clear nobody, news]
    rfl
  · have decided := decideTarget_changeover (s := q) (target?_force fan request) state
    rw [decideChangeover_force other another, State.setPendingForce] at decided
    rw [ends decided]
    exact congrArg _ (endEvent_unmarked (s := q) clear (clear k))
  · have decided := decideTarget_changeover (s := q) (target?_force fan request) state
    rw [decideChangeover_own other own] at decided
    exact unchanged decided
  · cases decision : (s.bank k).decision with
    | none =>
      refine unchanged (decideTarget_of_none ?_)
      rw [target?_auto (s := q) fan request, show (q.bank k).decision = _ from decision]
      rfl
    | some d =>
      have some : q.target? k = some (d.candidate, false) := by
        rw [target?_auto (s := q) fan request, show (q.bank k).decision = _ from decision]
        rfl
      have decided := decideTarget_changeover some state
      rw [decideChangeover_auto (none d decision)] at decided
      exact unchanged decided

section
variable {s : State} {k : Train} {m target : Mode}

theorem requestSlot_waiting {w : Mode} (waits : (s.train k).waiting = some w) : s.requestSlot k m target =
    if w = target then s else s.replaceWaiting k target := by
  rw [State.requestSlot, waits]

theorem requestSlot_joins (waits : (s.train k).waiting = none)
    (full : (s.active.shafts.get (s.shaftOf k)).slotLimit ≤ (s.shaft (s.shaftOf k)).holders.length) :
    s.requestSlot k m target = s.joinWaitList k target := by
  rw [State.requestSlot, waits]
  exact if_neg (Nat.not_lt.2 full)

/-- A slot free: the changeover starts (R101). -/
theorem requestSlot_granted (waits : (s.train k).waiting = none)
    (free : (s.shaft (s.shaftOf k)).holders.length < (s.active.shafts.get (s.shaftOf k)).slotLimit)
    (runs : ((s.addHolder (s.shaftOf k) k).startChangeover k m target).2 = false) :
    s.requestSlot k m target = ((s.addHolder (s.shaftOf k) k).startChangeover k m target).1 := by
  rw [State.requestSlot, waits]
  refine (if_pos free).trans (if_neg ?_)
  rw [runs]
  exact Bool.false_ne_true

end

/-- Settles O28: the steady train's decision by its target, and the end of its event. -/
theorem decisionAsksForSlot : Obligations.DecisionAsksForSlot := by
  unfold Obligations.DecisionAsksForSlot
  intro k src x m s live found clear state h rest decided unchanged dropped
  let q := s.setHandoffs rest
  have ran : decided = .next ((q.decideTarget k).endEvent) := exec_targetDecision live found
  have ends {u : State} (decides : q.decideTarget k = u) : decided = .next u.endEvent := decides ▸ ran
  have stays (same : q.decideTarget k = q) : decided = unchanged := by
    rw [ran, same, endEvent_clear (s := q) clear]
  have drops : (q.dropWaiting k).endEvent = dropped := by
    rw [dropWaiting_eq, ← setTrain_eq_moved]
    exact endEvent_unmarked (s := q.setShaft h ((s.shaft h).waitless k)) clear (clear k)
  refine ⟨fun none => stays (decideTarget_of_none (s := q) none), fun target force some =>
    ⟨fun kept => ?_, fun another source recovers free => ?_, fun needed free => ?_⟩⟩
  all_goals have decides := decideTarget_steady (s := q) some state
  · rw [decideSteady_stays (s := q) kept] at decides
    refine ⟨fun none => stays (decides.trans (if_neg ?_)), fun waits => ?_⟩
    · rw [show (q.train k).waiting = _ from none]
      exact Bool.false_ne_true
    · rw [ran, decides, if_pos (show (q.train k).waiting.isSome = true from Option.isSome_iff_ne_none.2 waits), drops]
  · rw [decideSteady_swap (s := q) another source recovers free, dropWaiting_enterSteady] at decides
    obtain ⟨t, ended, self, others, frame⟩ := ended_moved (s := q.setShaft h ((s.shaft h).waitless k)) clear k
      (TrainRec.steadied { s.train k with waiting := none } target (s.params k).dwell) [.edge (.modeChanged k)]
    have shafts : t.shafts = dropped.shafts := by rw [frame]; rfl
    rw [news_steadied_waiting (clear k), bases_of_recovers recovers, allocated_of_recovers recovers] at frame
    refine ⟨t, (ends decides).trans (congrArg _ ended), ?_⟩
    rw [self]
    refine ⟨rfl, bases_of_recovers recovers, rfl, rfl, rfl, others, shafts, frame.trans ?_⟩
    rw [shafts]
    rfl
  · rw [decideSteady_asks (s := q) needed free] at decides
    refine ⟨fun waits => ?_, fun w waits another => ?_, fun waits full => ?_, fun waits slot stroke spinDown => ?_⟩
    · rw [requestSlot_waiting (s := q) waits, if_pos rfl] at decides
      exact stays decides
    · rw [requestSlot_waiting (s := q) waits, if_neg another] at decides
      rw [ran, decides]
      exact congrArg _ (endEvent_unmarked (s := q.setShaft h { s.shaft h with
        waitList := (s.shaft h).waitList.map fun e => if e.train = k then ⟨k, target⟩ else e }) clear (clear k))
    · rw [requestSlot_joins (s := q) waits full] at decides
      rw [ran, decides]
      exact congrArg _ (endEvent_unmarked (s := q.setShaft h { s.shaft h with
        waitList := (s.shaft h).waitList ++ [⟨k, target⟩] }) clear (clear k))
    · obtain ⟨y, started, -, -, dwell, force, -, -, runs⟩ := startChangeover_eq (q.addHolder h k) k m target
      obtain ⟨runs, r, record⟩ := runs needed stroke spinDown
      rw [requestSlot_granted (s := q) waits slot runs] at decides
      obtain ⟨t, ended, self, others, frame⟩ := ended_moved (s := q.addHolder h k) clear k y [.edge (.modeChanged k)]
      obtain ⟨changing, source, towards, steps, index⟩ := record
      have shafts : t.shafts = s.shafts.set h { s.shaft h with holders := (s.shaft h).holders ++ [k] } := by rw [frame]; rfl
      refine ⟨t, r, (ends (decides.trans started)).trans (congrArg _ ended), ?_⟩
      rw [self]
      refine ⟨changing, source, towards, steps, index, dwell, force, others, shafts, ?_⟩
      rw [frame]
      rfl

end Sys2Proof.Machine
end

section
/-! Changeovers: their steps, their completion, and the restart lockout of the wheel (R102 to R107). -/

namespace Sys2Proof.Machine

/-- A train record whose changeover has completed (R107). -/
def TrainRec.completed (t : TrainRec) (m : Mode) (dwell : Nat) : TrainRec := { t.steadied m dwell with pendingForce := false }

/-- The mode a pending force of a train record names as its changeover completes (R107). -/
def State.forced (s : State) (k : Train) (t : TrainRec) : Option Mode :=
  if t.pendingForce then (s.effective k).request.forced? else none

section
variable {s : State} {k : Train} {x : TrainRec} {told : List Raise} {m m' : Mode}

theorem moved_completed : ((s.moved k x told).enterSteady k m).setPendingForce k false =
    s.moved k (x.completed m (s.params k).dwell) (told ++ [.edge (.modeChanged k)]) := by
  rw [moved_enterSteady, moved_setPendingForce]
  rfl

/-- No force pends, or one for the mode reached: the slot passes on (R107). -/
theorem complete_releases (own : s.forced k x = none ∨ s.forced k x = some m) : (s.moved k x told).complete k m =
    (s.moved k (x.completed m (s.params k).dwell) (told ++ [.edge (.modeChanged k)])).releaseSlot k := by
  rw [State.complete]
  dsimp only
  rw [moved_train_self, moved_completed]
  split
  · next m' pending request =>
    have forced : s.forced k x = some m' := by
      rw [State.forced, if_pos pending]
      exact request
    rw [forced] at own
    exact if_pos (Option.some.inj (own.resolve_left (Option.some_ne_none m')))
  · rfl

theorem complete_forced (forced : s.forced k x = some m') (another : m' ≠ m) : (s.moved k x told).complete k m =
    let u := s.moved k (x.completed m (s.params k).dwell) (told ++ [.edge (.modeChanged k)])
    if m'.recovers && m.recovers then (u.enterSteady k m').releaseSlot k
    else if (u.startChangeover k m m').2 then ((u.startChangeover k m m').1.enterSteady k m').releaseSlot k else (u.startChangeover k m m').1 := by
  have pending : x.pendingForce = true := by
    by_contra off
    rw [State.forced, if_neg off] at forced
    cases forced
  rw [State.forced, if_pos pending] at forced
  rw [State.complete]
  dsimp only
  rw [moved_train_self, moved_completed, pending]
  split
  · next n _ request =>
    obtain rfl : m' = n := Option.some.inj (forced.symm.trans request)
    exact if_neg another
  · next none => exact absurd forced (none m' rfl)

/-- A force between the two recovery modes is followed at once (R107). -/
theorem complete_swaps (forced : s.forced k x = some m') (another : m' ≠ m) (source : m.recovers = true) (recovers : m'.recovers = true) :
    (s.moved k x told).complete k m = (s.moved k ((x.completed m (s.params k).dwell).steadied m' (s.params k).dwell)
      (told ++ [.edge (.modeChanged k), .edge (.modeChanged k)])).releaseSlot k := by
  rw [complete_forced forced another]
  dsimp only
  rw [if_pos (Bool.and_eq_true_iff.2 ⟨recovers, source⟩), moved_enterSteady, List.append_assoc]
  rfl

/-- Any other force starts a new changeover under the same slot (R107). -/
theorem complete_restarts (forced : s.forced k x = some m') (needed : stepList m m' ≠ [])
    (runs : ((s.moved k (x.completed m (s.params k).dwell) (told ++ [.edge (.modeChanged k)])).startChangeover k m m').2 = false) :
    (s.moved k x told).complete k m =
      ((s.moved k (x.completed m (s.params k).dwell) (told ++ [.edge (.modeChanged k)])).startChangeover k m m').1 := by
  obtain ⟨another, -, swap⟩ := stepList_needed needed
  rw [complete_forced forced another]
  dsimp only
  rw [swap, if_neg Bool.false_ne_true, if_neg]
  rw [runs]
  exact Bool.false_ne_true

end

/-! The next step of a running changeover (R102, R104). -/

/-- A train record in a step that waits. -/
def TrainRec.stepping (t : TrainRec) (r : Changeover) : TrainRec := { t with state := .changeover r }

section
variable {s : State} {k : Train} {r : Changeover}

theorem completeStep_waits {j : Nat} {phase : StepPhase} {timer : Timer} {x : TrainRec}
    (came : State.runSteps k r.target (r.steps.drop r.index) (r.index + 1) s = (s.setTrain k x, .waits j phase timer)) :
    s.completeStep k r = s.setTrain k (x.stepping { r with index := j, phase := phase, timer := timer }) := by
  rw [State.completeStep, proceed_waits (r := r) (i := r.index + 1) (congrArg Prod.snd came)]
  dsimp only
  rw [if_neg Bool.false_ne_true, Nat.add_sub_cancel, came, State.setRecord, setTrain_train_self, setTrain_setTrain]
  rfl

theorem completeStep_done {x : TrainRec}
    (came : State.runSteps k r.target (r.steps.drop r.index) (r.index + 1) s = (s.setTrain k x, .done)) :
    s.completeStep k r = (s.moved k x []).complete k r.target := by
  rw [State.completeStep, proceed_done (r := r) (i := r.index + 1) (congrArg Prod.snd came)]
  dsimp only
  rw [if_pos rfl, Nat.add_sub_cancel, came, setTrain_eq_moved]

theorem drop_of_getElem? {α : Type} {xs : List α} {i : Nat} {x : α} (at_i : xs[i]? = some x) : xs.drop i = x :: xs.drop (i + 1) := by
  obtain ⟨bound, rfl⟩ := List.getElem?_eq_some_iff.1 at_i
  exact List.drop_eq_getElem_cons bound

/-- A damper step begins: its basis is set and its stroke time runs (R102). -/
theorem completeStep_damper {x : Step} (next : r.steps[r.index]? = some x) (damper : x = .bypassOpen ∨ x = .bypassClose ∨ x = .oaSet)
    (stroke : 0 < (s.params k).stroke) : s.completeStep k r = s.setTrain k
      (((s.train k).based (beginBasis r.target (s.train k).bases x)).stepping
        { r with index := r.index + 1, phase := .timing, timer := some (s.params k).stroke }) := by
  refine completeStep_waits ?_
  have strokes : startTimer (s.params k).stroke = some (s.params k).stroke := if_neg (by omega)
  obtain rfl | rfl | rfl := damper
  all_goals
    rw [drop_of_getElem? next]
    unfold State.runSteps
    dsimp only [stepDuration]
    rw [show (s.setBases k _).params k = s.params k from rfl, strokes]
    rfl

/-- A WHEEL_UP waits while the restart lockout runs (R102). -/
theorem completeStep_wheelUp (next : r.steps[r.index]? = some .wheelUp) (locked : (s.train k).lockout ≠ none) :
    s.completeStep k r = s.setTrain k ((s.train k).stepping { r with index := r.index + 1, phase := .waitLockout, timer := none }) := by
  refine completeStep_waits ?_
  rw [drop_of_getElem? next, State.runSteps]
  have same : s.setBases k (beginBasis r.target (s.train k).bases .wheelUp) = s.setTrain k (s.train k) :=
    (setBases_eq s k _).trans (congrArg (s.setTrain k) (based_self _))
  dsimp only
  rw [same, setTrain_self, if_pos (Option.isSome_iff_ne_none.2 locked)]

/-- With no step left, or WHEEL_UP alone and no lockout, the changeover completes in this event (R104, R107). -/
theorem completeStep_last (last : r.steps.length = r.index ∨
      r.steps[r.index]? = some .wheelUp ∧ r.steps.length = r.index + 1 ∧ (s.train k).lockout = none) :
    ∃ x, s.completeStep k r = (s.moved k x []).complete k r.target ∧ (x = s.train k ∨
      r.steps.length ≠ r.index ∧ x = (s.train k).based { (s.train k).bases with wheel := .recover }) := by
  obtain all | ⟨next, length, unlocked⟩ := last
  · refine ⟨s.train k, completeStep_done ?_, .inl rfl⟩
    rw [List.drop_eq_nil_of_le (Nat.le_of_eq all), setTrain_self]
    rfl
  · refine ⟨_, completeStep_done ?_, .inr ⟨by omega, rfl⟩⟩
    have same : s.setBases k (beginBasis r.target (s.train k).bases .wheelUp) = s.setTrain k (s.train k) :=
      (setBases_eq s k _).trans (congrArg (s.setTrain k) (based_self _))
    rw [drop_of_getElem? next, State.runSteps, List.drop_eq_nil_of_le (Nat.le_of_eq length)]
    dsimp only
    rw [same, setTrain_self, unlocked]
    rfl

end

section
variable {s : State} {k : Train} {m : Mode}

theorem news_completed (clear : (s.train k).touched = .clear) (d : Nat) :
    ((s.train k).completed m d).news k = s.basesTold k m.bases (TrainState.steady m).allocated := news_of_entering clear _ _

/-- A wheel basis set to RECOVER before the mode's own bases are set is told once (R92, R107). -/
theorem news_wheelUp (clear : (s.train k).touched = .clear) (recovers : m.recovers = true) (d : Nat) :
    (((s.train k).based { (s.train k).bases with wheel := .recover }).completed m d).news k =
      s.basesTold k m.bases (TrainState.steady m).allocated := by
  have once : (((s.train k).based { (s.train k).bases with wheel := .recover }).completed m d).touched.bases =
      ((s.train k).completed m d).touched.bases := by
    have wheel : m.bases.wheel = .recover := by rw [bases_of_recovers recovers]
    simp only [TrainRec.completed, TrainRec.steadied, TrainRec.based, TrainRec.entering, clear, Touched.clear, Bool.false_or]
    rw [Bool.eq_iff_iff, Bool.or_eq_true, bne_iff_ne, bne_iff_ne, bne_iff_ne, ← not_and_or, not_iff_not]
    generalize (s.train k).bases = b
    constructor
    · rintro ⟨kept, set⟩
      rw [set, kept]
    · rintro rfl
      have kept : ({ m.bases with wheel := .recover } : Bases) = m.bases := by rw [← wheel]
      exact ⟨kept, kept.symm⟩
  have oa : (((s.train k).based { (s.train k).bases with wheel := .recover }).completed m d).touched.oa =
      ((s.train k).completed m d).touched.oa := by
    simp [TrainRec.completed, TrainRec.steadied, TrainRec.based, TrainRec.entering]
  rw [← news_completed clear d]
  unfold TrainRec.news
  rw [once, oa]
  rfl

end

theorem exec_stepTimerExpiry {s : State} {k : Train} {r : Changeover} (live : s.live) (state : (s.train k).state = .changeover r) :
    exec (.stepTimerExpiry k) s =
      .next (if r.phase = .timing ∧ r.timer = some 0 then (s.completeStep k r).endEvent else s) := by
  show execStepTimerExpiry k s = _
  rw [execStepTimerExpiry, takeEvent_live live, State.expireStep, state]
  dsimp only
  have due : (decide (r.phase = .timing) && timeIsUp r.timer) = true ↔ r.phase = .timing ∧ r.timer = some 0 := by
    rw [Bool.and_eq_true_iff, decide_eq_true_iff, timeIsUp_iff]
  rw [if_congr due rfl rfl]

end Sys2Proof.Machine
end

section
/-! The events of a changeover: a step timer's expiry, the wheel at rest, the restart lockout's expiry (R104, R105, R107). -/

namespace Sys2Proof.Machine

theorem allocated_of_not_offline {m : Mode} (other : m ≠ .offline) : (TrainState.steady m).allocated = true := by
  cases m with
  | offline => exact absurd rfl other
  | recoverHeat | recoverCool | bypass | freeCool => rfl

/-- The news of a train whose basis a step set (R92, R102). -/
theorem news_stepping {s : State} {k : Train} {r : Changeover} (clear : (s.train k).touched = .clear) (state : (s.train k).state = .changeover r)
    (b : Bases) (r' : Changeover) : (((s.train k).based b).stepping r').news k = s.basesTold k b true := by
  have standing : ((s.train k).based b).stepping r' = ((s.train k).entering (.changeover r')).based b := by
    unfold TrainRec.entering TrainRec.stepping TrainRec.based
    rw [clear, state]
    rfl
  rw [standing]
  exact news_of_entering clear _ _

theorem completed_of_rebased {t x : TrainRec} (rebased : t.Rebased x) (m : Mode) (d : Nat) :
    (x.completed m d).waiting = t.waiting ∧ (x.completed m d).lockout = t.lockout ∧ x.pendingForce = t.pendingForce := by
  rw [rebased.only]
  exact ⟨rfl, rfl, rfl⟩

/-- Settles O30: the step that begins, waits or completes, and what a completed changeover makes of a pending force. -/
theorem stepExpiryMovesOn : Obligations.StepExpiryMovesOn := by
  unfold Obligations.StepExpiryMovesOn
  intro k r s live clear state first h mode forced wheelUpLast last
  have ran := exec_stepTimerExpiry live state
  have ends {u : State} (timing : r.phase = .timing) (due : r.timer = some 0) (step : s.completeStep k r = u) :
      exec (.stepTimerExpiry k) s = .next u.endEvent := by
    rw [ran, if_pos ⟨timing, due⟩, step]
  refine ⟨fun early => ?_, fun x timing due next damper stroke => ?_, fun timing due next locked => ?_, ?_⟩
  · rw [ran, if_neg (not_and_or.2 early)]
  · have step := completeStep_damper next damper stroke
    let b := beginBasis r.target (s.train k).bases x
    let r' : Changeover := { r with index := r.index + 1, phase := .timing, timer := some (s.params k).stroke }
    obtain ⟨t, ended, self, others, frame⟩ := ended_moved clear k (((s.train k).based b).stepping r') []
    rw [setTrain_eq_moved] at step
    rw [news_stepping (clear k) state, List.append_nil] at frame
    refine ⟨t, (ends timing due step).trans (congrArg _ ended), ?_⟩
    rw [self]
    refine ⟨rfl, ?_, others, frame⟩
    obtain rfl | rfl | rfl := damper <;> rfl
  · rw [ends timing due (completeStep_wheelUp next locked)]
    exact congrArg _ (endEvent_unmarked clear (clear k))
  have completes (ended : last) : ∃ x, s.completeStep k r = (s.moved k x []).complete k r.target ∧ (s.train k).Rebased x ∧
      s.forced k x = forced ∧ (x = s.train k ∨
        r.steps.length ≠ r.index ∧ x = (s.train k).based { (s.train k).bases with wheel := .recover }) := by
    obtain ⟨timing, due, ended⟩ := ended
    obtain ⟨x, step, record⟩ := completeStep_last ended
    have rebased : (s.train k).Rebased x := by
      obtain rfl | ⟨-, rfl⟩ := record
      · exact .refl _
      · exact based_rebased _ _
    refine ⟨x, step, rebased, ?_, record⟩
    rw [State.forced, (completed_of_rebased rebased r.target 0).2.2]
  refine ⟨fun ended idle nobody => ?_, fun ended own ready => ?_, fun m ended force another recovers source ready => ?_,
    fun m ended force needed stroke spinDown => ?_⟩
  all_goals
    obtain ⟨x, step, rebased, same, record⟩ := completes ended
    obtain ⟨timing, due, -⟩ := ended
    obtain ⟨-, lockout, -⟩ := completed_of_rebased rebased r.target (s.params k).dwell
  · have own : s.forced k x = none := by
      rw [same]
      exact if_neg (idle ▸ Bool.false_ne_true)
    rw [complete_releases (.inl own)] at step
    have alone := ended_released_alone clear nobody (x.completed r.target (s.params k).dwell) [mode k]
    have self : ∀ t : State, t.trains = s.trains.set k (x.completed r.target (s.params k).dwell).settled →
        t.train k = (x.completed r.target (s.params k).dwell).settled := fun t trains => by
      rw [State.train, trains]
      exact Vec.get_set_self _ _ _
    refine ⟨_, (ends timing due step).trans (congrArg _ alone), ?_⟩
    rw [self _ rfl]
    refine ⟨rfl, rfl, bases_of_recovers, rfl, lockout, fun j other => Vec.get_set_ne _ (Ne.symm other) _, rfl, fun other told => ?_, rfl⟩
    rw [← allocated_of_not_offline other]
    obtain rfl | ⟨more, rfl⟩ := record
    · exact congrArg (s.handoffs ++ ·) (news_completed (clear k) _)
    · exact congrArg (s.handoffs ++ ·) (news_wheelUp (clear k) (told.resolve_left more) _)
  · rw [complete_releases (same.symm ▸ own)] at step
    obtain ⟨t, ended, self, passes, -, frame⟩ := ended_released clear ready (x.completed r.target (s.params k).dwell) [mode k]
    refine ⟨t, (ends timing due step).trans (congrArg _ ended), ?_⟩
    rw [self]
    exact ⟨rfl, rfl, rfl, rfl, lockout, passes, frame⟩
  · rw [complete_swaps (same.trans force) another source recovers] at step
    obtain ⟨t, ended, self, passes, -, frame⟩ := ended_released clear ready
      ((x.completed r.target (s.params k).dwell).steadied m (s.params k).dwell) [mode k, mode k]
    refine ⟨t, (ends timing due step).trans (congrArg _ ended), ?_⟩
    rw [self]
    exact ⟨rfl, rfl, rfl, rfl, lockout, passes, frame⟩
  · let u := s.moved k (x.completed r.target (s.params k).dwell) ([] ++ [mode k])
    obtain ⟨y, started, -, lockout', dwell, idle, -, -, runs⟩ := startChangeover_eq u k r.target m
    obtain ⟨runs, r', changing, source, towards, steps, index⟩ := runs needed stroke spinDown
    rw [moved_moved] at started
    rw [moved_train_self] at lockout'
    rw [complete_restarts (same.trans force) needed runs] at step
    obtain ⟨t, ended, self, others, frame⟩ := ended_moved clear k y [mode k, mode k]
    refine ⟨t, r', (ends timing due (step.trans started)).trans (congrArg _ ended), ?_⟩
    rw [self]
    refine ⟨changing, source, towards, steps, index, dwell, idle, lockout'.trans lockout, others, ?_⟩
    rw [frame]

/-! The wheel at rest (R105). -/

theorem wheelAtRest_waits {s : State} {k : Train} {r : Changeover} (state : (s.train k).state = .changeover r)
    (step : r.step? = some .wheelDown) (phase : r.phase = .waitWheelZero) (spinDown : 0 < (s.params k).spinDown) :
    s.wheelAtRest k = s.setRecord k { r with phase := .timing, timer := some (s.params k).spinDown } := by
  have spins : startTimer (s.params k).spinDown = some (s.params k).spinDown := if_neg (by omega)
  rw [State.wheelAtRest, state]
  dsimp only
  rw [if_pos ⟨step, phase⟩, spins]

theorem wheelAtRest_other {s : State} {k : Train}
    (other : ∀ r, (s.train k).state = .changeover r → ¬ (r.step? = some .wheelDown ∧ r.phase = .waitWheelZero)) : s.wheelAtRest k = s := by
  unfold State.wheelAtRest
  split
  · next r state => exact if_neg (other r state)
  · rfl

/-- Settles O31: the lockout started, and the WHEEL_DOWN that waited for it. -/
theorem wheelZeroStartsLockout : Obligations.WheelZeroStartsLockout := by
  unfold Obligations.WheelZeroStartsLockout
  intro k s live event clear spinDown
  obtain ⟨x, found⟩ := Option.isSome_iff_exists.1 (List.find?_isSome.2 ⟨_, event, show Handoff.isWheelZero k (.wheelZero k) = true from
    decide_eq_true rfl⟩)
  let q := s.setHandoffs (s.handoffs.eraseP (Handoff.isWheelZero k))
  let answer := Handoff.drive k (if (s.params k).restartLockout = 0 then .lockoutExpiry true else .lockoutStart)
  let y : TrainRec := { s.train k with lockout := startTimer (s.params k).restartLockout }
  have ran : exec (.wheelZeroEvent k) s = .next (((q.startLockout k).wheelAtRest k).endEvent) := by
    show execWheelZeroEvent k s = _
    rw [execWheelZeroEvent, takeEvent_live live, takeHandoff_of_find found]
  have started : q.startLockout k = (q.handOn answer).setTrain k y := by
    have told : (if (startTimer (s.params k).restartLockout).isSome then Occasion.lockoutStart else .lockoutExpiry true) =
        if (s.params k).restartLockout = 0 then .lockoutExpiry true else .lockoutStart := by
      unfold startTimer
      split
      · rfl
      · rfl
    rw [State.startLockout]
    exact congrArg (fun o => (q.handOn (.drive k o)).setTrain k y) told
  rw [ran, started]
  by_cases waits : ∃ r, (s.train k).state = .changeover r ∧ r.step? = some .wheelDown ∧ r.phase = .waitWheelZero
  · obtain ⟨r, state, step, phase⟩ := waits
    have rest := wheelAtRest_waits (s := (q.handOn answer).setTrain k y) (k := k) (by rw [setTrain_train_self]; exact state) step phase
      (spinDown r state step phase)
    rw [rest, State.setRecord, setTrain_train_self, setTrain_setTrain, state]
    dsimp only
    rw [if_pos ⟨step, phase⟩]
    exact congrArg _ (endEvent_unmarked (s := q.handOn answer) clear (clear k))
  · have rest := wheelAtRest_other (s := (q.handOn answer).setTrain k y) (k := k) fun r state waiting => by
      rw [setTrain_train_self] at state
      exact waits ⟨r, state, waiting⟩
    rw [rest, endEvent_unmarked (s := q.handOn answer) clear (show y.touched = .clear from clear k)]
    have kept : (match (s.train k).state with
        | .changeover r => if r.step? = some .wheelDown ∧ r.phase = .waitWheelZero then
            .changeover { r with phase := .timing, timer := some (s.params k).spinDown } else .changeover r
        | x => x) = (s.train k).state := by
      split
      · next r state => exact (if_neg fun waiting => waits ⟨r, state, waiting⟩).trans state.symm
      · rfl
    exact congrArg (fun st => Host.Outcome.next ((q.handOn answer).setTrain k { y with state := st })) kept.symm

/-! The restart lockout's expiry (R105). -/

section
variable {s : State} {k : Train}

/-- A train's lockout stopped, and the Drive Stage told (R105). -/
def State.unlocked (s : State) (k : Train) : State :=
  (s.handOn (.drive k (.lockoutExpiry false))).setTrain k { s.train k with lockout := none }

theorem endLockout_waits {r : Changeover} (state : (s.train k).state = .changeover r) (step : r.step? = some .wheelUp)
    (phase : r.phase = .waitLockout) :
    s.endLockout k = ((s.unlocked k).setBases k { (s.train k).bases with wheel := .recover }).completeStep k r := by
  have told : (s.setTrain k { s.train k with lockout := none }).handOn (.drive k (.lockoutExpiry false)) = s.unlocked k := rfl
  rw [State.endLockout, told]
  have state' : ((s.unlocked k).train k).state = .changeover r := by rw [State.unlocked, setTrain_train_self]; exact state
  have bases : ((s.unlocked k).train k).bases = (s.train k).bases := by rw [State.unlocked, setTrain_train_self]
  dsimp only
  rw [state', bases]
  exact if_pos ⟨step, phase⟩

theorem endLockout_other (other : ∀ r, (s.train k).state = .changeover r → r.phase ≠ .waitLockout) : s.endLockout k = s.unlocked k := by
  have told : (s.setTrain k { s.train k with lockout := none }).handOn (.drive k (.lockoutExpiry false)) = s.unlocked k := rfl
  rw [State.endLockout, told]
  dsimp only
  split
  · next r state =>
    rw [State.unlocked, setTrain_train_self] at state
    exact if_neg fun waits => other r state waits.2
  · rfl

theorem exec_restartLockoutExpiry (live : s.live) : exec (.restartLockoutExpiry k) s =
    .next (if (s.train k).lockout = some 0 then (s.endLockout k).endEvent else s) := by
  show execRestartLockoutExpiry k s = _
  rw [execRestartLockoutExpiry, takeEvent_live live, if_congr timeIsUp_iff rfl rfl]

end

/-- Settles O32: the lockout that ends, and the WHEEL_UP that waited for it. -/
theorem lockoutExpiryReleasesWheel : Obligations.LockoutExpiryReleasesWheel := by
  unfold Obligations.LockoutExpiryReleasesWheel
  intro k s live clear
  have ran := exec_restartLockoutExpiry (k := k) live
  let q := s.handOn (.drive k (.lockoutExpiry false))
  refine ⟨fun early => ?_, fun due other => ?_, fun r due state phase step last first recovers idle nobody => ?_⟩
  · rw [ran, if_neg early]
  · rw [ran, if_pos due, endLockout_other other]
    exact congrArg _ (endEvent_unmarked (s := q) clear (clear k))
  · rw [if_pos due, endLockout_waits state step phase] at ran
    let y : TrainRec := TrainRec.based { s.train k with lockout := none } { (s.train k).bases with wheel := .recover }
    have set : (s.unlocked k).setBases k { (s.train k).bases with wheel := .recover } = q.moved k y [] := by
      rw [setBases_eq, State.unlocked, setTrain_train_self, setTrain_setTrain, setTrain_eq_moved]
    obtain ⟨x, completes, record⟩ := completeStep_last (s := q.setTrain k y) (k := k) (.inl last)
    obtain rfl := record.resolve_right fun more => more.1 last
    have own : q.forced k y = none := if_neg (show ¬ (s.train k).pendingForce = true from idle ▸ Bool.false_ne_true)
    rw [setTrain_train_self, setTrain_eq_moved, moved_moved, complete_releases (s := q) (.inl own)] at completes
    have alone := ended_released_alone (s := q) clear nobody (y.completed r.target (s.params k).dwell) [.edge (.modeChanged k)]
    have news : (y.completed r.target (s.params k).dwell).news k = s.basesTold k ⟨.recover, .closed, .min⟩ true := by
      rw [← bases_of_recovers recovers, ← allocated_of_recovers recovers]
      exact news_wheelUp (clear k) recovers (s.params k).dwell
    rw [news] at alone
    have self : ∀ t : State, t.trains = s.trains.set k (y.completed r.target (s.params k).dwell).settled →
        t.train k = (y.completed r.target (s.params k).dwell).settled := fun t trains => by
      rw [State.train, trains]
      exact Vec.get_set_self _ _ _
    have shaft : ∀ t : State, t.shafts = s.shafts.set (s.shaftOf k) { s.shaft (s.shaftOf k) with
        holders := (s.shaft (s.shaftOf k)).holders.filter (· ≠ k) } →
        (t.shaft (s.shaftOf k)).holders = (s.shaft (s.shaftOf k)).holders.filter (· ≠ k) := fun t shafts => by
      rw [State.shaft, shafts, Vec.get_set_self]
    refine ⟨_, ran.trans (congrArg _ ((congrArg State.endEvent ((congrArg (State.completeStep · k r) set).trans completes)).trans alone)), ?_⟩
    rw [self _ rfl, shaft _ rfl]
    refine ⟨rfl, bases_of_recovers recovers, rfl, rfl, fun mem => ?_, fun j other => Vec.get_set_ne _ (Ne.symm other) _, rfl⟩
    exact of_decide_eq_true (List.mem_filter.1 mem).2 rfl

end Sys2Proof.Machine
end

section
/-! Trains, slots and wait lists (chapters 6 and 7) at every step. -/

namespace Sys2Proof.Machine

/-! Changeover records. -/

/-- What a step that waits looks like in the record (R101, R102). -/
structure WaitsAt (x : Step) (phase : StepPhase) (timer : Timer) : Prop where
  wheelZero : phase = .waitWheelZero → x = .wheelDown
  lockout : phase = .waitLockout → x = .wheelUp
  wheelUp : x = .wheelUp → phase = .waitLockout
  timer : phase = .timing ↔ timer.isSome = true

theorem timing_waitsAt {x : Step} (h : x ≠ .wheelUp) (d : Nat) : WaitsAt x .timing (some d) :=
  ⟨StepPhase.noConfusion, StepPhase.noConfusion, fun e => absurd e h, iff_of_true rfl rfl⟩

theorem wheelZero_waitsAt : WaitsAt .wheelDown .waitWheelZero none :=
  ⟨fun _ => rfl, StepPhase.noConfusion, Step.noConfusion, iff_of_false StepPhase.noConfusion Bool.false_ne_true⟩

theorem lockout_waitsAt : WaitsAt .wheelUp .waitLockout none :=
  ⟨StepPhase.noConfusion, fun _ => rfl, fun _ => rfl, iff_of_false StepPhase.noConfusion Bool.false_ne_true⟩

/-- Where the steps begun in one event come to wait. -/
theorem runSteps_waits {k : Train} {target : Mode} {steps : List Step} {i j : Nat} {phase : StepPhase} {timer : Timer} {s : State}
    (h : (State.runSteps k target steps i s).2 = .waits j phase timer) :
    ∃ n x, j = i + n ∧ steps[n]? = some x ∧ WaitsAt x phase timer := by
  induction steps generalizing i s with
  | nil => cases h
  | cons st rest ih =>
    have later {u : State} (h : (State.runSteps k target rest (i + 1) u).2 = .waits j phase timer) :
        ∃ n x, j = i + n ∧ (st :: rest)[n]? = some x ∧ WaitsAt x phase timer := by
      obtain ⟨n, x, index, found, waits⟩ := ih h
      exact ⟨n + 1, x, by omega, by rw [List.getElem?_cons_succ]; exact found, waits⟩
    unfold State.runSteps at h
    dsimp only at h
    split at h
    · split at h
      · cases h; exact ⟨0, _, rfl, rfl, lockout_waitsAt⟩
      · exact later h
    · split at h
      · cases h; exact ⟨0, _, rfl, rfl, wheelZero_waitsAt⟩
      · split at h
        · exact later h
        · cases h; exact ⟨0, _, rfl, rfl, timing_waitsAt Step.noConfusion _⟩
    · next notUp notDown =>
      split at h
      · exact later h
      · cases h; exact ⟨0, _, rfl, rfl, timing_waitsAt (fun e => notUp e) _⟩

/-- Two train records alike but for the bases, the marks and the restart lockout. -/
structure TrainRec.Alike (a b : TrainRec) : Prop where
  state : b.state = a.state
  waiting : b.waiting = a.waiting
  dwell : b.dwell = a.dwell
  force : b.pendingForce = a.pendingForce

theorem TrainRec.Alike.refl (a : TrainRec) : a.Alike a := ⟨rfl, rfl, rfl, rfl⟩

theorem TrainRec.Alike.trans {a b c : TrainRec} (h : a.Alike b) (h' : b.Alike c) : a.Alike c :=
  ⟨h'.state.trans h.state, h'.waiting.trans h.waiting, h'.dwell.trans h.dwell, h'.force.trans h.force⟩

/-- Two states alike in what trains hold or wait for a slot, whatever else has changed. -/
structure SameStanding (s t : State) : Prop where
  active : t.active = s.active
  shafts : ∀ h, (t.shaft h).holders = (s.shaft h).holders ∧ (t.shaft h).waitList = (s.shaft h).waitList
  trains : ∀ k, (t.train k).state.changeover?.isSome = (s.train k).state.changeover?.isSome ∧ (t.train k).waiting = (s.train k).waiting

/-- Two states alike but for bases, marks and restart lockouts, as far as trains and slots go. -/
structure SameSlots (s t : State) : Prop where
  active : t.active = s.active
  shafts : ∀ h, (t.shaft h).holders = (s.shaft h).holders ∧ (t.shaft h).waitList = (s.shaft h).waitList
  trains : ∀ k, (s.train k).Alike (t.train k)

section
variable {s t u : State} {k : Train}

theorem SameSlots.refl (s : State) : SameSlots s s := ⟨rfl, fun _ => ⟨rfl, rfl⟩, fun _ => .refl _⟩

theorem SameSlots.trans (h : SameSlots s t) (h' : SameSlots t u) : SameSlots s u := by
  refine ⟨h'.active.trans h.active, fun x => ?_, fun k => (h.trains k).trans (h'.trains k)⟩
  exact ⟨(h'.shafts x).1.trans (h.shafts x).1, (h'.shafts x).2.trans (h.shafts x).2⟩

theorem SameSlots.of_same (active : t.active = s.active) (shafts : t.shafts = s.shafts) (trains : t.trains = s.trains) : SameSlots s t := by
  refine ⟨active, fun h => ?_, fun k => ?_⟩
  · rw [State.shaft, State.shaft, shafts]; exact ⟨rfl, rfl⟩
  · rw [State.train, State.train, trains]; exact .refl _

theorem SameSlots.standing (same : SameSlots s t) : SameStanding s t :=
  ⟨same.active, same.shafts, fun k => ⟨congrArg (·.changeover?.isSome) (same.trains k).state, (same.trains k).waiting⟩⟩

theorem setTrain_sameSlots {x : TrainRec} (alike : (s.train k).Alike x) : SameSlots s (s.setTrain k x) := by
  refine ⟨rfl, fun _ => ⟨rfl, rfl⟩, fun j => ?_⟩
  rw [setTrain_train]
  split
  · next same => exact same ▸ alike
  · exact .refl _

theorem setTrain_standing {x : TrainRec} (state : x.state.changeover?.isSome = (s.train k).state.changeover?.isSome)
    (waiting : x.waiting = (s.train k).waiting) : SameStanding s (s.setTrain k x) := by
  refine ⟨rfl, fun _ => ⟨rfl, rfl⟩, fun j => ?_⟩
  rw [setTrain_train]
  split
  · next same => exact same ▸ ⟨state, waiting⟩
  · exact ⟨rfl, rfl⟩

theorem setBases_sameSlots (s : State) (k : Train) (b : Bases) : SameSlots s (s.setBases k b) := setTrain_sameSlots ⟨rfl, rfl, rfl, rfl⟩

theorem runSteps_sameSlots (k : Train) (target : Mode) (steps : List Step) (i : Nat) (s : State) :
    SameSlots s (State.runSteps k target steps i s).1 := by
  obtain ⟨x, rebased, ran⟩ := runSteps_rebased (k := k) (target := target) (steps := steps) (i := i) (s := s)
  rw [ran]
  refine setTrain_sameSlots ?_
  rw [rebased.only]
  exact ⟨rfl, rfl, rfl, rfl⟩

/-- The end of an event changes marks alone (R92). -/
theorem endEvent_sameSlots (s : State) : SameSlots s s.endEvent := by
  have active : s.endEvent.active = s.active := by rw [endEvent_frame]
  have shafts : s.endEvent.shafts = s.shafts := by rw [endEvent_frame]
  refine ⟨active, fun h => ?_, fun k => ?_⟩
  · rw [State.shaft, shafts]
    exact ⟨rfl, rfl⟩
  · rw [endEvent_train]
    exact ⟨rfl, rfl, rfl, rfl⟩

end

/-! Trains in their places. -/

/-- A train record but for the marks of an event (R90, R97). -/
structure TrainRec.Ready (t : TrainRec) : Prop where
  record : ∀ r, t.state = .changeover r → r.sound
  dwell : t.dwell.isSome = true → t.state.steady?.isSome = true
  waiting : t.waiting.isSome = true → t.state.steady?.isSome = true
  force : t.pendingForce = true → t.state.changeover?.isSome = true

theorem TrainRec.sound_iff (t : TrainRec) : t.sound ↔ t.Ready ∧ t.touched = .clear :=
  ⟨fun ⟨record, dwell, waiting, force, marks⟩ => ⟨⟨record, dwell, waiting, force⟩, marks⟩,
    fun ⟨⟨record, dwell, waiting, force⟩, marks⟩ => ⟨record, dwell, waiting, force, marks⟩⟩

theorem TrainRec.Ready.of_alike {a b : TrainRec} (ready : a.Ready) (h : a.Alike b) : b.Ready := by
  obtain ⟨record, dwell, waiting, force⟩ := ready
  refine ⟨?_, ?_, ?_, ?_⟩
  · rw [h.state]; exact record
  · rw [h.dwell, h.state]; exact dwell
  · rw [h.waiting, h.state]; exact waiting
  · rw [h.force, h.state]; exact force

theorem TrainRec.Ready.of_steady {t : TrainRec} {m : Mode} (state : t.state = .steady m) (force : t.pendingForce = false) : t.Ready := by
  refine ⟨fun r changeover => ?_, fun _ => by rw [state]; rfl, fun _ => by rw [state]; rfl, fun pending => ?_⟩
  · rw [state] at changeover; cases changeover
  · rw [force] at pending; cases pending

theorem TrainRec.Ready.of_changeover {t : TrainRec} {r : Changeover} (state : t.state = .changeover r) (sound : r.sound)
    (dwell : t.dwell = none) (waiting : t.waiting = none) : t.Ready := by
  refine ⟨fun r' changeover => ?_, fun runs => ?_, fun waits => ?_, fun _ => by rw [state]; rfl⟩
  · rw [state] at changeover; cases changeover; exact sound
  · rw [dwell] at runs; cases runs
  · rw [waiting] at waits; cases waits

/-- A record of a train that does nothing of its own: neither waits nor dwells nor changes over. -/
theorem TrainRec.Ready.of_resting {t : TrainRec} (resting : t.state.underway = false) (dwell : t.dwell = none) (waiting : t.waiting = none)
    (force : t.pendingForce = false) : t.Ready := by
  refine ⟨fun r changeover => ?_, fun runs => ?_, fun waits => ?_, fun pending => ?_⟩
  · rw [changeover] at resting; cases resting
  · rw [dwell] at runs; cases runs
  · rw [waiting] at waits; cases waits
  · rw [force] at pending; cases pending

/-- Trains, holders and wait lists in agreement, but for one train that may hold a slot whatever its record is: within an event, a train whose
slot is being taken or given back. -/
structure State.Placed (s : State) (exempt : Option Train) : Prop where
  ready : ∀ k, exempt ≠ some k → (s.train k).Ready
  limit : ∀ h, (s.shaft h).holders.length ≤ (s.active.shafts.get h).slotLimit
  holdersOnce : ∀ h, (s.shaft h).holders.Nodup
  holders : ∀ h k, k ∈ (s.shaft h).holders ↔ s.shaftOf k = h ∧ ((s.train k).state.changeover?.isSome = true ∨ exempt = some k)
  waitOnce : ∀ h, ((s.shaft h).waitList.map (·.train)).Nodup
  waits : ∀ h k m, ⟨k, m⟩ ∈ (s.shaft h).waitList ↔ s.shaftOf k = h ∧ (s.train k).waiting = some m
  idle : ∀ k, exempt = some k → (s.train k).waiting = none

/-- A train waits in a shaft only while every slot is taken. -/
def State.Full (s : State) : Prop := ∀ h, (s.shaft h).waitList ≠ [] → (s.shaft h).holders.length = (s.active.shafts.get h).slotLimit

theorem trainsSound_iff (s : State) : s.trainsSound ↔
    s.Placed none ∧ s.Full ∧ (∀ k, (s.train k).touched = .clear) ∧ ∀ h, 1 ≤ (s.active.shafts.get h).slotLimit := by
  constructor
  · rintro ⟨trains, slots, limits⟩
    refine ⟨⟨fun k _ => (((s.train k).sound_iff).1 (trains k)).1, fun h => (slots h).limit, fun h => (slots h).holdersOnce, fun h k => ?_,
      fun h => (slots h).waitOnce, fun h => (slots h).waits, fun _ e => by cases e⟩, fun h => (slots h).full, fun k => (trains k).marks, limits⟩
    rw [(slots h).holders, or_iff_left (Option.some_ne_none k).symm]
  · rintro ⟨placed, full, marks, limits⟩
    refine ⟨fun k => ((s.train k).sound_iff).2 ⟨placed.ready k (Option.some_ne_none k).symm, marks k⟩, fun h => ?_, limits⟩
    refine ⟨placed.limit h, placed.holdersOnce h, fun k => ?_, placed.waitOnce h, placed.waits h, full h⟩
    rw [placed.holders, or_iff_left (Option.some_ne_none k).symm]

section
variable {s t : State} {x? : Option Train} {k : Train} {h : Shaft}

theorem shaftOf_of_active (active : t.active = s.active) (k : Train) : t.shaftOf k = s.shaftOf k := by
  rw [State.shaftOf, State.params, active]
  rfl

/-- What each train's standing decides (R115, R118, R122). -/
theorem Placed.of_standing (placed : s.Placed x?) (same : SameStanding s t) (ready : ∀ k, x? ≠ some k → (t.train k).Ready) : t.Placed x? := by
  have shaftOf := shaftOf_of_active same.active
  refine ⟨ready, fun h => ?_, fun h => ?_, fun h k => ?_, fun h => ?_, fun h k m => ?_, fun k e => ?_⟩
  · rw [(same.shafts h).1, same.active]; exact placed.limit h
  · rw [(same.shafts h).1]; exact placed.holdersOnce h
  · rw [(same.shafts h).1, shaftOf, (same.trains k).1]; exact placed.holders h k
  · rw [(same.shafts h).2]; exact placed.waitOnce h
  · rw [(same.shafts h).2, shaftOf, (same.trains k).2]; exact placed.waits h k m
  · rw [(same.trains k).2]; exact placed.idle k e

theorem Full.of_standing (full : s.Full) (same : SameStanding s t) : t.Full := fun h => by
  rw [(same.shafts h).1, (same.shafts h).2, same.active]
  exact full h

theorem SameSlots.placed (same : SameSlots s t) (placed : s.Placed x?) : t.Placed x? :=
  Placed.of_standing placed same.standing fun k free => (placed.ready k free).of_alike (same.trains k)

theorem SameSlots.full (same : SameSlots s t) (full : s.Full) : t.Full := Full.of_standing full same.standing

/-- A train's record changed, its standing not. -/
theorem Placed.setTrain (placed : s.Placed none) {x : TrainRec} (state : x.state.changeover?.isSome = (s.train k).state.changeover?.isSome)
    (waiting : x.waiting = (s.train k).waiting) (ready : x.Ready) : (s.setTrain k x).Placed none := by
  refine Placed.of_standing placed (setTrain_standing state waiting) fun j _ => ?_
  rw [setTrain_train]
  split
  · exact ready
  · exact placed.ready j (Option.some_ne_none j).symm

theorem Full.setTrain (full : s.Full) (k : Train) (x : TrainRec) : (s.setTrain k x).Full := full

/-- Whatever becomes of the exempt train's record, but that it waits for nothing. -/
theorem Placed.setExempt (placed : s.Placed (some k)) {x : TrainRec} (waiting : x.waiting = none) : (s.setTrain k x).Placed (some k) := by
  have other {j : Train} (ne : k ≠ j) : (s.setTrain k x).train j = s.train j := by rw [setTrain_train, if_neg ne]
  refine ⟨fun j free => ?_, placed.limit, placed.holdersOnce, fun h j => ?_, placed.waitOnce, fun h j m => ?_, fun j e => ?_⟩
  · rw [other fun e => free (e ▸ rfl)]
    exact placed.ready j free
  · by_cases same : k = j
    · subst same
      rw [or_iff_right_of_imp fun _ => rfl]
      exact (placed.holders h k).trans (and_congr_right fun _ => or_iff_right_of_imp fun _ => rfl)
    · rw [other same]
      exact placed.holders h j
  · by_cases same : k = j
    · subst same
      rw [setTrain_train_self, waiting]
      exact (placed.waits h k m).trans (by rw [placed.idle k rfl]; exact Iff.rfl)
    · rw [other same]
      exact placed.waits h j m
  · cases e
    rw [setTrain_train_self, waiting]

/-- The exempt train in CHANGEOVER is a holder like the others. -/
theorem Placed.settle (placed : s.Placed (some k)) (ready : (s.train k).Ready) (changeover : (s.train k).state.changeover?.isSome = true) :
    s.Placed none := by
  refine ⟨fun j _ => ?_, placed.limit, placed.holdersOnce, fun h j => ?_, placed.waitOnce, placed.waits, fun _ e => by cases e⟩
  · by_cases same : k = j
    · exact same ▸ ready
    · exact placed.ready j fun e => same (Option.some.inj e)
  · rw [placed.holders, or_iff_left (Option.some_ne_none j).symm]
    refine and_congr_right fun _ => or_iff_left_of_imp fun e => ?_
    cases e
    exact changeover

/-- A train that is neither steady nor waits for a slot. -/
theorem waiting_of_changeover {x : TrainRec} (ready : x.Ready) (other : x.state.steady? = none) : x.waiting = none := by
  cases waiting : x.waiting with
  | none => rfl
  | some m =>
    have steady := ready.waiting (by rw [waiting]; rfl)
    rw [other] at steady
    cases steady

theorem steady?_of_changeover {st : TrainState} (changing : st.changeover?.isSome = true) : st.steady? = none := by
  obtain ⟨r, rfl⟩ := changeover_of_isSome changing
  rfl

theorem changeover?_of_steady {st : TrainState} (steady : st.steady?.isSome = true) : st.changeover?.isSome = false := by
  cases st with
  | steady m => rfl
  | changeover | safe | held => cases steady

/-- A train in CHANGEOVER may be made the exempt one. -/
theorem Placed.exempt (placed : s.Placed none) (changeover : (s.train k).state.changeover?.isSome = true) : s.Placed (some k) := by
  refine ⟨fun j _ => placed.ready j (Option.some_ne_none j).symm, placed.limit, placed.holdersOnce, fun h j => ?_, placed.waitOnce,
    placed.waits, fun j e => ?_⟩
  · rw [placed.holders, or_iff_left (Option.some_ne_none j).symm]
    refine and_congr_right fun _ => (or_iff_left_of_imp fun e => ?_).symm
    cases e
    exact changeover
  · cases e
    exact waiting_of_changeover (placed.ready k (Option.some_ne_none k).symm) (steady?_of_changeover changeover)

/-! Slots taken and given back, places in the wait list taken and given up (R118 to R121). -/

theorem setShaft_edit (u : State) (g : Shaft) (f : ShaftRec → ShaftRec) (h : Shaft) :
    (u.setShaft g (f (u.shaft g))).shaft h = if g = h then f (u.shaft h) else u.shaft h := by
  rw [setShaft_shaft]
  split
  · next same => rw [same]
  · rfl

/-- A shaft record with a train at the tail of its wait list. -/
def ShaftRec.joined (r : ShaftRec) (k : Train) (m : Mode) : ShaftRec := { r with waitList := r.waitList ++ [⟨k, m⟩] }

/-- A shaft record with a waiting train's target replaced. -/
def ShaftRec.retargeted (r : ShaftRec) (k : Train) (m : Mode) : ShaftRec :=
  { r with waitList := r.waitList.map fun e => if e.train = k then ⟨k, m⟩ else e }

theorem addHolder_shaft (s : State) (g : Shaft) (k : Train) (h : Shaft) : (s.addHolder g k).shaft h =
    if g = h then { s.shaft h with holders := (s.shaft h).holders ++ [k] } else s.shaft h :=
  setShaft_edit s g (fun r => { r with holders := r.holders ++ [k] }) h

theorem dropHolder_shaft (s : State) (g : Shaft) (k : Train) (h : Shaft) : (s.dropHolder g k).shaft h =
    if g = h then { s.shaft h with holders := (s.shaft h).holders.filter (· ≠ k) } else s.shaft h :=
  setShaft_edit s g (fun r => { r with holders := r.holders.filter (· ≠ k) }) h

theorem setWaiting_train (s : State) (k : Train) (w : Option Mode) (j : Train) :
    (s.setWaiting k w).train j = if k = j then { s.train j with waiting := w } else s.train j := by
  rw [State.setWaiting, setTrain_train]
  split
  · next same => rw [same]
  · rfl

theorem setWaiting_state (s : State) (k : Train) (w : Option Mode) (j : Train) : ((s.setWaiting k w).train j).state = (s.train j).state := by
  rw [setWaiting_train]
  split <;> rfl

theorem dropWaiting_shaft (s : State) (k : Train) (h : Shaft) :
    (s.dropWaiting k).shaft h = if s.shaftOf k = h then (s.shaft h).waitless k else s.shaft h :=
  setShaft_edit (s.setWaiting k none) (s.shaftOf k) (·.waitless k) h

theorem joinWaitList_shaft (s : State) (k : Train) (m : Mode) (h : Shaft) :
    (s.joinWaitList k m).shaft h = if s.shaftOf k = h then (s.shaft h).joined k m else s.shaft h :=
  setShaft_edit (s.setWaiting k (some m)) (s.shaftOf k) (·.joined k m) h

theorem replaceWaiting_shaft (s : State) (k : Train) (m : Mode) (h : Shaft) :
    (s.replaceWaiting k m).shaft h = if s.shaftOf k = h then (s.shaft h).retargeted k m else s.shaft h :=
  setShaft_edit (s.setWaiting k (some m)) (s.shaftOf k) (·.retargeted k m) h

/-- A waiting target set keeps a train ready, where a steady train alone waits. -/
theorem TrainRec.Ready.setWaiting {t : TrainRec} (ready : t.Ready) {w : Option Mode} (steady : w.isSome = true → t.state.steady?.isSome = true) :
    TrainRec.Ready { t with waiting := w } := ⟨ready.record, ready.dwell, steady, ready.force⟩

theorem Placed.setWaiting_ready (placed : s.Placed none) {w : Option Mode} (steady : w.isSome = true → (s.train k).state.steady?.isSome = true)
    (j : Train) : ((s.setWaiting k w).train j).Ready := by
  have ready := placed.ready j (Option.some_ne_none j).symm
  rw [setWaiting_train]
  split
  · next same => exact ready.setWaiting (same ▸ steady)
  · exact ready

/-- A free slot taken by a train that is not a holder. -/
theorem Placed.addHolder (placed : s.Placed none) (out : (s.train k).state.changeover?.isSome = false) (idle : (s.train k).waiting = none)
    (room : (s.shaft (s.shaftOf k)).holders.length < (s.active.shafts.get (s.shaftOf k)).slotLimit) :
    (s.addHolder (s.shaftOf k) k).Placed (some k) := by
  have outside (h : Shaft) : k ∉ (s.shaft h).holders := fun mem => by
    obtain ⟨-, changing | e⟩ := (placed.holders h k).1 mem
    · rw [out] at changing; cases changing
    · cases e
  refine ⟨fun j _ => placed.ready j (Option.some_ne_none j).symm, fun h => ?_, fun h => ?_, fun h j => ?_, fun h => ?_, fun h j m => ?_,
    fun j e => ?_⟩
  all_goals try rw [addHolder_shaft]
  · split
    · next same =>
      subst same
      rw [List.length_append]
      exact room
    · exact placed.limit h
  · split
    · exact List.nodup_append.2 ⟨placed.holdersOnce h, List.nodup_singleton k, fun a ha b hb e =>
        outside h (List.mem_singleton.1 hb ▸ e ▸ ha)⟩
    · exact placed.holdersOnce h
  · show _ ↔ s.shaftOf j = h ∧ _
    have member := placed.holders h j
    rw [or_iff_left (Option.some_ne_none j).symm] at member
    split
    · next same =>
      rw [List.mem_append, List.mem_singleton, member, and_or_left]
      refine or_congr_right ⟨?_, fun ⟨_, e⟩ => (Option.some.inj e).symm⟩
      rintro rfl
      exact ⟨same, rfl⟩
    · next other =>
      rw [member]
      refine and_congr_right fun at_h => (or_iff_left_of_imp fun e => ?_).symm
      obtain rfl := Option.some.inj e
      exact absurd at_h other
  · split <;> exact placed.waitOnce h
  · split <;> exact placed.waits h j m
  · cases e
    exact idle

/-- The slot of a train that is no longer in CHANGEOVER given back. -/
theorem Placed.dropHolder (placed : s.Placed (some k)) (ready : (s.train k).Ready) (out : (s.train k).state.changeover?.isSome = false) :
    (s.dropHolder (s.shaftOf k) k).Placed none := by
  refine ⟨fun j _ => ?_, fun h => ?_, fun h => ?_, fun h j => ?_, fun h => ?_, fun h j m => ?_, fun j e => by cases e⟩
  all_goals try rw [dropHolder_shaft]
  · by_cases same : k = j
    · exact same ▸ ready
    · exact placed.ready j fun e => same (Option.some.inj e)
  · split
    · exact (List.length_filter_le _ _).trans (placed.limit h)
    · exact placed.limit h
  · split
    · exact (placed.holdersOnce h).filter _
    · exact placed.holdersOnce h
  · show _ ↔ s.shaftOf j = h ∧ _
    rw [or_iff_left (Option.some_ne_none j).symm]
    have member := placed.holders h j
    by_cases same : k = j
    · subst same
      rw [show ((s.dropHolder (s.shaftOf k) k).train k).state = (s.train k).state from rfl, out]
      split
      · simp
      · next other => exact iff_of_false (fun mem => other (member.1 mem).1) fun h => Bool.false_ne_true h.2
    · rw [or_iff_left fun e => same (Option.some.inj e)] at member
      split
      · rw [List.mem_filter, member, and_iff_left (decide_eq_true (Ne.symm same))]
        rfl
      · exact member
  · split <;> exact placed.waitOnce h
  · split <;> exact placed.waits h j m

/-- A place in the wait list given up. -/
theorem Placed.dropWaiting (placed : s.Placed none) : (s.dropWaiting k).Placed none := by
  refine ⟨fun j _ => Placed.setWaiting_ready (k := k) placed (fun none => (by cases none)) j, fun h => ?_, fun h => ?_, fun h j => ?_,
    fun h => ?_, fun h j m => ?_, fun j e => by cases e⟩
  all_goals rw [dropWaiting_shaft]
  · split <;> exact placed.limit h
  · split <;> exact placed.holdersOnce h
  · rw [show ((s.dropWaiting k).train j).state = (s.train j).state from setWaiting_state s k none j]
    split <;> exact placed.holders h j
  · split
    · exact (placed.waitOnce h).sublist (List.Sublist.map _ List.filter_sublist)
    · exact placed.waitOnce h
  · show _ ↔ s.shaftOf j = h ∧ _
    have member := placed.waits h j m
    rw [show (s.dropWaiting k).train j = _ from setWaiting_train s k none j]
    split
    · rw [ShaftRec.waitless, List.mem_filter, member]
      split
      · next same => simp [same]
      · next other => exact and_iff_left (decide_eq_true (Ne.symm other))
    · next elsewhere =>
      split
      · next same =>
        subst same
        exact iff_of_false (fun mem => elsewhere (member.1 mem).1) fun h => elsewhere h.1
      · exact member

theorem Full.dropWaiting (full : s.Full) (k : Train) : (s.dropWaiting k).Full := fun h waits => by
  rw [dropWaiting_shaft] at waits ⊢
  split at waits
  · next same =>
    rw [if_pos same]
    refine full h fun none => waits ?_
    rw [ShaftRec.waitless, none]
    rfl
  · next other =>
    rw [if_neg other]
    exact full h waits

/-- A place at the tail of the wait list taken by a steady train. -/
theorem Placed.joinWaitList (placed : s.Placed none) (steady : (s.train k).state.steady?.isSome = true) (idle : (s.train k).waiting = none)
    (m : Mode) : (s.joinWaitList k m).Placed none := by
  refine ⟨fun j _ => Placed.setWaiting_ready (k := k) placed (fun _ => steady) j, fun h => ?_, fun h => ?_, fun h j => ?_, fun h => ?_,
    fun h j n => ?_, fun j e => by cases e⟩
  all_goals rw [joinWaitList_shaft]
  · split <;> exact placed.limit h
  · split <;> exact placed.holdersOnce h
  · rw [show ((s.joinWaitList k m).train j).state = (s.train j).state from setWaiting_state s k (some m) j]
    split <;> exact placed.holders h j
  · split
    · rw [ShaftRec.joined, List.map_append, List.nodup_append]
      refine ⟨placed.waitOnce h, List.nodup_singleton _, fun a ha b hb e => ?_⟩
      obtain rfl : b = k := List.mem_singleton.1 hb
      obtain ⟨x, hx, rfl⟩ := List.mem_map.1 ha
      have waits := ((placed.waits h x.train x.target).1 hx).2
      rw [e, idle] at waits
      cases waits
    · exact placed.waitOnce h
  · show _ ↔ s.shaftOf j = h ∧ _
    have member := placed.waits h j n
    rw [show (s.joinWaitList k m).train j = _ from setWaiting_train s k (some m) j]
    by_cases same : k = j
    · subst same
      rw [idle] at member
      have absent : (⟨k, n⟩ : WaitEntry) ∉ (s.shaft h).waitList := fun mem => by cases (member.1 mem).2
      rw [if_pos rfl]
      split
      · next at_h =>
        rw [ShaftRec.joined, List.mem_append, or_iff_right absent, List.mem_singleton, and_iff_right at_h]
        exact ⟨fun e => by cases e; rfl, fun e => by cases e; rfl⟩
      · next elsewhere => exact iff_of_false absent fun h => elsewhere h.1
    · rw [if_neg same]
      split
      · rw [ShaftRec.joined, List.mem_append, member, or_iff_left fun mem => ?_]
        cases List.mem_singleton.1 mem
        exact same rfl
      · exact member

theorem Full.joinWaitList (full : s.Full) (m : Mode)
    (taken : (s.shaft (s.shaftOf k)).holders.length = (s.active.shafts.get (s.shaftOf k)).slotLimit) : (s.joinWaitList k m).Full := fun h waits => by
  rw [joinWaitList_shaft] at waits ⊢
  split at waits
  · next same =>
    rw [if_pos same]
    exact same ▸ taken
  · next other =>
    rw [if_neg other]
    exact full h waits

/-- A waiting target replaced in its place. -/
theorem Placed.replaceWaiting (placed : s.Placed none) (waits : (s.train k).waiting.isSome = true) (m : Mode) :
    (s.replaceWaiting k m).Placed none := by
  obtain ⟨w, waiting⟩ := Option.isSome_iff_exists.1 waits
  have steady := (placed.ready k (Option.some_ne_none k).symm).waiting waits
  refine ⟨fun j _ => Placed.setWaiting_ready (k := k) placed (fun _ => steady) j, fun h => ?_, fun h => ?_, fun h j => ?_, fun h => ?_,
    fun h j n => ?_, fun j e => by cases e⟩
  all_goals rw [replaceWaiting_shaft]
  · split <;> exact placed.limit h
  · split <;> exact placed.holdersOnce h
  · rw [show ((s.replaceWaiting k m).train j).state = (s.train j).state from setWaiting_state s k (some m) j]
    split <;> exact placed.holders h j
  · split
    · rw [ShaftRec.retargeted, List.map_map]
      refine (congrArg List.Nodup (List.map_congr_left fun e _ => ?_)).mpr (placed.waitOnce h)
      show (if e.train = k then (⟨k, m⟩ : WaitEntry) else e).train = e.train
      split
      · next same => exact same.symm
      · rfl
    · exact placed.waitOnce h
  · show _ ↔ s.shaftOf j = h ∧ _
    have member := placed.waits h j n
    rw [show (s.replaceWaiting k m).train j = _ from setWaiting_train s k (some m) j]
    by_cases same : k = j
    · subst same
      rw [if_pos rfl]
      split
      · next at_h =>
        rw [and_iff_right at_h, ShaftRec.retargeted, List.mem_map]
        constructor
        · rintro ⟨e, -, replaced⟩
          split at replaced
          · cases replaced; rfl
          · next other => rw [replaced] at other; exact absurd rfl other
        · rintro ⟨⟩
          exact ⟨⟨k, w⟩, (placed.waits h k w).2 ⟨at_h, waiting⟩, if_pos rfl⟩
      · next elsewhere => exact iff_of_false (fun mem => elsewhere (member.1 mem).1) fun h => elsewhere h.1
    · rw [if_neg same]
      split
      · rw [← member, ShaftRec.retargeted, List.mem_map]
        constructor
        · rintro ⟨e, mem, kept⟩
          split at kept
          · cases kept; exact absurd rfl same
          · exact kept ▸ mem
        · exact fun mem => ⟨⟨j, n⟩, mem, if_neg (Ne.symm same)⟩
      · exact member

theorem Full.replaceWaiting (full : s.Full) (k : Train) (m : Mode) : (s.replaceWaiting k m).Full := fun h waits => by
  rw [replaceWaiting_shaft] at waits ⊢
  split at waits
  · next same =>
    rw [if_pos same]
    exact full h fun none => waits (by rw [ShaftRec.retargeted, none]; rfl)
  · next other =>
    rw [if_neg other]
    exact full h waits

end

end Sys2Proof.Machine
end

section
/-! Changeovers and slots: every operation leaves the trains in their places. -/

namespace Sys2Proof.Machine

/-- Trains, holders and wait lists in agreement, and nobody waiting beside a free slot. -/
structure State.InPlace (s : State) : Prop where
  placed : s.Placed none
  full : s.Full

section
variable {s t : State} {k : Train} {r : Changeover} {i : Nat}

theorem SameSlots.inPlace (same : SameSlots s t) (inPlace : s.InPlace) : t.InPlace := ⟨same.placed inPlace.placed, same.full inPlace.full⟩

theorem moved_sameSlots (s : State) (k : Train) (x : TrainRec) (told : List Raise) : SameSlots (s.setTrain k x) (s.moved k x told) :=
  .of_same rfl rfl rfl

theorem endEvent_inPlace (inPlace : s.InPlace) : s.endEvent.InPlace := (endEvent_sameSlots s).inPlace inPlace

/-- The rest of a changeover begun in one event: it completes, or a sound record waits. -/
theorem proceed_cases (steps : r.steps = stepList r.source r.target) (first : 1 ≤ i) :
    (∃ u, SameSlots s u ∧ s.proceed k r i = (u, true)) ∨
    ∃ u r', SameSlots s u ∧ r'.sound ∧ s.proceed k r i = (u.setRecord k r', false) := by
  have same := runSteps_sameSlots k r.target (r.steps.drop (i - 1)) i s
  cases came : (State.runSteps k r.target (r.steps.drop (i - 1)) i s).2 with
  | done => exact .inl ⟨_, same, proceed_done came⟩
  | waits j phase timer =>
    refine .inr ⟨_, { r with index := j, phase := phase, timer := timer }, same, ?_, proceed_waits came⟩
    obtain ⟨n, x, index, found, waits⟩ := runSteps_waits came
    rw [List.getElem?_drop] at found
    refine ⟨steps, ⟨x, ?_, waits.wheelZero, waits.lockout, waits.wheelUp⟩, by show 1 ≤ j; omega, waits.timer⟩
    show r.steps[j - 1]? = some x
    rw [show j - 1 = i - 1 + n by omega]
    exact found

theorem changeover_ready {x : TrainRec} (sound : r.sound) (dwell : x.dwell = none) (waiting : x.waiting = none) :
    TrainRec.Ready { x with state := .changeover r } := .of_changeover rfl sound dwell waiting

/-- A train that may hold a slot in a changeover of its own. -/
theorem Placed.setRecord (placed : s.Placed (some k)) (sound : r.sound) (dwell : (s.train k).dwell = none) :
    (s.setRecord k r).Placed none := by
  have idle := placed.idle k rfl
  refine Placed.settle (Placed.setExempt placed (x := { s.train k with state := .changeover r }) idle) ?_ ?_
  · rw [State.setRecord, setTrain_train_self]
    exact changeover_ready sound dwell idle
  · rw [State.setRecord, setTrain_train_self]
    rfl

/-- A changeover started under a slot. -/
theorem startChangeover_placed (placed : s.Placed (some k)) (a b : Mode) :
    (s.startChangeover k a b).1.Placed (if (s.startChangeover k a b).2 then some k else none) := by
  let r : Changeover := ⟨a, b, stepList a b, 1, .timing, none⟩
  let y : TrainRec := { (s.train k).entering (.changeover r) with pendingForce := false, dwell := none }
  have started : s.startChangeover k a b = (s.moved k y [.edge (.modeChanged k)]).proceed k r 1 := by
    unfold State.startChangeover
    dsimp only
    rw [enterState_eq, moved_setPendingForce, moved_setDwell]
  have begun : (s.moved k y [.edge (.modeChanged k)]).Placed (some k) :=
    (moved_sameSlots s k y _).placed (Placed.setExempt placed (placed.idle k rfl))
  rw [started]
  obtain ⟨u, same, done⟩ | ⟨u, r', same, sound, waits⟩ := proceed_cases (s := s.moved k y [.edge (.modeChanged k)]) (k := k) (r := r)
    (i := 1) rfl le_rfl
  · rw [done, if_pos rfl]
    exact same.placed begun
  · rw [waits, if_neg Bool.false_ne_true]
    refine Placed.setRecord (same.placed begun) sound ?_
    rw [(same.trains k).dwell, moved_train_self]

theorem startChangeover_shafts (s : State) (k : Train) (a b : Mode) :
    (s.startChangeover k a b).1.shafts = s.shafts ∧ (s.startChangeover k a b).1.active = s.active := by
  obtain ⟨x, started, -⟩ := startChangeover_eq s k a b
  rw [started]
  exact ⟨rfl, rfl⟩

theorem steadied_ready {x : TrainRec} (m : Mode) (d : Nat) (force : x.pendingForce = false) : (x.steadied m d).Ready := .of_steady rfl force

/-- A steady mode entered by a train that holds a slot. -/
theorem enterSteady_placed (placed : s.Placed (some k)) (m : Mode) : (s.enterSteady k m).Placed (some k) := by
  rw [enterSteady_eq]
  exact (moved_sameSlots s k _ _).placed (Placed.setExempt placed (placed.idle k rfl))

end

/-! A slot granted to the head of a wait list (R100, R121). -/

/-- What a granted slot leaves in the shafts. -/
structure HeadGranted (s t : State) (h : Shaft) (holders : List Train) (rest : List WaitEntry) : Prop where
  placed : t.Placed none
  active : t.active = s.active
  holders : (t.shaft h).holders = holders
  list : (t.shaft h).waitList = rest
  others : ∀ g, g ≠ h → t.shaft g = s.shaft g

section
variable {s : State} {h : Shaft} {e : WaitEntry} {rest : List WaitEntry}

theorem waitless_head (once : (e :: rest).map (·.train) |>.Nodup) : (e :: rest).filter (·.train ≠ e.train) = rest := by
  obtain ⟨fresh, -⟩ := List.nodup_cons.1 once
  rw [List.filter_cons_of_neg (by simp), List.filter_eq_self]
  exact fun x hx => decide_eq_true fun same => fresh (List.mem_map.2 ⟨x, hx, same⟩)

/-- The slot of a granted changeover that completed at once is given back (R107). -/
theorem enterSteady_dropHolder {u : State} {k : Train} (placed : u.Placed (some k)) (idle : (u.train k).pendingForce = false) (m : Mode) :
    ((u.enterSteady k m).dropHolder (u.shaftOf k) k).Placed none := by
  have entered := enterSteady_placed placed m
  rw [enterSteady_eq] at entered ⊢
  refine Placed.dropHolder entered ?_ ?_
  · rw [moved_train_self]
    exact steadied_ready _ _ idle
  · rw [moved_train_self]
    rfl

theorem enterSteady_shafts (u : State) (k : Train) (m : Mode) : (u.enterSteady k m).shafts = u.shafts ∧ (u.enterSteady k m).active = u.active := by
  rw [enterSteady_eq]
  exact ⟨rfl, rfl⟩

theorem startChangeover_idle (u : State) (k : Train) (a b : Mode) : ((u.startChangeover k a b).1.train k).pendingForce = false := by
  obtain ⟨x, ran, -, -, -, force, -⟩ := startChangeover_eq u k a b
  rw [ran, moved_train_self]
  exact force

theorem shaft_of_shafts {u v : State} (same : v.shafts = u.shafts) (g : Shaft) : v.shaft g = u.shaft g := congrArg (Vec.get · g) same

theorem grantHead_granted (placed : s.Placed none) (list : (s.shaft h).waitList = e :: rest)
    (room : (s.shaft h).holders.length < (s.active.shafts.get h).slotLimit) :
    HeadGranted s (s.grantHead h e rest).1 h
      (if (s.grantHead h e rest).2 then (s.shaft h).holders else (s.shaft h).holders ++ [e.train]) rest := by
  have head : (⟨e.train, e.target⟩ : WaitEntry) ∈ (s.shaft h).waitList := list ▸ List.mem_cons_self
  obtain ⟨at_h, waits⟩ := (placed.waits h e.train e.target).1 head
  subst at_h
  let k := e.train
  have steady : (s.train k).state.steady?.isSome = true :=
    (placed.ready k (Option.some_ne_none k).symm).waiting (by rw [show (s.train k).waiting = _ from waits]; rfl)
  have once := placed.waitOnce (s.shaftOf k)
  rw [list] at once
  let u := (s.dropWaiting k).addHolder (s.shaftOf k) k
  have granted : ((s.setShaft (s.shaftOf k) { s.shaft (s.shaftOf k) with waitList := rest }).addHolder (s.shaftOf k) k).setWaiting k none = u := by
    have filtered : rest = (s.shaft (s.shaftOf k)).waitList.filter (·.train ≠ k) := by
      rw [list]
      exact (waitless_head once).symm
    rw [filtered]
    rfl
  have shaft (g : Shaft) : u.shaft g = if s.shaftOf k = g then { s.shaft g with holders := (s.shaft g).holders ++ [k], waitList := rest }
      else s.shaft g := by
    rw [addHolder_shaft, dropWaiting_shaft]
    split
    · next same =>
      subst same
      rw [ShaftRec.waitless, list, waitless_head once]
    · rfl
  have state : (u.train k).state = (s.train k).state := setWaiting_state s k none k
  have begun : u.Placed (some k) := by
    refine Placed.addHolder (Placed.dropWaiting placed) ?_ ?_ ?_
    · rw [show ((s.dropWaiting k).train k).state = _ from setWaiting_state s k none k]
      exact changeover?_of_steady steady
    · rw [show (s.dropWaiting k).train k = _ from setWaiting_train s k none k, if_pos rfl]
    · show ((s.dropWaiting k).shaft (s.shaftOf k)).holders.length < _
      rw [dropWaiting_shaft, if_pos rfl]
      exact room
  obtain ⟨m, mode⟩ := Option.isSome_iff_exists.1 steady
  have turn : s.grantHead (s.shaftOf k) e rest = if (u.startChangeover k m e.target).2 then
      (((u.startChangeover k m e.target).1.enterSteady k e.target).dropHolder (s.shaftOf k) k, true)
      else ((u.startChangeover k m e.target).1, false) := by
    rw [State.grantHead]
    dsimp only
    rw [granted, show ((u.train e.train).state.steady?) = some m from state ▸ mode]
  have started := startChangeover_placed begun m e.target
  obtain ⟨shafts, active⟩ := startChangeover_shafts u k m e.target
  rw [turn]
  cases done : (u.startChangeover k m e.target).2 with
  | false =>
    rw [done] at started
    refine ⟨started, active, ?_, ?_, fun g other => ?_⟩
    · rw [if_neg Bool.false_ne_true, if_neg Bool.false_ne_true, State.shaft, shafts]
      exact (congrArg ShaftRec.holders ((shaft _).trans (if_pos rfl)) :)
    · rw [if_neg Bool.false_ne_true, State.shaft, shafts]
      exact (congrArg ShaftRec.waitList ((shaft _).trans (if_pos rfl)) :)
    · rw [if_neg Bool.false_ne_true, State.shaft, shafts]
      exact (shaft g).trans (if_neg (Ne.symm other))
  | true =>
    rw [done, if_pos rfl] at started
    have dropped := enterSteady_dropHolder started (startChangeover_idle u k m e.target) e.target
    rw [shaftOf_of_active (s := s) active] at dropped
    obtain ⟨shafts', active'⟩ := enterSteady_shafts (u.startChangeover k m e.target).1 k e.target
    have vshaft := shaft_of_shafts (shafts'.trans shafts)
    rw [if_pos rfl, if_pos rfl]
    refine ⟨dropped, active'.trans active, ?_, ?_, fun g other => ?_⟩
    · rw [dropHolder_shaft, if_pos rfl, vshaft, shaft, if_pos rfl]
      dsimp only
      have out : ∀ j ∈ (s.shaft (s.shaftOf k)).holders, j ≠ k := fun j mem same => by
        rw [same] at mem
        obtain ⟨-, changing | no⟩ := (placed.holders _ k).1 mem
        · rw [changeover?_of_steady steady] at changing; cases changing
        · cases no
      rw [List.filter_append, List.filter_eq_self.2 fun j hj => decide_eq_true (show j ≠ k from out j hj),
        show [k].filter (· ≠ k) = [] by simp, List.append_nil]
    · rw [dropHolder_shaft, if_pos rfl, vshaft, shaft, if_pos rfl]
    · rw [dropHolder_shaft, if_neg (Ne.symm other), vshaft, shaft, if_neg (Ne.symm other)]

end

section
variable {s : State} {h : Shaft}

/-- Nobody waits beside a free slot of a shaft. -/
def State.FullAt (s : State) (h : Shaft) : Prop :=
  (s.shaft h).waitList ≠ [] → (s.shaft h).holders.length = (s.active.shafts.get h).slotLimit

/-- A shaft whose slots have been handed on. -/
structure HandedOut (s t : State) (h : Shaft) : Prop where
  placed : t.Placed none
  active : t.active = s.active
  full : t.FullAt h
  others : ∀ g, g ≠ h → t.shaft g = s.shaft g

theorem HandedOut.refl (placed : s.Placed none) (full : s.FullAt h) : HandedOut s s h := ⟨placed, rfl, full, fun _ _ => rfl⟩

theorem HeadGranted.handedOut {t u : State} {holders : List Train} {rest : List WaitEntry} (granted : HeadGranted s t h holders rest)
    (handed : HandedOut t u h) : HandedOut s u h :=
  ⟨handed.placed, handed.active.trans granted.active, handed.full, fun g other => (handed.others g other).trans (granted.others g other)⟩

theorem HandedOut.inPlace {t : State} (handed : HandedOut s t h) (full : ∀ g, g ≠ h → s.FullAt g) : t.InPlace := by
  refine ⟨handed.placed, fun g => ?_⟩
  by_cases same : g = h
  · exact same ▸ handed.full
  · rw [handed.others g same, handed.active]
    exact full g same

/-- A freed slot handed on (R121) leaves nobody waiting beside it. -/
theorem grantChain_handedOut {n : Nat} (placed : s.Placed none) (enough : (s.shaft h).waitList.length ≤ n)
    (freed : (s.shaft h).waitList ≠ [] → (s.shaft h).holders.length + 1 = (s.active.shafts.get h).slotLimit) :
    HandedOut s (State.grantChain n h s) h := by
  induction n generalizing s with
  | zero =>
    have nobody : (s.shaft h).waitList = [] := List.length_eq_zero_iff.1 (Nat.le_zero.1 enough)
    exact .refl placed fun waits => absurd nobody waits
  | succ n ih =>
    cases list : (s.shaft h).waitList with
    | nil =>
      rw [grantChain_nil _ list]
      exact .refl placed fun waits => absurd list waits
    | cons e rest =>
      rw [list] at enough freed
      have room := freed (List.cons_ne_nil _ _)
      have granted := grantHead_granted placed list (by omega)
      have turn : State.grantChain (n + 1) h s =
          if (s.grantHead h e rest).2 then State.grantChain n h (s.grantHead h e rest).1 else (s.grantHead h e rest).1 := by
        rw [State.grantChain, list]
      rw [turn]
      split
      · next done =>
        rw [if_pos done] at granted
        refine granted.handedOut (ih granted.placed ?_ fun _ => ?_)
        · rw [granted.list]
          exact Nat.le_of_succ_le_succ enough
        · rw [granted.holders, granted.active]
          exact room
      · next waits =>
        rw [if_neg waits] at granted
        refine ⟨granted.placed, granted.active, fun _ => ?_, granted.others⟩
        rw [granted.holders, granted.active, List.length_append]
        exact room

/-- Free slots handed out (R128) as long as somebody waits. -/
theorem handOut_handedOut {n : Nat} (placed : s.Placed none) (enough : (s.shaft h).waitList.length ≤ n) :
    HandedOut s (State.handOut n h s) h := by
  induction n generalizing s with
  | zero =>
    have nobody : (s.shaft h).waitList = [] := List.length_eq_zero_iff.1 (Nat.le_zero.1 enough)
    exact .refl placed fun waits => absurd nobody waits
  | succ n ih =>
    cases list : (s.shaft h).waitList with
    | nil =>
      rw [State.handOut, list]
      exact .refl placed fun waits => absurd list waits
    | cons e rest =>
      have turn : State.handOut (n + 1) h s = if (s.shaft h).holders.length < (s.active.shafts.get h).slotLimit then
          State.handOut n h (s.grantHead h e rest).1 else s := by
        rw [State.handOut, list]
      rw [turn]
      split
      · next room =>
        have granted := grantHead_granted placed list room
        refine granted.handedOut (ih granted.placed ?_)
        rw [list] at enough
        rw [granted.list]
        exact Nat.le_of_succ_le_succ enough
      · next taken => exact .refl placed fun _ => Nat.le_antisymm (placed.limit h) (Nat.not_lt.1 taken)

theorem length_filter_ne {α : Type} [DecidableEq α] {xs : List α} {x : α} (once : xs.Nodup) (mem : x ∈ xs) :
    (xs.filter (· ≠ x)).length + 1 = xs.length := by
  rw [← List.length_erase_add_one mem, once.erase_eq_filter]
  congr 2
  exact List.filter_congr fun y _ => Bool.eq_iff_iff.2 (by rw [decide_eq_true_iff, bne_iff_ne])

/-- A train's slot given back and handed on (R121). -/
theorem releaseSlot_inPlace {k : Train} (placed : s.Placed (some k)) (full : s.Full) (ready : (s.train k).Ready)
    (out : (s.train k).state.changeover?.isSome = false) : (s.releaseSlot k).InPlace := by
  have shaft := dropHolder_shaft s (s.shaftOf k) k
  have holds : k ∈ (s.shaft (s.shaftOf k)).holders := (placed.holders _ k).2 ⟨rfl, .inr rfl⟩
  refine HandedOut.inPlace (grantChain_handedOut (Placed.dropHolder placed ready out) ?_ ?_) fun g other => ?_
  · rw [shaft, if_pos rfl]
  · rw [shaft, if_pos rfl]
    exact fun waits => (length_filter_ne (placed.holdersOnce _) holds).trans (full _ waits)
  · rw [State.FullAt, shaft, if_neg (Ne.symm other)]
    exact full g

end

end Sys2Proof.Machine
end

section
/-! The Train Sequencer's operations keep the trains in their places. -/

namespace Sys2Proof.Machine

section
variable {s t u : State} {k : Train} {m target : Mode} {r : Changeover}

/-- A train's record changed, its standing not. -/
theorem InPlace.setTrain (inPlace : s.InPlace) {x : TrainRec} (state : x.state.changeover?.isSome = (s.train k).state.changeover?.isSome)
    (waiting : x.waiting = (s.train k).waiting) (ready : x.Ready) : (s.setTrain k x).InPlace :=
  ⟨Placed.setTrain inPlace.placed state waiting ready, inPlace.full⟩

theorem ready_of_inPlace (inPlace : s.InPlace) (k : Train) : (s.train k).Ready := inPlace.placed.ready k (Option.some_ne_none k).symm

theorem full_of_shafts (full : s.Full) (shafts : t.shafts = s.shafts) (active : t.active = s.active) : t.Full := fun h => by
  rw [shaft_of_shafts shafts, active]
  exact full h

theorem moved_placed (placed : s.Placed (some k)) {x : TrainRec} (waiting : x.waiting = none) (told : List Raise) :
    (s.moved k x told).Placed (some k) := (moved_sameSlots s k x told).placed (Placed.setExempt placed waiting)

/-- A steady mode entered and the slot given back. -/
theorem enterSteady_releaseSlot (placed : u.Placed (some k)) (full : u.Full) (idle : (u.train k).pendingForce = false) (m : Mode) :
    ((u.enterSteady k m).releaseSlot k).InPlace := by
  rw [enterSteady_eq]
  refine releaseSlot_inPlace (moved_placed placed (by exact placed.idle k rfl) _) full ?_ ?_
  · rw [moved_train_self]
    exact steadied_ready _ _ idle
  · rw [moved_train_self]
    rfl

/-- A changeover started under a slot, which is given back where it completes at once. -/
theorem startChangeover_inPlace (placed : u.Placed (some k)) (full : u.Full) (m target : Mode) :
    (if (u.startChangeover k m target).2 then ((u.startChangeover k m target).1.enterSteady k target).releaseSlot k
      else (u.startChangeover k m target).1).InPlace := by
  have started := startChangeover_placed placed m target
  obtain ⟨shafts, active⟩ := startChangeover_shafts u k m target
  have full' := full_of_shafts full shafts active
  split
  · next done =>
    rw [if_pos done] at started
    exact enterSteady_releaseSlot started full' (startChangeover_idle u k m target) target
  · next waits =>
    rw [if_neg waits] at started
    exact ⟨started, full'⟩

theorem moved_self (s : State) (k : Train) : s.moved k (s.train k) [] = s := by rw [← setTrain_eq_moved, setTrain_self]

/-- A changeover that completes (R107). -/
theorem complete_inPlace (placed : s.Placed (some k)) (full : s.Full) (target : Mode) : (s.complete k target).InPlace := by
  let x := s.train k
  let u := s.moved k (x.completed target (s.params k).dwell) ([] ++ [.edge (.modeChanged k)])
  have held : u.Placed (some k) := moved_placed placed (by exact placed.idle k rfl) _
  have idle : (u.train k).pendingForce = false := (congrArg TrainRec.pendingForce (moved_train_self s k _ _) :)
  have released : (u.releaseSlot k).InPlace := by
    refine releaseSlot_inPlace held full ?_ ?_
    · rw [moved_train_self]
      exact .of_steady rfl rfl
    · rw [moved_train_self]
      rfl
  rw [← moved_self s k]
  cases forced : s.forced k x with
  | none =>
    rw [complete_releases (.inl forced)]
    exact released
  | some m =>
    by_cases own : m = target
    · rw [complete_releases (.inr (own ▸ forced))]
      exact released
    · rw [complete_forced forced own]
      dsimp only
      split
      · exact enterSteady_releaseSlot held full idle m
      · exact startChangeover_inPlace held full target m

/-- The next step of a changeover, or its completion (R104). -/
theorem completeStep_inPlace (inPlace : s.InPlace) (state : (s.train k).state = .changeover r) (sound : r.sound) :
    (s.completeStep k r).InPlace := by
  have changing : (s.train k).state.changeover?.isSome = true := by rw [state]; rfl
  rw [State.completeStep]
  obtain ⟨u, same, done⟩ | ⟨u, r', same, sound', waits⟩ := proceed_cases (s := s) (k := k) (r := r) (i := r.index + 1) sound.steps (by omega)
  all_goals
    have inPlace' := same.inPlace inPlace
    have exempt := Placed.exempt inPlace'.placed (k := k) (by rw [(same.trains k).state]; exact changing)
  · rw [done]
    exact complete_inPlace exempt inPlace'.full r.target
  · rw [waits]
    refine ⟨Placed.setRecord exempt sound' ?_, inPlace'.full⟩
    rw [(same.trains k).dwell]
    cases dwell : (s.train k).dwell with
    | none => rfl
    | some d =>
      have steady := (ready_of_inPlace inPlace k).dwell (by rw [dwell]; rfl)
      rw [state] at steady
      cases steady

/-! Target decisions (R94 to R99, R106). -/

theorem requestSlot_inPlace (inPlace : s.InPlace) (state : (s.train k).state = .steady m) : (s.requestSlot k m target).InPlace := by
  have steady : (s.train k).state.steady?.isSome = true := by rw [state]; rfl
  obtain ⟨placed, full⟩ := inPlace
  cases waits : (s.train k).waiting with
  | some w =>
    rw [requestSlot_waiting waits]
    split
    · exact ⟨placed, full⟩
    · exact ⟨Placed.replaceWaiting placed (by rw [waits]; rfl) target, Full.replaceWaiting full k target⟩
  | none =>
    by_cases room : (s.shaft (s.shaftOf k)).holders.length < (s.active.shafts.get (s.shaftOf k)).slotLimit
    · have held := Placed.addHolder placed (changeover?_of_steady steady) waits room
      have full' : (s.addHolder (s.shaftOf k) k).Full := fun h list => by
        rw [addHolder_shaft] at list ⊢
        split at list
        · next same =>
          subst same
          exact absurd (full _ list) (Nat.ne_of_lt room)
        · next other =>
          rw [if_neg other]
          exact full h list
      have turn : s.requestSlot k m target = if ((s.addHolder (s.shaftOf k) k).startChangeover k m target).2 then
          (((s.addHolder (s.shaftOf k) k).startChangeover k m target).1.enterSteady k target).releaseSlot k
          else ((s.addHolder (s.shaftOf k) k).startChangeover k m target).1 := by
        rw [State.requestSlot, waits]
        exact if_pos room
      rw [turn]
      exact startChangeover_inPlace held full' m target
    · rw [requestSlot_joins waits (Nat.not_lt.1 room)]
      exact ⟨Placed.joinWaitList placed steady waits target,
        Full.joinWaitList full target (Nat.le_antisymm (placed.limit _) (Nat.not_lt.1 room))⟩

theorem dropWaiting_inPlace (inPlace : s.InPlace) (k : Train) : (s.dropWaiting k).InPlace :=
  ⟨Placed.dropWaiting inPlace.placed, Full.dropWaiting inPlace.full k⟩

/-- A train outside CHANGEOVER has no force pending (R106). -/
theorem pendingForce_of_ready {x : TrainRec} (ready : x.Ready) (out : x.state.changeover?.isSome = false) : x.pendingForce = false := by
  cases pending : x.pendingForce with
  | false => rfl
  | true =>
    rw [ready.force pending] at out
    cases out

/-- A steady mode entered by a train outside CHANGEOVER. -/
theorem enterSteady_inPlace (inPlace : s.InPlace) (out : (s.train k).state.changeover?.isSome = false) (m : Mode) :
    (s.enterSteady k m).InPlace := by
  rw [enterSteady_eq]
  exact (moved_sameSlots s k _ _).inPlace (InPlace.setTrain inPlace out.symm rfl
    (steadied_ready _ _ (pendingForce_of_ready (ready_of_inPlace inPlace k) out)))

theorem decideSteady_inPlace (inPlace : s.InPlace) (state : (s.train k).state = .steady m) (target : Mode) (force : Bool) :
    (s.decideSteady k m target force).InPlace := by
  have dropped := dropWaiting_inPlace inPlace k
  have out : ((s.dropWaiting k).train k).state.changeover?.isSome = false := by
    rw [show ((s.dropWaiting k).train k).state = _ from setWaiting_state s k none k, state]
    rfl
  unfold State.decideSteady
  dsimp only
  split_ifs
  · exact dropped
  · exact inPlace
  · exact enterSteady_inPlace dropped out _
  · exact dropped
  · exact inPlace
  · exact enterSteady_inPlace dropped out _
  · exact requestSlot_inPlace inPlace state

theorem decideChangeover_inPlace (inPlace : s.InPlace) (state : (s.train k).state = .changeover r) (target : Mode) (force : Bool) :
    (s.decideChangeover k r target force).InPlace := by
  have changing : (s.train k).state.changeover?.isSome = true := by rw [state]; rfl
  have ready := ready_of_inPlace inPlace k
  unfold State.decideChangeover
  split_ifs
  · have exempt := Placed.exempt inPlace.placed changing
    rw [enterSteady_eq, moved_setPendingForce]
    refine releaseSlot_inPlace (moved_placed exempt (by exact exempt.idle k rfl) _) inPlace.full ?_ ?_
    · rw [moved_train_self]
      exact .of_steady rfl rfl
    · rw [moved_train_self]
      rfl
  · exact InPlace.setTrain inPlace rfl rfl ⟨ready.record, ready.dwell, ready.waiting, fun _ => changing⟩
  · exact inPlace

theorem decideTarget_inPlace (inPlace : s.InPlace) (k : Train) : (s.decideTarget k).InPlace := by
  unfold State.decideTarget
  split
  · exact inPlace
  · split
    · next steady => exact decideSteady_inPlace inPlace steady _ _
    · next changeover => exact decideChangeover_inPlace inPlace changeover _ _
    · exact inPlace
    · exact inPlace

/-! Timers (R97, R104, R105). -/

theorem setDwell_none_inPlace (inPlace : s.InPlace) (k : Train) : (s.setDwell k none).InPlace := by
  have ready := ready_of_inPlace inPlace k
  exact InPlace.setTrain inPlace rfl rfl ⟨ready.record, fun runs => (by cases runs), ready.waiting, ready.force⟩

theorem startLockout_sameSlots (s : State) (k : Train) : SameSlots s (s.startLockout k) :=
  (setTrain_sameSlots (s := s) (k := k) (x := { s.train k with lockout := startTimer (s.params k).restartLockout }) ⟨rfl, rfl, rfl, rfl⟩).trans
    (.of_same rfl rfl rfl)

theorem wheelAtRest_inPlace (inPlace : s.InPlace) (k : Train) : (s.wheelAtRest k).InPlace := by
  unfold State.wheelAtRest
  split
  · next r state =>
    have sound := (ready_of_inPlace inPlace k).record r state
    have changing : (s.train k).state.changeover?.isSome = true := by rw [state]; rfl
    split
    · next waits =>
      split
      · exact completeStep_inPlace inPlace state sound
      · have ready := ready_of_inPlace inPlace k
        refine InPlace.setTrain inPlace changing.symm rfl ⟨fun r' same => ?_, fun runs => ?_, fun waits => ?_, fun _ => rfl⟩
        · cases same
          obtain ⟨steps, ⟨x, step, -, -, up⟩, first, -⟩ := sound
          obtain rfl : x = .wheelDown := Option.some.inj (step.symm.trans waits.1)
          exact ⟨steps, ⟨_, step, fun _ => rfl, fun h => (by cases h), fun h => (by cases h)⟩, first, iff_of_true rfl rfl⟩
        · have steady := ready.dwell runs
          rw [state] at steady
          cases steady
        · have steady := ready.waiting waits
          rw [state] at steady
          cases steady
    · exact inPlace
  · exact inPlace

theorem endLockout_inPlace (inPlace : s.InPlace) (k : Train) : (s.endLockout k).InPlace := by
  have same : SameSlots s (s.unlocked k) :=
    (SameSlots.of_same (s := s) (t := s.handOn (.drive k (.lockoutExpiry false))) rfl rfl rfl).trans
      (setTrain_sameSlots (s := s.handOn _) (k := k) (x := { s.train k with lockout := none }) ⟨rfl, rfl, rfl, rfl⟩)
  by_cases waits : ∃ r, (s.train k).state = .changeover r ∧ r.step? = some .wheelUp ∧ r.phase = .waitLockout
  · obtain ⟨r, state, step, phase⟩ := waits
    rw [endLockout_waits state step phase]
    have based := same.trans (setBases_sameSlots (s.unlocked k) k { (s.train k).bases with wheel := .recover })
    exact completeStep_inPlace (based.inPlace inPlace) ((based.trains k).state.trans state) ((ready_of_inPlace inPlace k).record r state)
  · have left : s.endLockout k = s.unlocked k := by
      rw [State.endLockout]
      dsimp only
      split
      · next r state =>
        rw [show ((s.setTrain k _).handOn _).train k = _ from setTrain_train_self _ k _] at state
        exact if_neg fun waiting => waits ⟨r, state, waiting⟩
      · rfl
    rw [left]
    exact same.inPlace inPlace

/-! HELD and SAFE (R108 to R112). -/

theorem takenOver_ready {x : TrainRec} {st : TrainState} (resting : st.underway = false) (waiting : x.waiting = none)
    (force : x.pendingForce = false) (b : Bases) : (x.takenOver st b).Ready := .of_resting resting rfl waiting force

theorem changeover?_of_resting {st : TrainState} (resting : st.underway = false) : st.changeover?.isSome = false := by
  cases st with
  | safe | held => rfl
  | steady | changeover => cases resting

theorem takeOver_inPlace (inPlace : s.InPlace) {st : TrainState} (resting : st.underway = false) (b : Bases) :
    (s.takeOver k st b).InPlace := by
  have out := changeover?_of_resting resting
  have ready := ready_of_inPlace inPlace k
  cases state : (s.train k).state with
  | steady m =>
    have other : (s.train k).state.changeover?.isSome = false := by rw [state]; rfl
    let x := TrainRec.takenOver { s.train k with waiting := none } st b
    have taken : s.takeOver k st b = ((s.dropWaiting k).setTrain k x).setRaised (s.raised ++ [.edge (.modeChanged k)]) := by
      rw [takeOver_steady state, dropWaiting_eq, ← setTrain_eq_moved, setTrain_setTrain]
      rfl
    have noForce := pendingForce_of_ready ready other
    have train : (s.dropWaiting k).train k = { s.train k with waiting := none } :=
      (setWaiting_train s k none k).trans (if_pos rfl)
    rw [taken]
    refine (SameSlots.of_same (s := (s.dropWaiting k).setTrain k x) (t := ((s.dropWaiting k).setTrain k x).setRaised (s.raised ++ [.edge (.modeChanged k)])) rfl rfl rfl).inPlace
      (InPlace.setTrain (dropWaiting_inPlace inPlace k) ?_ ?_ (takenOver_ready (x := { s.train k with waiting := none }) resting rfl noForce b))
    · rw [train]
      exact out.trans other.symm
    · rw [train]
      rfl
  | held v =>
    have other : (s.train k).state.changeover?.isSome = false := by rw [state]; rfl
    rw [takeOver_held state]
    exact (moved_sameSlots s k _ _).inPlace (InPlace.setTrain inPlace (out.trans other.symm) rfl
      (takenOver_ready resting (waiting_of_changeover ready (by rw [state]; rfl)) (pendingForce_of_ready ready other) b))
  | safe =>
    have other : (s.train k).state.changeover?.isSome = false := by rw [state]; rfl
    have taken : s.takeOver k st b = s.moved k ((s.train k).takenOver st b) [.edge (.modeChanged k)] := by
      have entered : s.takeOver k st b = ((s.enterState k st).setBases k b).setDwell k none := by
        rw [State.takeOver]
        dsimp only
        rw [state]
      rw [entered, enterState_eq, moved_setBases, moved_setDwell]
      rfl
    rw [taken]
    exact (moved_sameSlots s k _ _).inPlace (InPlace.setTrain inPlace (out.trans other.symm) rfl
      (takenOver_ready resting (waiting_of_changeover ready (by rw [state]; rfl)) (pendingForce_of_ready ready other) b))
  | changeover r =>
    have exempt := Placed.exempt inPlace.placed (k := k) (by rw [state]; rfl)
    have idle := exempt.idle k rfl
    rw [takeOver_changeover state]
    refine releaseSlot_inPlace (moved_placed exempt (by exact idle) _) inPlace.full ?_ ?_
    · rw [moved_train_self]
      exact .of_resting resting rfl idle rfl
    · rw [moved_train_self]
      exact out

theorem enterHeld_inPlace (inPlace : s.InPlace) (k : Train) (v : OutputValues) : (s.enterHeld k v).InPlace := by
  cases held : (s.train k).state.hold? with
  | none =>
    rw [enterHeld_of_other held]
    exact takeOver_inPlace inPlace rfl _
  | some w =>
    have state : (s.train k).state = .held w := by
      cases state : (s.train k).state with
      | held x => rw [state] at held; cases held; rfl
      | steady | changeover | safe => rw [state] at held; cases held
    have other : (s.train k).state.changeover?.isSome = false := by rw [state]; rfl
    have ready := ready_of_inPlace inPlace k
    rw [enterHeld_of_held state]
    have idle := waiting_of_changeover ready (by rw [state]; rfl)
    have noForce := pendingForce_of_ready ready other
    have told : (s.handOn (.drive k .holdValues)).InPlace :=
      (SameSlots.of_same (s := s) (t := s.handOn (.drive k .holdValues)) rfl rfl rfl).inPlace inPlace
    refine (moved_sameSlots _ k _ _).inPlace (InPlace.setTrain told other.symm rfl (.of_resting rfl ?_ idle noForce))
    cases dwell : (s.train k).dwell with
    | none => exact dwell
    | some d =>
      have steady := ready.dwell (by rw [dwell]; rfl)
      rw [state] at steady
      cases steady

theorem enterSafe_inPlace (inPlace : s.InPlace) (k : Train) : (s.enterSafe k).InPlace := by
  unfold State.enterSafe
  split
  · exact inPlace
  · exact (SameSlots.of_same (s := s.takeOver k .safe postureBases) (t := State.beginLevel _ _) rfl rfl rfl).inPlace (takeOver_inPlace inPlace rfl _)

theorem leaveSafe_inPlace (inPlace : s.InPlace) (k : Train) : (s.leaveSafe k).InPlace := by
  unfold State.leaveSafe
  split
  · next state =>
    exact (SameSlots.of_same (s := s.enterSteady k .bypass) (t := (s.enterSteady k .bypass).endLevel (.safe k)) rfl rfl rfl).inPlace
      (enterSteady_inPlace inPlace (by rw [state]; rfl) .bypass)
  · exact inPlace

theorem leaveHeld_inPlace (inPlace : s.InPlace) (k : Train) : (s.leaveHeld k).InPlace := by
  unfold State.leaveHeld
  split
  · next state => exact enterSteady_inPlace inPlace (by rw [state]; rfl) .bypass
  · exact inPlace

end

end Sys2Proof.Machine
end

section
/-! Every step keeps slots, holders and wait lists consistent with the trains (R101, R118, R119). -/

namespace Sys2Proof.Machine

section
variable {s t u : State} {k : Train}

theorem trainsSound_iff_inPlace (s : State) : s.trainsSound ↔
    s.InPlace ∧ (∀ k, (s.train k).touched = .clear) ∧ ∀ h, 1 ≤ (s.active.shafts.get h).slotLimit := by
  rw [trainsSound_iff]
  exact ⟨fun ⟨placed, full, marks, limits⟩ => ⟨⟨placed, full⟩, marks, limits⟩, fun ⟨⟨placed, full⟩, marks, limits⟩ => ⟨placed, full, marks, limits⟩⟩

/-- The trains and the lists of the shafts as they were. -/
theorem trainsSound_of_same (sound : s.trainsSound) (active : t.active = s.active)
    (shafts : ∀ h, (t.shaft h).holders = (s.shaft h).holders ∧ (t.shaft h).waitList = (s.shaft h).waitList) (trains : t.trains = s.trains) :
    t.trainsSound := by
  rw [trainsSound_iff_inPlace] at sound ⊢
  obtain ⟨inPlace, marks, limits⟩ := sound
  have train : ∀ k, t.train k = s.train k := fun k => congrArg (Vec.get · k) trains
  have same : SameSlots s t := ⟨active, shafts, fun k => by rw [train]; exact .refl _⟩
  refine ⟨same.inPlace inPlace, fun k => ?_, ?_⟩
  · rw [train]; exact marks k
  · rw [active]; exact limits

theorem trainsSound_of_frame (sound : s.trainsSound) (active : t.active = s.active) (shafts : t.shafts = s.shafts)
    (trains : t.trains = s.trains) : t.trainsSound :=
  trainsSound_of_same sound active (fun h => by rw [shaft_of_shafts shafts]; exact ⟨rfl, rfl⟩) trains

theorem setHandoffs_trainsSound (sound : s.trainsSound) (xs : List Handoff) : (s.setHandoffs xs).trainsSound :=
  trainsSound_of_frame (t := s.setHandoffs xs) sound rfl rfl rfl

theorem setShare_trainsSound (sound : s.trainsSound) (k : Train) (e : AllocEntry) : (s.setShare k e).trainsSound :=
  trainsSound_of_frame (t := s.setShare k e) sound rfl rfl rfl

/-- The end of an event that kept the trains in their places. -/
theorem endEvent_trainsSound (limits : ∀ h, 1 ≤ (u.active.shafts.get h).slotLimit) (inPlace : u.InPlace) : u.endEvent.trainsSound := by
  rw [trainsSound_iff_inPlace]
  refine ⟨endEvent_inPlace inPlace, fun k => by rw [endEvent_train]; rfl, ?_⟩
  rw [(endEvent_sameSlots u).active]
  exact limits

theorem event_trainsSound (sound : s.trainsSound) (inPlace : u.InPlace) (active : u.active = s.active) : u.endEvent.trainsSound :=
  endEvent_trainsSound (by rw [active]; exact sound.limits) inPlace

theorem inPlace_of_trainsSound (sound : s.trainsSound) : s.InPlace := ((trainsSound_iff_inPlace s).1 sound).1

theorem takePosture_trainsSound (sound : s.trainsSound) (x : Handoff) : (State.takePosture x s).trainsSound := by
  have inPlace := inPlace_of_trainsSound sound
  unfold State.takePosture
  split
  · next k => exact event_trainsSound sound (enterSafe_inPlace inPlace k) (enterSafe_same s k).active
  · next k => exact event_trainsSound sound (leaveSafe_inPlace inPlace k) (leaveSafe_same s k).active
  · next k v =>
    have same := applyPosture_same s k v
    exact trainsSound_of_frame sound same.active same.shafts same.trains
  · next k =>
    have same := endPosture_same s k
    exact trainsSound_of_frame sound same.active same.shafts same.trains
  · exact sound

theorem completePostures_trainsSound (sound : s.trainsSound) : s.completePostures.trainsSound :=
  forEach_induct (P := State.trainsSound) (fun x _ _ sound => takePosture_trainsSound sound x) (setHandoffs_trainsSound sound _)

theorem TrainEvent.trainsSound (h : TrainEvent s t) (sound : s.trainsSound) : t.trainsSound := by
  have inPlace := inPlace_of_trainsSound sound
  cases h with
  | handoffTaken p => exact setHandoffs_trainsSound sound _
  | decided k => exact event_trainsSound sound (decideTarget_inPlace inPlace k) (decideTarget_same s k).active
  | dwellEnded k =>
    obtain ⟨-, marks, limits⟩ := (trainsSound_iff_inPlace s).1 sound
    refine (trainsSound_iff_inPlace _).2 ⟨setDwell_none_inPlace inPlace k, fun j => ?_, limits⟩
    rw [State.setDwell, setTrain_train]
    split
    · exact marks k
    · exact marks j
  | stepEnded k r state =>
    exact event_trainsSound sound (completeStep_inPlace inPlace state ((ready_of_inPlace inPlace k).record r state))
      (completeStep_same s k r).active
  | wheelStopped k =>
    exact event_trainsSound sound (wheelAtRest_inPlace ((startLockout_sameSlots s k).inPlace inPlace) k)
      ((wheelAtRest_same _ k).active.trans (startLockout_same s k).active)
  | lockoutEnded k => exact event_trainsSound sound (endLockout_inPlace inPlace k) (endLockout_same s k).active
  | heldAt k v => exact event_trainsSound sound (enterHeld_inPlace inPlace k v) (enterHeld_same s k v).active
  | released k => exact event_trainsSound sound (leaveHeld_inPlace inPlace k) (leaveHeld_same s k).active
  | postureTaken x p k => exact takePosture_trainsSound (setHandoffs_trainsSound sound _) x
  | posturesCompleted => exact completePostures_trainsSound sound
  | commanded k src o =>
    have taken : (s.setHandoffs (s.handoffs.eraseP (Handoff.isDrive k src))).trainsSound := setHandoffs_trainsSound sound _
    generalize s.setHandoffs (s.handoffs.eraseP (Handoff.isDrive k src)) = q at taken
    have stored := store_same q k o
    have same := recompute_same (q.store k o) k
    exact trainsSound_of_frame taken (same.active.trans stored.active) (same.shafts.trans stored.shafts) (same.trains.trans stored.trains)
  | ramped k =>
    have same := ramp_same s k
    exact trainsSound_of_frame sound same.active same.shafts same.trains

/-! The allocator, the timers and the resets. -/

theorem recomputeShaft_trainsSound (sound : s.trainsSound) (h : Shaft) : (s.recomputeShaft h).trainsSound := by
  have same := recomputeShaft_same s h
  refine trainsSound_of_same sound same.active (fun g => ?_) same.trains
  by_cases here : g = h
  · rw [here]
    exact recomputeShaft_lists s h
  · rw [recomputeShaft_shaft_ne s h here]
    exact ⟨rfl, rfl⟩

theorem takeBasis_trainsSound (sound : s.trainsSound) (k : Train) (b : OaBasis) (a : Bool) : (s.takeBasis k b a).trainsSound :=
  recomputeShaft_trainsSound (setShare_trainsSound sound k _) _

theorem takeRequest_trainsSound (sound : s.trainsSound) (k : Train) (v : Nat) : (s.takeRequest k v).trainsSound := by
  unfold State.takeRequest
  dsimp only
  split
  · exact recomputeShaft_trainsSound (setShare_trainsSound sound k _) _
  · exact setShare_trainsSound sound k _

theorem tick_changeover? (st : TrainState) : st.tick.changeover?.isSome = st.changeover?.isSome := by
  cases st <;> rfl

theorem tick_steady? (st : TrainState) : st.tick.steady? = st.steady? := by
  cases st <;> rfl

theorem tick_ready {x : TrainRec} (ready : x.Ready) : x.tick.Ready := by
  refine ⟨fun r state => ?_, fun runs => ?_, fun waits => ?_, fun pending => ?_⟩
  · cases before : x.state with
    | changeover r' =>
      have after : r = { r' with timer := tickTimer r'.timer } := by
        rw [TrainRec.tick, before] at state
        cases state
        rfl
      obtain ⟨steps, step, first, timer⟩ := ready.record r' before
      subst after
      exact ⟨steps, step, first, timer.trans (by rw [tickTimer_isSome])⟩
    | steady | safe | held =>
      rw [TrainRec.tick, before] at state
      cases state
  · rw [show x.tick.state = x.state.tick from rfl, tick_steady?]
    exact ready.dwell (tickTimer_isSome x.dwell ▸ runs)
  · rw [show x.tick.state = x.state.tick from rfl, tick_steady?]
    exact ready.waiting waits
  · rw [show x.tick.state = x.state.tick from rfl, tick_changeover?]
    exact ready.force pending

theorem tick_trainsSound (sound : s.trainsSound) : ({ s.tickTimers with uptime := s.uptime + 1 } : State).trainsSound := by
  obtain ⟨⟨placed, full⟩, marks, limits⟩ := (trainsSound_iff_inPlace s).1 sound
  have train : ∀ k, ({ s.tickTimers with uptime := s.uptime + 1 } : State).train k = (s.train k).tick := fun k => Vec.get_map _ _ _
  have standing : SameStanding s { s.tickTimers with uptime := s.uptime + 1 } := by
    refine ⟨rfl, fun _ => ⟨rfl, rfl⟩, fun k => ?_⟩
    rw [train]
    exact ⟨tick_changeover? _, rfl⟩
  refine (trainsSound_iff_inPlace _).2 ⟨⟨Placed.of_standing placed standing fun k _ => ?_, Full.of_standing full standing⟩, fun k => ?_, limits⟩
  · rw [train]
    exact tick_ready (placed.ready k (Option.some_ne_none k).symm)
  · rw [train]
    exact marks k

theorem samplePosture_inPlace (inPlace : s.InPlace) (k : Train) : (State.samplePosture k s).InPlace := by
  have decided : (s.setPosture k (s.decidedPosture k)).InPlace :=
    (SameSlots.of_same (s := s) (t := s.setPosture k (s.decidedPosture k)) rfl rfl rfl).inPlace inPlace
  unfold State.samplePosture
  dsimp only
  split
  · exact decided
  · next a _ =>
    have same := applyPosture_same ((s.setPosture k (s.decidedPosture k)).enterSafe k) k (s.active.postureValues a.code)
    exact (SameSlots.of_same same.active same.shafts same.trains).inPlace (enterSafe_inPlace decided k)

/-- Nobody holds a slot and nobody waits. -/
theorem reset_inPlace (trains : ∀ k, s.train k = .reset) (shafts : ∀ h, (s.shaft h).holders = [] ∧ (s.shaft h).waitList = []) : s.InPlace := by
  refine ⟨⟨fun k _ => ?_, fun h => ?_, fun h => ?_, fun h k => ?_, fun h => ?_, fun h k m => ?_, fun _ e => by cases e⟩, fun h waits => ?_⟩
  · rw [trains]
    exact .of_steady rfl rfl
  · rw [(shafts h).1]
    exact Nat.zero_le _
  · rw [(shafts h).1]
    exact List.nodup_nil
  · rw [(shafts h).1, trains]
    refine iff_of_false List.not_mem_nil fun held => ?_
    obtain ⟨-, changing | e⟩ := held
    · cases changing
    · cases e
  · rw [(shafts h).2]
    exact List.nodup_nil
  · rw [(shafts h).2, trains]
    exact iff_of_false List.not_mem_nil fun waits => (by cases waits.2)
  · exact absurd (shafts h).2 waits

theorem resetBlocks_trainsSound (limits : ∀ h, 1 ≤ (s.active.shafts.get h).slotLimit) (cause : ResetCause) (v : Vec 4 Level) :
    (s.resetBlocks cause v).trainsSound := by
  have cleared : ((s.clearRuntime cause).fileRaise (.begins .referenceLost)).trains = .replicate 8 .reset ∧
      ((s.clearRuntime cause).fileRaise (.begins .referenceLost)).shafts = .ofFn (fun h => .reset (capF s.active h)) ∧
      ((s.clearRuntime cause).fileRaise (.begins .referenceLost)).active = s.active := by
    rw [fileRaise_frame]
    exact ⟨rfl, rfl, rfl⟩
  unfold State.resetBlocks
  generalize (s.clearRuntime cause).fileRaise (.begins .referenceLost) = u at cleared
  obtain ⟨trains, shafts, active⟩ := cleared
  have start : u.InPlace := by
    refine reset_inPlace (fun k => ?_) fun h => ?_
    · rw [State.train, trains, Vec.get_replicate]
    · rw [State.shaft, shafts, Vec.get_ofFn]
      exact ⟨rfl, rfl⟩
  have sampled := forEach_induct (P := fun w => w.InPlace ∧ w.active = s.active) (f := State.samplePosture) (xs := allTrains)
    (s := { u with lines := v.map LineRec.sampled })
    (fun k _ w hw => ⟨samplePosture_inPlace hw.1 k, (samplePosture_same k w).active.trans hw.2⟩)
    ⟨(SameSlots.of_same (s := u) (t := { u with lines := v.map LineRec.sampled }) rfl rfl rfl).inPlace start, active⟩
  exact endEvent_trainsSound (by rw [sampled.2]; exact limits) sampled.1

end

/-! APPLY (R127, R128). -/

section
variable {s : State}

theorem busyTrain_iff (s : State) (k : Train) : s.busyTrain k = true ↔
    ∃ h, k ∈ (s.shaft h).holders ∨ ∃ e ∈ (s.shaft h).waitList, e.train = k := by
  simp [State.busyTrain, mem_allShafts]

/-- What the checks of an APPLY leave of the slots (R127): the holders within the new limits, and each train that holds or waits for a slot
under its shaft. -/
structure SlotsFit (s : State) : Prop where
  limits : ∀ h, (s.shaft h).holders.length ≤ (s.staged.shafts.get h).slotLimit
  shafts : ∀ k, s.busyTrain k = true → (s.staged.train k).shaft = (s.active.train k).shaft

theorem slotsFit_of_applyFault (accepted : s.applyFault? = none) : SlotsFit s := by
  unfold State.applyFault? at accepted
  simp only [Option.orElse_eq_orElse, Option.orElse_eq_or, Option.or_eq_none_iff, Option.map_eq_none_iff, List.find?_eq_none,
    decide_eq_true_iff] at accepted
  obtain ⟨-, limits, shafts⟩ := accepted
  refine ⟨fun h => Nat.not_lt.1 (limits h (mem_allShafts h)), fun k busy => ?_⟩
  by_contra moved
  exact shafts k (mem_allTrains k) ⟨moved, busy⟩

/-- A train that neither holds nor waits for a slot may have another shaft (R127). -/
theorem SlotsFit.shaftOf (fit : SlotsFit s) (placed : s.Placed none) {k : Train}
    (busy : (s.train k).state.changeover?.isSome = true ∨ (s.train k).waiting.isSome = true) : (s.staged.train k).shaft = s.shaftOf k := by
  refine fit.shafts k ((busyTrain_iff s k).2 ⟨s.shaftOf k, ?_⟩)
  obtain changing | waits := busy
  · exact .inl ((placed.holders _ k).2 ⟨rfl, .inl changing⟩)
  · obtain ⟨m, waiting⟩ := Option.isSome_iff_exists.1 waits
    exact .inr ⟨⟨k, m⟩, (placed.waits _ k m).2 ⟨rfl, waiting⟩, rfl⟩

/-- The trains are in their places under the new set too, before its limits are used. -/
theorem applyTables_placed (fit : SlotsFit s) (placed : s.Placed none) : s.applyTables.Placed none := by
  have frame : s.applyTables.active = s.staged ∧ s.applyTables.trains = s.trains ∧ s.applyTables.shafts = s.shafts := by
    rw [applyTables_frame, applyReference_frame, applyNotices_frame]
    exact ⟨rfl, rfl, rfl⟩
  generalize s.applyTables = u at frame
  obtain ⟨active, trains, shafts⟩ := frame
  have train : ∀ k, u.train k = s.train k := fun k => congrArg (Vec.get · k) trains
  have shaft := shaft_of_shafts shafts
  have shaftOf : ∀ k, u.shaftOf k = (s.staged.train k).shaft := fun k => by rw [State.shaftOf, State.params, active]
  refine ⟨fun k free => train k ▸ placed.ready k free, fun h => ?_, fun h => ?_, fun h k => ?_, fun h => ?_, fun h k m => ?_,
    fun _ e => by cases e⟩
  · rw [shaft, active]; exact fit.limits h
  · rw [shaft]; exact placed.holdersOnce h
  · rw [shaft, shaftOf, train]
    refine (placed.holders h k).trans (and_congr_left fun held => ?_)
    rw [fit.shaftOf placed (.inl (held.resolve_right (Option.some_ne_none k).symm))]
  · rw [shaft]; exact placed.waitOnce h
  · rw [shaft, shaftOf, train]
    refine (placed.waits h k m).trans (and_congr_left fun waits => ?_)
    rw [fit.shaftOf placed (.inr (by rw [waits]; rfl))]

/-- The slots of a shaft handed out under a new limit (R128). -/
theorem applyLimit_handedOut {u : State} {old : Params} {h : Shaft} (placed : u.Placed none)
    (full : (u.shaft h).waitList ≠ [] → (u.shaft h).holders.length = (old.shafts.get h).slotLimit) :
    HandedOut u (State.applyLimit old h u) h := by
  unfold State.applyLimit
  split
  · exact handOut_handedOut placed le_rfl
  · next kept =>
    refine .refl placed fun waits => ?_
    have all := full waits
    have limit := placed.limit h
    omega

/-- What the hand-out in one shaft leaves of the others. -/
theorem applyLimit_kept {u : State} (old : Params) (h : Shaft) (placed : u.Placed none) : (State.applyLimit old h u).Placed none ∧
    (State.applyLimit old h u).active = u.active ∧ ∀ g, g ≠ h → (State.applyLimit old h u).shaft g = u.shaft g := by
  unfold State.applyLimit
  split
  · have handed := handOut_handedOut (h := h) placed le_rfl
    exact ⟨handed.placed, handed.active, handed.others⟩
  · exact ⟨placed, rfl, fun _ _ => rfl⟩

theorem FullAt.of_shaft {u w : State} {h : Shaft} (full : u.FullAt h) (shaft : w.shaft h = u.shaft h) (active : w.active = u.active) :
    w.FullAt h := by
  rw [State.FullAt, shaft, active]
  exact full

theorem applyLimits_inPlace (fit : SlotsFit s) (inPlace : s.InPlace) : s.applyLimits.InPlace := by
  have shafts : s.applyTables.shafts = s.shafts := by rw [applyTables_frame, applyReference_frame, applyNotices_frame]
  have placed := applyTables_placed fit inPlace.placed
  unfold State.applyLimits
  generalize s.applyTables = u at shafts placed
  refine endEvent_inPlace ⟨?_, fun h => ?_⟩
  · exact forEach_induct (P := fun w => w.Placed none) (fun g _ w placed => (applyLimit_kept s.active g placed).1) placed
  · refine (forEach_at (P := fun w => w.Placed none ∧ w.shaft h = s.shaft h) (Q := fun w => w.Placed none ∧ w.FullAt h)
      (fun g w other hw => ?_) (fun w hw => ?_) (fun g w other hw => ?_) allShafts_nodup (mem_allShafts h)
      ⟨placed, shaft_of_shafts shafts h⟩).2
    · obtain ⟨kept, -, others⟩ := applyLimit_kept s.active g hw.1
      exact ⟨kept, (others h (Ne.symm other)).trans hw.2⟩
    · have handed := applyLimit_handedOut (old := s.active) hw.1 (hw.2 ▸ inPlace.full h)
      exact ⟨handed.placed, FullAt.of_shaft handed.full rfl rfl⟩
    · obtain ⟨kept, active, others⟩ := applyLimit_kept s.active g hw.1
      exact ⟨kept, FullAt.of_shaft hw.2 (others h (Ne.symm other)) active⟩

theorem applyStaged_trainsSound (sound : s.trainsSound) (limits : ∀ h, 1 ≤ (s.staged.shafts.get h).slotLimit)
    (accepted : s.applyFault? = none) : s.applyStaged.trainsSound := by
  have limited : s.applyLimits.trainsSound := by
    have active : s.applyLimits.active = s.staged := by
      rw [(applyLimits_same s).active, applyTables_frame, applyReference_frame, applyNotices_frame]
    refine (trainsSound_iff_inPlace _).2 ⟨applyLimits_inPlace (slotsFit_of_applyFault accepted) (inPlace_of_trainsSound sound), fun k => ?_, ?_⟩
    · unfold State.applyLimits
      rw [endEvent_train]
      rfl
    · rw [active]
      exact limits
  have shared : s.applyShafts.trainsSound := by
    refine forEach_induct (P := State.trainsSound) (fun h _ u sound => ?_) limited
    unfold State.applyShaft
    split
    · exact recomputeShaft_trainsSound sound h
    · exact sound
  have drives := applyDrives_same s
  have postures := decidePostures_same s.applyDrives s.active
  rw [applyStaged_eq]
  exact trainsSound_of_frame shared (postures.active.trans drives.active) (postures.shafts.trans drives.shafts)
    (postures.trains.trans drives.trains)

end

theorem setEntries_trainsSound {s : State} (sound : s.trainsSound) (l : Link) (es : List NoticeEntry) : (s.setEntries l es).trainsSound :=
  trainsSound_of_frame (t := s.setEntries l es) sound rfl rfl rfl

theorem Effect.trainsSound {s t : State} (h : Effect s t) (params : s.paramsSound) (sound : s.trainsSound) : t.trainsSound := by
  have same {t : State} := trainsSound_of_frame (t := t) sound
  have limits {p : Params} (inRange : p.inRange) : ∀ h, 1 ≤ (p.shafts.get h).slotLimit := fun h => (inRange.shafts h).2.1
  cases h with
  | event h => exact h.trainsSound sound
  | second => exact tick_trainsSound sound
  | defaults cause v => exact resetBlocks_trainsSound (s := s.toDefaults) (limits defaultParams_inRange) cause v
  | restarted => exact resetBlocks_trainsSound (s := { s with ports := s.ports.map LinkPort.restarted }) (limits params.active) _ _
  | noticesCleared l | noticeTaken l | noticeAcked l => exact setEntries_trainsSound sound _ _
  | noticeHandled => rw [handleNotice_frame]; exact same rfl rfl rfl
  | published l c v => rw [publish_frame]; exact same rfl rfl rfl
  | wentStale c => rw [goStale_frame]; exact same rfl rfl rfl
  | evaluated k => rw [evaluate_frame]; exact same rfl rfl rfl
  | demandAccepted l k f => rw [acceptDemand_frame]; exact same rfl rfl rfl
  | demandExpired k l => rw [expireDemand_frame]; exact same rfl rfl rfl
  | demandWithdrawn k l => rw [changeTable_frame]; exact same rfl rfl rfl
  | basisTaken k b a => exact takeBasis_trainsSound (setHandoffs_trainsSound sound _) k b a
  | requestTaken k v => exact takeRequest_trainsSound (setHandoffs_trainsSound sound _) k v
  | sensedLow n => rw [senseLow_frame]; exact same rfl rfl rfl
  | sensedHigh n => rw [senseHigh_frame]; exact same rfl rfl rfl
  | assertionEnded n => rw [endAssertion_frame]; exact same rfl rfl rfl
  | applied awake settled accepted => exact applyStaged_trainsSound sound (limits params.staged) accepted
  | lockSet => rw [setLock_frame]; exact same rfl rfl rfl
  | lineHeld | periodBegun | port | referenceRead | reportRefused | accumulated | staged | discarded => exact same rfl rfl rfl

/-- Settles O58: each effect keeps the trains in their places under sound parameter sets. -/
theorem slotsStaySound : Obligations.SlotsStaySound := by
  unfold Obligations.SlotsStaySound
  intro s t sound h
  refine (step_keeps (P := fun s => s.paramsSound ∧ s.trainsSound) (fun s _ h => ?queue) (fun s t e h => ?effect)
    ⟨sound.params, sound.trains⟩ h).2
  case queue =>
    obtain ⟨params, trains⟩ := h
    exact ⟨⟨params.active, params.staged, params.relations, params.frozen⟩, trainsSound_of_frame trains rfl rfl rfl⟩
  case effect =>
    obtain ⟨params, trains⟩ := h
    exact ⟨e.paramsSound params, e.trainsSound params trains⟩

end Sys2Proof.Machine
end

section
/-! A reset: the records cleared, REFERENCE_LOST filed, the lines sampled (R34, R157, R181). -/

namespace Sys2Proof.Machine

/-! What the sampling finds for a train, and what it makes of its records. -/

/-- A train's record at the sampling, before its bases are handed on (R111). -/
def sampledTrain : Option EffectivePosture → TrainRec
  | none => .reset
  | some _ => TrainRec.takenOver .reset .safe postureBases

/-- A train's drive record at the sampling (R145). -/
def sampledDrive (p : Params) (k : Train) : Option EffectivePosture → DriveRec
  | none => .reset (p.train k).oaMin
  | some a => { DriveRec.reset (p.train k).oaMin with
    bypass := ⟨(p.posture a.code).bp, (p.posture a.code).bp⟩, oa := ⟨(p.posture a.code).oa, (p.posture a.code).oa⟩
    posture := some (p.postureValues a.code) }

/-- What the Notice Table is told of a train at the sampling. -/
def sampledRaises (k : Train) : Option EffectivePosture → List Raise
  | none => []
  | some _ => [.edge (.modeChanged k), .begins (.safe k)]

/-- What the end of the reset hands on of a train. -/
def sampledNews (k : Train) : Option EffectivePosture → List Handoff
  | none => []
  | some _ => [.drive k (.bases postureBases), .shaft k (.basis .posture false)]

theorem sampledTrain_news (k : Train) (found : Option EffectivePosture) : (sampledTrain found).news k = sampledNews k found := by
  cases found <;> rfl

/-- A table with the entries of a list of trains replaced. -/
def setEach {α : Type} (f : Train → α) (ks : List Train) (v : Vec 8 α) : Vec 8 α := ks.foldl (fun v k => v.set k (f k)) v

theorem setEach_get {α : Type} (f : Train → α) (ks : List Train) (v : Vec 8 α) (j : Train) :
    (setEach f ks v).get j = if j ∈ ks then f j else v.get j := by
  induction ks generalizing v with
  | nil => rfl
  | cons k ks ih =>
    rw [setEach, List.foldl_cons, ← setEach, ih, Vec.get_set]
    by_cases later : j ∈ ks
    · rw [if_pos later, if_pos (List.mem_cons_of_mem _ later)]
    · rw [if_neg later]
      by_cases now : k = j
      · rw [if_pos now, if_pos (now ▸ List.mem_cons_self), now]
      · rw [if_neg now, if_neg fun mem => (List.mem_cons.1 mem).elim (fun e => now e.symm) later]

theorem setEach_all {α : Type} (f : Train → α) (v : Vec 8 α) : setEach f allTrains v = .ofFn f :=
  Vec.ext_get fun j => by rw [setEach_get, if_pos (mem_allTrains j), Vec.get_ofFn]

section
variable {s : State} {k : Train}

/-- A train with every record at its reset state. -/
structure State.Fresh (s : State) (k : Train) : Prop where
  train : s.train k = .reset
  drive : s.drive k = .reset (s.params k).oaMin

theorem enterSafe_fresh (train : s.train k = .reset) (nobody : ∀ h, (s.shaft h).waitList = []) :
    s.enterSafe k = s.moved k (TrainRec.takenOver .reset .safe postureBases) [.edge (.modeChanged k), .begins (.safe k)] := by
  have state : (s.train k).state = .steady .offline := by rw [train]; rfl
  have waitless : s.setShaft (s.shaftOf k) ((s.shaft (s.shaftOf k)).waitless k) = s := by
    have same : (s.shaft (s.shaftOf k)).waitless k = s.shaft (s.shaftOf k) := by
      unfold ShaftRec.waitless
      rw [nobody, List.filter_nil, ← nobody (s.shaftOf k)]
    rw [same]
    exact congrArg (fun shafts => ({ s with shafts := shafts } : State)) (Vec.set_get _ _)
  rw [enterSafe_of_other (by rw [state]; exact TrainState.noConfusion), takeOver_steady state, waitless, train, State.beginLevel,
    moved_setRaised]
  rfl

theorem bandAfter_of_zero (band : (s.drive k).band = none) (basis : (s.drive k).bases.wheel = .zero) : s.bandAfter k = none := by
  unfold State.bandAfter
  dsimp only
  rw [if_neg fun h => (by rw [basis] at h; cases h.2), band]

/-- The posture of a train at rest, taken at once: no wheel moves. -/
theorem applyPosture_fresh {oaMin : Nat} (drive : s.drive k = .reset oaMin) (v : OutputValues) (stands : v.ws = 0) : s.applyPosture k v =
    s.setDrive k { DriveRec.reset oaMin with bypass := ⟨v.bp, v.bp⟩, oa := ⟨v.oa, v.oa⟩, posture := some v } := by
  have band : s.bandAfter k = none := bandAfter_of_zero (by rw [drive]; rfl) (by rw [drive]; rfl)
  rw [applyPosture_eq, band, drive, stands]
  unfold State.setDrive DriveRec.reset
  simp

/-- A state with one train sampled. -/
def State.sampled (s : State) (k : Train) : State :=
  { s with
    postures := s.postures.set k (s.decidedPosture k), trains := s.trains.set k (sampledTrain (s.decidedPosture k))
    drives := s.drives.set k (sampledDrive s.active k (s.decidedPosture k))
    raised := s.raised ++ sampledRaises k (s.decidedPosture k) }

theorem samplePosture_fresh (fresh : s.Fresh k) (nobody : ∀ h, (s.shaft h).waitList = []) : State.samplePosture k s = s.sampled k := by
  obtain ⟨train, drive⟩ := fresh
  unfold State.samplePosture State.sampled
  dsimp only
  cases s.decidedPosture k with
  | none =>
    have trains : s.trains.set k (sampledTrain none) = s.trains := by
      rw [sampledTrain, ← train]
      exact Vec.set_get _ _
    have drives : s.drives.set k (sampledDrive s.active k none) = s.drives := by
      rw [sampledDrive]
      exact (congrArg (s.drives.set k) drive.symm).trans (Vec.set_get _ _)
    rw [trains, drives, sampledRaises, List.append_nil]
    rfl
  | some a =>
    dsimp only
    rw [enterSafe_fresh (s := s.setPosture k (some a)) train nobody,
      applyPosture_fresh (s := (s.setPosture k (some a)).moved k _ _) drive _ rfl]
    rfl

/-- The trains sampled one after another. -/
theorem forEach_samplePosture {ks : List Train} (once : ks.Nodup) (fresh : ∀ k ∈ ks, s.Fresh k) (nobody : ∀ h, (s.shaft h).waitList = []) :
    forEach ks State.samplePosture s = { s with
      postures := setEach s.decidedPosture ks s.postures, trains := setEach (fun k => sampledTrain (s.decidedPosture k)) ks s.trains
      drives := setEach (fun k => sampledDrive s.active k (s.decidedPosture k)) ks s.drives
      raised := s.raised ++ ks.flatMap fun k => sampledRaises k (s.decidedPosture k) } := by
  induction ks generalizing s with
  | nil => simp [forEach_nil, setEach]
  | cons k ks ih =>
    obtain ⟨new, once⟩ := List.nodup_cons.1 once
    rw [forEach_cons, samplePosture_fresh (fresh k List.mem_cons_self) nobody, ih (s := s.sampled k) once (fun j mem => ?_) nobody]
    · rw [List.flatMap_cons, ← List.append_assoc]
      rfl
    · have other : k ≠ j := fun same => new (same ▸ mem)
      obtain ⟨train, drive⟩ := fresh j (List.mem_cons_of_mem _ mem)
      exact ⟨(Vec.get_set_ne _ other _).trans train, (Vec.get_set_ne _ other _).trans drive⟩

end

end Sys2Proof.Machine
end

section
/-! The states that the resets leave (R34, R157, R175, R181). -/

namespace Sys2Proof.Machine

/-- The posture that a sampling of the lines finds for a train (R150, R154). -/
def sampledPosture (p : Params) (v : Vec 4 Level) (k : Train) : Option EffectivePosture :=
  (allLines.find? fun n => decide (v.get n = .low) && inTrains (p.lines.get n).trains k).map fun n => ⟨n, (p.lines.get n).code⟩

/-- The pending sets a reset leaves (R34, R181). -/
def resetNotices (p : Params) : Vec 3 NoticeSet :=
  ⟨allLinks.map fun l => if p.routes .referenceLost l = true then .afterReset else ⟨[], false⟩, rfl⟩

theorem resetNotices_get (p : Params) (l : Link) : (resetNotices p).get (linkIndex l) =
    if p.routes .referenceLost l = true then .afterReset else ⟨[], false⟩ := by
  cases l <;> rfl

/-- A state with its runtime records cleared, REFERENCE_LOST filed and the lines sampled. -/
def State.cleared (s : State) (cause : ResetCause) (v : Vec 4 Level) : State :=
  { (s.clearRuntime cause).fileRaise (.begins .referenceLost) with lines := v.map LineRec.sampled }

section
variable (s : State) (cause : ResetCause) (v : Vec 4 Level)

theorem cleared_notices : ((s.clearRuntime cause).fileRaise (.begins .referenceLost)).notices = resetNotices s.active :=
  Vec.ext_get fun i => by
    obtain ⟨l, rfl⟩ := linkIndex_surjective i
    have filed := fileRaise_notice (s.clearRuntime cause) (.begins .referenceLost) l
    have empty : (s.clearRuntime cause).notice l = ⟨[], false⟩ := Vec.get_replicate _ _
    rw [empty] at filed
    exact filed.trans (resetNotices_get s.active l).symm

theorem cleared_eq : s.cleared cause v = { s.clearRuntime cause with
    held := [.referenceLost], notices := resetNotices s.active, lines := v.map LineRec.sampled } := by
  have held := fileRaise_held (s.clearRuntime cause) (.begins .referenceLost)
  have notices := cleared_notices s cause
  unfold State.cleared
  rw [fileRaise_frame, held, notices]
  rfl

theorem cleared_decidedPosture (k : Train) : (s.cleared cause v).decidedPosture k = sampledPosture s.active v k := by
  have line : ∀ n, (s.cleared cause v).line n = .sampled (v.get n) := fun n => Vec.get_map _ _ _
  have active : (s.cleared cause v).active = s.active := by rw [cleared_eq]; rfl
  unfold State.decidedPosture sampledPosture State.governs
  rw [active]
  simp only [line, LineRec.sampled]

theorem cleared_fresh (k : Train) : (s.cleared cause v).Fresh k := by
  have active : (s.cleared cause v).active = s.active := by rw [cleared_eq]; rfl
  have trains : (s.cleared cause v).trains = .replicate 8 .reset := by rw [cleared_eq]; rfl
  have drives : (s.cleared cause v).drives = .ofFn fun k => .reset (s.params k).oaMin := by rw [cleared_eq]; rfl
  refine ⟨?_, ?_⟩
  · rw [State.train, trains, Vec.get_replicate]
  · rw [State.drive, drives, Vec.get_ofFn, State.params, State.params, active]

theorem cleared_nobody (h : Shaft) : ((s.cleared cause v).shaft h).waitList = [] := by
  have shafts : (s.cleared cause v).shafts = .ofFn fun h => .reset (capF s.active h) := by rw [cleared_eq]; rfl
  rw [State.shaft, shafts, Vec.get_ofFn]
  rfl

/-- A reset, block by block. -/
theorem resetBlocks_eq : s.resetBlocks cause v = { s.clearRuntime cause with
    held := [.referenceLost], notices := resetNotices s.active, lines := v.map LineRec.sampled
    postures := .ofFn (sampledPosture s.active v)
    trains := .ofFn fun k => (sampledTrain (sampledPosture s.active v k)).settled
    drives := .ofFn fun k => sampledDrive s.active k (sampledPosture s.active v k)
    raised := allTrains.flatMap fun k => sampledRaises k (sampledPosture s.active v k)
    handoffs := allTrains.flatMap fun k => sampledNews k (sampledPosture s.active v k) } := by
  let u := s.cleared cause v
  have sampled := forEach_samplePosture (s := u) allTrains_nodup (fun k _ => cleared_fresh s cause v k) (cleared_nobody s cause v)
  have decided : u.decidedPosture = sampledPosture s.active v := funext (cleared_decidedPosture s cause v)
  have active : u.active = s.active := (congrArg State.active (cleared_eq s cause v) :)
  have raised : u.raised = [] := (congrArg State.raised (cleared_eq s cause v) :)
  rw [decided, active, raised, setEach_all, setEach_all, setEach_all, List.nil_append] at sampled
  have train (k : Train) : (forEach allTrains State.samplePosture u).train k = sampledTrain (sampledPosture s.active v k) := by
    rw [sampled]
    exact Vec.get_ofFn _ _
  have ended : s.resetBlocks cause v = (forEach allTrains State.samplePosture u).endEvent := rfl
  have trains : (forEach allTrains State.samplePosture u).endEvent.trains =
      .ofFn fun k => (sampledTrain (sampledPosture s.active v k)).settled := Vec.ext_get fun k => by
    refine (endEvent_train _ k).trans ?_
    rw [train, Vec.get_ofFn]
  have handoffs : (forEach allTrains State.samplePosture u).endEvent.handoffs =
      allTrains.flatMap fun k => sampledNews k (sampledPosture s.active v k) := by
    rw [endEvent_handoffs, show (forEach allTrains State.samplePosture u).handoffs = [] from ?_, List.nil_append]
    · exact List.flatMap_congr fun k _ => by rw [train, sampledTrain_news]
    · rw [sampled]
      exact (congrArg State.handoffs (cleared_eq s cause v) :)
  rw [ended, endEvent_frame, trains, handoffs, sampled]
  exact congrArg (fun w : State => ({ w with
    active := s.active, postures := .ofFn (sampledPosture s.active v)
    trains := .ofFn fun k => (sampledTrain (sampledPosture s.active v k)).settled
    drives := .ofFn fun k => sampledDrive s.active k (sampledPosture s.active v k)
    raised := allTrains.flatMap fun k => sampledRaises k (sampledPosture s.active v k)
    handoffs := allTrains.flatMap fun k => sampledNews k (sampledPosture s.active v k) } : State)) (cleared_eq s cause v)

end

end Sys2Proof.Machine
end

section
/-! Power-on, the reset line and RESTART (R157, R175). -/

namespace Sys2Proof.Machine

/-! The default set at a reset. -/

theorem defaults_sampledPosture (v : Vec 4 Level) (k : Train) : sampledPosture defaultParams v k =
    (allLines.find? fun n => decide (v.get n = .low)).map (⟨·, .isolate⟩) := by
  have mapped : ∀ n : Line, inTrains (defaultParams.lines.get n).trains k = true ∧ (defaultParams.lines.get n).code = .isolate := by
    revert k
    decide
  unfold sampledPosture
  simp only [mapped, Bool.and_true]

theorem defaults_oaMin (k : Train) : (defaultParams.train k).oaMin = 200 := by
  revert k
  decide

theorem defaults_period (k : Train) : (defaultParams.train k).period = 10 := by
  revert k
  decide

theorem defaults_capF (h : Shaft) : capF defaultParams h = 65535000 := by
  revert h
  decide

theorem defaults_notices : resetNotices defaultParams = .replicate 3 .afterReset := by decide

/-- ISOLATE closes all three outputs of a train at rest (R151). -/
theorem defaults_sampledDrive (k : Train) (found : Option EffectivePosture) (isolates : ∀ a ∈ found, a.code = .isolate) :
    sampledDrive defaultParams k found = { DriveRec.reset 200 with posture := found.map fun _ => ⟨0, 0, 0⟩ } := by
  unfold sampledDrive
  rw [defaults_oaMin]
  cases found with
  | none => rfl
  | some a =>
    dsimp only
    rw [isolates a rfl]
    rfl

theorem sampledTrain_state (found : Option EffectivePosture) :
    (sampledTrain found).settled.state = if found.isSome then .safe else .steady .offline := by
  cases found <;> rfl

theorem find?_isSome_eq_any {α : Type} (p : α → Bool) (xs : List α) : (xs.find? p).isSome = xs.any p := by
  rw [Bool.eq_iff_iff, List.find?_isSome, List.any_eq_true]

theorem ofFn_const {α : Type} {n : Nat} (x : α) : Vec.ofFn (fun _ : Fin n => x) = .replicate n x :=
  Vec.ext_get fun i => by rw [Vec.get_ofFn, Vec.get_replicate]

/-- Settles O4: the reset of `resetBlocks_eq` under the default set. -/
theorem resetsSampleLines : Obligations.ResetsSampleLines := by
  unfold Obligations.ResetsSampleLines
  intro v s
  have reset (cause : ResetCause) := resetBlocks_eq s.toDefaults cause v
  refine ⟨s.toDefaults.resetBlocks .powerOn v, rfl, ?_, fun high => ?_, ?_⟩
  · show Host.Outcome.next (s.toDefaults.resetBlocks .resetLine v) = _
    rw [reset, reset]
    rfl
  · have none : ∀ k, sampledPosture defaultParams v k = none := fun k => by
      rw [defaults_sampledPosture, high]
      rfl
    have found : sampledPosture s.toDefaults.active v = fun _ => Option.none := funext none
    rw [reset, found, high]
    unfold State.clearRuntime State.toDefaults State.reset State.params
    dsimp only
    simp only [defaults_period, defaults_oaMin, defaults_capF, defaults_notices, sampledDrive, ofFn_const]
    rfl
  · rw [reset]
    refine ⟨rfl, rfl, rfl, fun n => Vec.get_map _ _ _, fun k => ?_⟩
    let found := sampledPosture defaultParams v k
    have posture : ∀ t : State, t.postures = .ofFn (sampledPosture defaultParams v) → t.posture k = found := fun t postures => by
      rw [State.posture, postures, Vec.get_ofFn]
    have drive : ∀ t : State, t.drives = .ofFn (fun k => sampledDrive defaultParams k (sampledPosture defaultParams v k)) →
        t.drive k = sampledDrive defaultParams k found := fun t drives => by rw [State.drive, drives, Vec.get_ofFn]
    have train : ∀ t : State, t.trains = .ofFn (fun k => (sampledTrain (sampledPosture defaultParams v k)).settled) →
        t.train k = (sampledTrain found).settled := fun t trains => by rw [State.train, trains, Vec.get_ofFn]
    have lowest : found = _ := defaults_sampledPosture v k
    rw [posture _ rfl, drive _ rfl, train _ rfl]
    refine ⟨defaults_sampledDrive k found fun a mem => ?_, lowest, ?_⟩
    · rw [lowest] at mem
      obtain ⟨n, -, rfl⟩ := Option.map_eq_some_iff.1 mem
      rfl
    · rw [sampledTrain_state, lowest, Option.isSome_map, find?_isSome_eq_any]

end Sys2Proof.Machine
end

section
/-! RESTART (R175). -/

namespace Sys2Proof.Machine

theorem flatMap_filter {α β : Type} (p : α → Bool) (f : α → List β) (xs : List α) :
    (xs.filter p).flatMap f = xs.flatMap fun x => if p x then f x else [] := by
  induction xs with
  | nil => rfl
  | cons x xs ih =>
    rw [List.flatMap_cons, ← ih]
    by_cases keeps : p x = true
    · rw [List.filter_cons_of_pos keeps, List.flatMap_cons, if_pos keeps]
    · rw [List.filter_cons_of_neg keeps, if_neg keeps, List.nil_append]

theorem requestRestart_eq {l : Link} {s : State} (right : (s.right l).config = true) : requestRestart l [] s = (s.restart, .ok []) := by
  exact if_pos right

/-- The Link Ports that a RESTART over a link leaves, its response going on (R175). -/
theorem exec_restart {l : Link} {tag : Byte} {s : State} (ready : s.ready l) (right : (s.right l).config = true) :
    exec (.restart l tag []) s = .next ((s.setPort l (s.port l).hunt).restart.setPort l
      { (s.port l).hunt.restarted with sending := some ⟨kindRestart ||| 0x80, tag, .ok, []⟩ }) := by
  obtain ⟨live, transmitterIdle⟩ := ready
  have port : (s.setPort l (s.port l).hunt).restart.port l = (s.port l).hunt.restarted := by
    have ports : (s.setPort l (s.port l).hunt).restart.ports = (s.setPort l (s.port l).hunt).ports.map LinkPort.restarted := by
      unfold State.restart
      rw [resetBlocks_eq]
      rfl
    rw [State.port, ports, Vec.get_map]
    exact congrArg LinkPort.restarted (setPort_port_self s l _)
  show answerRequest l kindRestart tag (requestRestart l []) s = _
  rw [answerRequest_live live, answer_idle transmitterIdle, requestRestart_eq (s := s.setPort l _) right, port]
  rfl

/-- Settles O5: the reset of `resetBlocks_eq` under the active set, between the receipt of the request and its response. -/
theorem restartResets : Obligations.RestartResets := by
  unfold Obligations.RestartResets
  intro l tag s ready right line? governed
  have executed := exec_restart (tag := tag) ready right
  obtain ⟨live, transmitterIdle⟩ := ready
  have low : s.resetLow = false := live.1
  let q := s.setPort l (s.port l).hunt
  let w : State := { q with ports := q.ports.map LinkPort.restarted }
  let v := s.lines.map LineRec.level
  let found := sampledPosture s.active v
  have reset := resetBlocks_eq w .restart v
  have decided : ∀ k, found k = (line? k).map fun n => ⟨n, (s.active.lines.get n).code⟩ := fun k => by
    show Option.map _ _ = Option.map _ _
    congr 2
    funext n
    rw [show v.get n = (s.line n).level from Vec.get_map _ _ _]
  have at_train : ∀ k, sampledPosture w.active v k = _ := decided
  have governs : ∀ k, (line? k).isSome = (found k).isSome := fun k => by rw [decided, Option.isSome_map]
  rw [show (s.setPort l (s.port l).hunt).restart = _ from reset] at executed
  refine ⟨_, executed, rfl, rfl, rfl, rfl, rfl, rfl, low, rfl, rfl, fun c => Vec.get_replicate _ _, fun st => Vec.get_replicate _ _, rfl,
    fun k => ⟨Vec.get_ofFn _ _, Vec.get_replicate _ _, Vec.get_replicate _ _, Vec.get_ofFn _ _⟩, fun h => Vec.get_ofFn _ _,
    Vec.get_set_self _ _ _, fun m other => ?_, fun n => ?_, fun k none => ⟨?_, ?_, ?_⟩, fun k n some => ⟨?_, ?_, ?_⟩, rfl, ?_, ?_, fun m => ?_⟩
  · refine (Vec.get_set_ne _ (fun same => other (linkIndex_inj.1 same).symm) _).trans ((Vec.get_map _ _ _).trans ?_)
    exact congrArg LinkPort.restarted (Vec.get_set_ne _ (fun same => other (linkIndex_inj.1 same).symm) _)
  · exact (Vec.get_map _ _ _).trans (congrArg LineRec.sampled (Vec.get_map _ _ _))
  · refine (Vec.get_ofFn _ _).trans ?_
    rw [at_train k, none]
    rfl
  · refine (Vec.get_ofFn _ _).trans ?_
    rw [at_train k, none]
    rfl
  · refine (Vec.get_ofFn _ _).trans ?_
    rw [at_train k, none]
    rfl
  · refine (Vec.get_ofFn _ _).trans ?_
    rw [at_train k, some]
    rfl
  · refine (Vec.get_ofFn _ _).trans ?_
    rw [at_train k, some]
    rfl
  · refine (Vec.get_ofFn _ _).trans ?_
    rw [at_train k, some]
    rfl
  · rw [flatMap_filter]
    refine List.flatMap_congr fun k _ => ?_
    rw [governs]
    show sampledRaises k (found k) = _
    cases found k <;> rfl
  · rw [flatMap_filter]
    refine List.flatMap_congr fun k _ => ?_
    rw [governs]
    show sampledNews k (found k) = _
    cases found k <;> rfl
  · exact resetNotices_get s.active m

end Sys2Proof.Machine
end

section
/-! An APPLY of the active set itself (R162): no block finds a difference. -/

namespace Sys2Proof.Machine

theorem forEach_same {α : Type} {xs : List α} {f : α → State → State} {s : State} (same : ∀ x, f x s = s) : forEach xs f s = s :=
  forEach_induct (P := fun t => t = s) (fun x _ t h => by rw [h]; exact same x) rfl

/-! The differences between a set and itself. -/

@[simp] theorem itemsDiffer_self (p : Params) (k : Train) : p.itemsDiffer p k = false := by
  simp [Params.itemsDiffer]

@[simp] theorem shaftDiffers_self (p : Params) (h : Shaft) : p.shaftDiffers p h = false := by
  simp [Params.shaftDiffers]

@[simp] theorem bandDiffers_self (p : Params) (k : Train) : p.bandDiffers p k = false := by
  simp [Params.bandDiffers]

@[simp] theorem driveDiffers_self (p : TrainParams) : p.driveDiffers p = false := by
  simp [TrainParams.driveDiffers]

@[simp] theorem survives_self (p : Params) (k : Train) (e : DemandEntry) : e.survives p p k = true := by
  unfold DemandEntry.survives
  cases inTrains (p.right e.link).trains k <;> cases (p.right e.link).force <;> rfl

theorem appliedTable_self (p : Params) (k : Train) (table : List DemandEntry) : appliedTable p p k table = table := by
  simp [appliedTable]

/-! Each stage of an APPLY under the set replaced. -/

section
variable {s : State}

theorem markPending_self : State.markPending s.active s = s := by
  have same : Vec.ofFn (fun k => s.paramsPending.get k || s.active.itemsDiffer s.active k) = s.paramsPending :=
    Vec.ext_get fun k => by simp
  unfold State.markPending
  rw [same]

theorem reroute_self : State.reroute s.active s = s :=
  forEach_same fun l => forEach_same fun c => by
    unfold State.rerouteClass
    cases s.active.routes c l <;> rfl

theorem applyChannel_self (c : Channel) : State.applyChannel s.active c s = s := by
  simp [State.applyChannel]

/-- A re-decision that finds the reference as it is. -/
theorem redecide_of_decided (decided : s.reference.sameDecision s.decidedReference) : s.redecide = s := by
  have lost : s.decidedReference.lost = s.reference.lost := (sameDecision_iff.1 decided).1.symm
  have since : s.decidedReference.lostSinceRead = s.reference.lostSinceRead := by
    show (s.reference.lostSinceRead || (s.decidedReference.lost && !s.reference.lost)) = _
    rw [lost, Bool.and_not_self, Bool.or_false]
  have reference : s.decidedReference = s.reference := by
    rw [ReferenceRec.sameDecision, ← since] at decided
    exact decided.symm
  rw [redecide_eq, if_pos lost, List.append_nil, reference]

theorem applyStations_self (decided : s.reference.sameDecision s.decidedReference) : State.applyStations s.active s = s := by
  unfold State.applyStations
  rw [if_neg (not_not.2 rfl)]
  exact redecide_of_decided decided

theorem applySlots_self (k : Train) : State.applySlots s.active k s = s := by
  have same : Vec.ofFn (fun c => if (s.active.slots.get k).get c = (s.active.slots.get k).get c then (s.bank k).slots.get c else .reset) =
      (s.bank k).slots := Vec.ext_get fun c => by rw [Vec.get_ofFn, if_pos rfl]
  unfold State.applySlots
  rw [same]
  exact congrArg (fun v => ({ s with banks := v } : State)) (Vec.set_get s.banks k)

theorem changeTable_self (k : Train) : s.changeTable k (s.demand k) = s := by
  have same : s.setDemand k (s.demand k) = s := congrArg (fun v => ({ s with demands := v } : State)) (Vec.set_get s.demands k)
  unfold State.changeTable State.handOnEffective
  rw [same]
  simp

theorem applyDemands_self (k : Train) : State.applyDemands s.active k s = s := by
  rw [applyDemands_eq, appliedTable_self, changeTable_self]

theorem applyLimit_self (h : Shaft) : State.applyLimit s.active h s = s := if_neg (lt_irrefl _)

theorem applyShaft_self (h : Shaft) : State.applyShaft s.active h s = s := by
  simp [State.applyShaft]

theorem applyDrive_self (k : Train) : State.applyDrive s.active k s = s := by
  simp [State.applyDrive, State.params]

theorem postureNews_of_decided {k : Train} (decided : s.posture k = s.decidedPosture k) : s.postureNews s.active k = [] := by
  unfold State.postureNews
  rw [← decided]
  cases s.posture k with
  | none => rfl
  | some a => exact if_pos ⟨rfl, rfl⟩

theorem decideTrainPosture_of_decided {k : Train} (decided : s.posture k = s.decidedPosture k) :
    State.decideTrainPosture s.active k s = s := by
  rw [decideTrainPosture_eq, postureNews_of_decided decided, List.append_nil, ← decided]
  exact congrArg (fun v => ({ s with postures := v } : State)) (Vec.set_get s.postures k)

/-- A state that a re-decision of the reference, the end of an event and a decision of the postures all leave as it is. -/
structure State.settledUnderApply (s : State) : Prop where
  decided : s.reference.sameDecision s.decidedReference
  untouched : ∀ k, (s.train k).touched = .clear
  postures : ∀ k, s.posture k = s.decidedPosture k

theorem State.sound.settledUnderApply (sound : s.sound) : s.settledUnderApply where
  decided := sound.reference.decided
  untouched k := (sound.trains.trains k).marks
  postures := sound.lifeSafety.decided

theorem applyStaged_of_noChange (settled : s.settledUnderApply) (same : s.staged = s.active) : s.applyStaged = s := by
  have copied : ({ s with active := s.staged } : State) = s := congrArg (fun p => ({ s with active := p } : State)) same
  have notices : s.applyNotices = s := by
    unfold State.applyNotices
    rw [copied, markPending_self, reroute_self]
  have reference : s.applyReference = s := by
    unfold State.applyReference
    rw [notices, forEach_same applyChannel_self, applyStations_self settled.decided]
  have tables : s.applyTables = s := by
    unfold State.applyTables
    rw [reference, forEach_same applySlots_self, forEach_same applyDemands_self]
  have limits : s.applyLimits = s := by
    unfold State.applyLimits
    rw [tables, forEach_same applyLimit_self, endEvent_clear settled.untouched]
  have drives : s.applyDrives = s := by
    unfold State.applyDrives State.applyShafts
    rw [limits, forEach_same applyShaft_self, forEach_same applyDrive_self]
  rw [applyStaged_eq, drives]
  exact forEach_same fun k => decideTrainPosture_of_decided (settled.postures k)

/-- The active set passes the nine checks again: the slots in use are within their limits and no train changes its shaft. -/
theorem applyFault_of_noChange (params : s.paramsSound) (trains : s.trainsSound) (same : s.staged = s.active) : s.applyFault? = none := by
  unfold State.applyFault?
  simp only [Option.orElse_eq_orElse, Option.orElse_eq_or, Option.or_eq_none_iff, Option.map_eq_none_iff, List.find?_eq_none,
    decide_eq_true_iff]
  rw [same]
  exact ⟨params.relations, fun h _ => Nat.not_lt.2 (trains.slots h).limit, fun k _ moved => moved.1 rfl⟩

end

theorem requestApply_accepted {l : Link} {s : State} (right : (s.right l).config = true) (accepted : s.applyFault? = none) :
    requestApply l [] s = (s.applyStaged, .ok []) := by
  have judged : s.judgeApply = (s.applyStaged, .ok []) := by
    unfold State.judgeApply
    rw [accepted]
  exact (if_pos right).trans judged

/-- Settles O46: a sound state settles no block anew, so each stage of the APPLY finds nothing to do. -/
theorem applyOfNoChange : Obligations.ApplyOfNoChange := by
  unfold Obligations.ApplyOfNoChange
  intro l tag s sound ready right same
  let q := s.setPort l (s.port l).hunt
  have settled : q.settledUnderApply :=
    ⟨sound.settledUnderApply.decided, sound.settledUnderApply.untouched, sound.settledUnderApply.postures⟩
  have accepted : q.applyFault? = none := applyFault_of_noChange (s := s) sound.params sound.trains same
  have effect := requestApply_accepted (s := q) right accepted
  rw [applyStaged_of_noChange (s := q) settled same] at effect
  exact answerRequest_of_ports_kept ready effect rfl

end Sys2Proof.Machine
end

section
/-! The judgment of the staged set (R161): the nine checks in order, each in index order. -/

namespace Sys2Proof.Machine

/-- The first element that fails a check, each before it having passed. -/
theorem find?_of_first {α : Type} {r : α → α → Prop} {xs : List α} {fails : α → Bool} (order : xs.Pairwise r) {a : α}
    (mem : a ∈ xs) (failing : fails a = true) (before : ∀ b, r b a → fails b = false) : xs.find? fails = some a := by
  obtain ⟨ys, zs, rfl⟩ := List.append_of_mem mem
  refine List.find?_eq_some_iff_append.2 ⟨failing, ys, zs, rfl, fun b first => ?_⟩
  rw [before b ((List.pairwise_append.1 order).2.2 b first a List.mem_cons_self)]
  rfl

/-- One check of a judgment and those after it. -/
theorem judged_first {α β : Type} {r : α → α → Prop} {xs : List α} {fails : α → Bool} {fault : α → β} 
    {judgment rest : Option β} {fits : α → Prop} {later : Prop} (order : xs.Pairwise r) (complete : ∀ a, a ∈ xs)
    (failing : ∀ a, fails a = true ↔ ¬fits a)
    (judged : judgment = ((xs.find? fails).map fault).or rest) (after : judgment = rest → later) :
    (∀ a, ¬fits a → (∀ b, r b a → fits b) → judgment = some (fault a)) ∧ ((∀ a, fits a) → later) := by
  have passing : ∀ a, fits a → fails a = false := fun a fit => by
    rw [← Bool.not_eq_true, failing, not_not]
    exact fit
  refine ⟨fun a unfit before => ?_, fun fit => after ?_⟩
  · rw [judged, find?_of_first order (complete a) ((failing a).2 unfit) fun b first => passing b (before b first)]
    rfl
  · rw [judged, List.find?_eq_none.2 fun a _ => by rw [passing a (fit a)]; exact Bool.false_ne_true]
    rfl

/-- The nine checks as one chain. -/
theorem applyFault?_eq (s : State) : s.applyFault? =
    ((allTrains.find? fun k => (s.staged.train k).wsMax < (s.staged.train k).wsMin).map fun k => (.invalidSet, .train k .wsMin)).or
    (((allTrains.find? fun k => (s.staged.train k).wsMax < (s.staged.train k).wsFloor).map fun k => (.invalidSet, .train k .wsFloor)).or
    (((allTrains.find? fun k => (s.staged.train k).wheelSource = .band ∧
      s.staged.pool.get (s.staged.train k).bandHigh < s.staged.pool.get (s.staged.train k).bandLow).map fun k =>
        (.invalidSet, .train k .bandLow)).or
    (((allTrains.find? fun k => !s.staged.followEnds 9 k).map fun k => (.invalidSet, .train k .leader)).or
    (((allChannels.find? fun c => !((s.staged.channel c).standIn.all (standInFits c))).map fun c =>
      (.invalidSet, .channel c .standIn)).or
    (((allChannels.find? fun c => (s.staged.channel c).high < (s.staged.channel c).low).map fun c => (.invalidSet, .channel c .low)).or
    (((allLinks.find? s.staged.repeatsPriority).map fun m => (.invalidSet, .rights m .priority)).or
    (((allShafts.find? fun h => (s.staged.shafts.get h).slotLimit < (s.shaft h).holders.length).map fun h =>
      (.slotsInUse, .shaft h .slotLimit)).or
    (((allTrains.find? fun k => (s.staged.train k).shaft ≠ (s.active.train k).shaft ∧ s.busyTrain k).map fun k =>
      (.trainBusy, .train k .shaft)).or none)))))))) := by
  unfold State.applyFault? Params.relationFault?
  simp only [Option.orElse_eq_orElse, Option.orElse_eq_or, Option.map_or, Option.map_map, Option.or_assoc, Option.or_none]
  rfl

/-- A FOLLOW chain ends within `n` trains where one of the first `n` trains on it is no follower. -/
theorem followEnds_iff (p : Params) (n : Nat) (k : Train) :
    p.followEnds n k = true ↔ ∃ m < n, (p.train ((fun j => (p.train j).leader)^[m] k)).wheelSource ≠ .follow := by
  induction n generalizing k with
  | zero => exact iff_of_false Bool.false_ne_true (by rintro ⟨m, below, -⟩; exact absurd below (Nat.not_lt_zero m))
  | succ n ih =>
    unfold Params.followEnds
    rw [Bool.or_eq_true, decide_eq_true_iff, ih]
    constructor
    · rintro (here | ⟨m, below, ends⟩)
      · exact ⟨0, Nat.succ_pos n, here⟩
      · exact ⟨m + 1, Nat.succ_lt_succ below, ends⟩
    · rintro ⟨m, below, ends⟩
      cases m with
      | zero => exact .inl ends
      | succ m => exact .inr ⟨m, Nat.lt_of_succ_lt_succ below, ends⟩

theorem repeatsPriority_iff (p : Params) (m : Link) :
    p.repeatsPriority m = true ↔ ¬∀ m', (linkIndex m').val < (linkIndex m).val → p.priority m ≠ p.priority m' := by
  have links : ∀ P : Link → Prop, (∀ m', P m') ↔ P .a ∧ P .b ∧ P .c :=
    fun P => ⟨fun h => ⟨h .a, h .b, h .c⟩, fun ⟨a, b, c⟩ m' => by cases m' <;> assumption⟩
  rw [links]
  cases m with
  | a => simp [Params.repeatsPriority, linkIndex]
  | b => simp [Params.repeatsPriority, linkIndex]
  | c => simp [Params.repeatsPriority, linkIndex, imp_iff_not_or]

theorem standIns_fail_iff (p : Params) (c : Channel) : (!((p.channel c).standIn.all (standInFits c))) = true ↔
    ¬∀ d, (p.channel c).standIn = some d → 8 ≤ c.val ∧ channelKind d = channelKind c ∧ channelTrain d ≠ channelTrain c := by
  cases (p.channel c).standIn with
  | none => simp
  | some d => simp [standInFits, imp_iff_not_or]

/-- A train that would change its shaft while it holds or waits for a slot. -/
theorem mayNotMove_iff (s : State) (k : Train) : decide ((s.staged.train k).shaft ≠ (s.active.train k).shaft ∧ s.busyTrain k) = true ↔
    ¬((s.staged.train k).shaft = s.shaftOf k ∨ ∀ h, k ∉ (s.shaft h).holders ∧ ∀ e ∈ (s.shaft h).waitList, e.train ≠ k) := by
  rw [decide_eq_true_iff, busyTrain_iff, not_or, not_forall]
  refine and_congr Iff.rfl (exists_congr fun h => ?_)
  rw [not_and_or, not_not, not_forall]
  simp only [Classical.not_imp, not_not]

theorem allTrains_ordered : allTrains.Pairwise (· < ·) := by decide
theorem allShafts_ordered : allShafts.Pairwise (· < ·) := by decide
theorem allChannels_ordered : allChannels.Pairwise (· < ·) := List.pairwise_lt_finRange 32
theorem allLinks_ordered : allLinks.Pairwise fun m' m => (linkIndex m').val < (linkIndex m).val := by decide

end Sys2Proof.Machine
end

section
/-! What each block has after an accepted APPLY (R69, R147, R162, R163, R180). -/

namespace Sys2Proof.Machine

section
variable {s t : State}

/-! The flags of the trains (R163). -/

theorem applyStaged_paramsPending (s : State) (k : Train) :
    s.applyStaged.paramsPending.get k = (s.paramsPending.get k || s.active.itemsDiffer s.staged k) := by
  have marked : s.applyStaged.paramsPending = (State.markPending s.active { s with active := s.staged }).paramsPending := by
    rw [applyStaged_eq, (decidePostures_same _ _).paramsPending, (applyDrives_same s).paramsPending, (applyShafts_same s).paramsPending,
      (applyLimits_same s).paramsPending, applyTables_frame, applyReference_frame, State.applyNotices, reroute_frame]
  rw [marked]
  exact Vec.get_ofFn _ _

/-! The criterion slots (R69). -/

/-- A train's bank with the slots whose items differ between two sets reset. -/
def appliedBank (old new : Params) (k : Train) (b : BankRec) : BankRec :=
  { b with slots := .ofFn fun c => if (old.slots.get k).get c = (new.slots.get k).get c then b.slots.get c else .reset }

theorem applySlots_eq (old : Params) (k : Train) (s : State) :
    State.applySlots old k s = s.setBank k (appliedBank old s.active k (s.bank k)) := rfl

theorem applyAllSlots_bank (old : Params) (s : State) (k : Train) :
    (forEach allTrains (State.applySlots old) s).bank k = appliedBank old s.active k (s.bank k) := by
  refine forEach_at (P := fun u => u.active = s.active ∧ u.bank k = s.bank k)
    (Q := fun u => u.bank k = appliedBank old s.active k (s.bank k)) (fun j u other hu => ?_) (fun u hu => ?_)
    (fun j u other hu => ?_) allTrains_nodup (mem_allTrains k) ⟨rfl, rfl⟩
  · rw [applySlots_eq, setBank_active, setBank_bank, if_neg other]
    exact hu
  · obtain ⟨active, bank⟩ := hu
    rw [applySlots_eq, setBank_bank_self, active, bank]
  · rw [applySlots_eq, setBank_bank, if_neg other]
    exact hu

theorem applyStaged_bank (s : State) (k : Train) : s.applyStaged.bank k = appliedBank s.active s.staged k (s.bank k) := by
  have banks : s.applyStaged.banks = (forEach allTrains (State.applySlots s.active) s.applyReference).banks := by
    rw [applyStaged_eq, (decidePostures_same _ _).banks, (applyDrives_same s).banks, (applyShafts_same s).banks,
      (applyLimits_same s).banks, State.applyTables, applyDemands_frame]
  have reference : s.applyReference.active = s.staged ∧ s.applyReference.bank k = s.bank k := by
    rw [applyReference_frame, applyNotices_frame]
    exact ⟨rfl, rfl⟩
  obtain ⟨active, bank⟩ := reference
  rw [State.bank, banks]
  exact (applyAllSlots_bank s.active _ k).trans (by rw [active, bank])

/-! The channels (R15). -/

theorem applyStaged_channels (s : State) : s.applyStaged.channels = s.applyChannels.channels := by
  rw [applyStaged_eq, (decidePostures_same _ _).channels, (applyDrives_same s).channels, (applyShafts_same s).channels,
    (applyLimits_same s).channels, applyTables_frame]
  exact (applyStations_same s.active s.applyChannels).channels

theorem applyStaged_channel (s : State) (c : Channel) : s.applyStaged.channel c = appliedChannel s.active s.staged c (s.channel c) := by
  rw [State.channel, applyStaged_channels]
  exact applyChannels_channel s c

theorem appliedChannel_keeps (old new : Params) (c : Channel) (r : ChannelRec) :
    (appliedChannel old new c r).state = r.state ∧ (appliedChannel old new c r).published = r.published ∧
      (appliedChannel old new c r).age = r.age ∧ (appliedChannel old new c r).lastLink = r.lastLink := by
  unfold appliedChannel
  split <;> exact ⟨rfl, rfl, rfl, rfl⟩

/-! The pending sets (R180). -/

theorem applyStaged_rerouted {m : Link} (sound : s.pendingSound m) (low : s.resetLow = false) :
    (∀ e, e ∈ (s.applyStaged.notice m).entries ↔ s.staged.routes e.cond.cls m = true ∧
      (e ∈ (s.notice m).entries ∨ s.active.routes e.cond.cls m = false ∧ e.cond.cls.level = true ∧ e.cond ∈ s.held ∧
        e = ⟨e.cond, 1, false⟩)) ∧
    ((s.applyStaged.notice m).attention = true ↔ ∃ e ∈ (s.applyStaged.notice m).entries, e.taken = false) := by
  have notice : s.applyStaged.notice m = s.applyNotices.notice m := congrArg (Vec.get · (linkIndex m)) (applyStaged_notices s)
  obtain ⟨-, attention, mem⟩ := applyNotices_rerouted sound low
  rw [notice, attention]
  exact ⟨mem, asksAttention_iff⟩

/-! The band levels (R147). -/

theorem usableValue_of_same (channels : t.channels = s.channels) (active : t.active = s.active) (c : Channel) :
    t.usableValue c = s.usableValue c := by
  have fresh : t.freshValue = s.freshValue := by
    funext d
    rw [State.freshValue, State.channel, channels]
    rfl
  unfold State.usableValue
  rw [fresh, active]

theorem formRequest_drive_ne {j k : Train} (ne : j ≠ k) (s : State) : (s.formRequest j).drive k = s.drive k := by
  rw [formRequest_eq]
  split
  · rfl
  · exact Vec.get_set_ne _ ne _

theorem formRequest_bases (s : State) (k : Train) : ((s.formRequest k).drive k).bases = (s.drive k).bases := by
  rw [formRequest_eq]
  split
  · rfl
  · exact (congrArg DriveRec.bases (Vec.get_set_self s.drives k
      { s.drive k with lastRequest := economizerRequest (s.params k).oaMin (s.effective k).d }) :)

theorem applyDrive_drive_ne {j k : Train} (ne : j ≠ k) (old : Params) (s : State) : (State.applyDrive old j s).drive k = s.drive k := by
  unfold State.applyDrive
  extract_lets s1 d s2
  have formed : s1.drive k = s.drive k := by
    dsimp only [s1]
    split
    · exact formRequest_drive_ne ne s
    · rfl
  have banded : s2.drive k = s.drive k := by
    dsimp only [s2]
    split
    · exact (Vec.get_set_ne _ ne _).trans formed
    · exact formed
  split
  · exact (recompute_drive_ne ne _).trans banded
  · exact banded

/-- A train's band level judged anew from absent, by the set and the channels of `s` and under a wheel basis. -/
def JudgedAnew (s : State) (k : Train) (basis : WheelBasis) (band : Option BandLevel) : Prop :=
  ∃ u : State, u.active = s.active ∧ u.channels = s.channels ∧ (u.drive k).bases.wheel = basis ∧ (u.drive k).band = none ∧
    band = u.bandAfter k

theorem JudgedAnew.of_same {k : Train} {basis : WheelBasis} {band : Option BandLevel} (judged : JudgedAnew s k basis band)
    (active : t.active = s.active) (channels : t.channels = s.channels) : JudgedAnew t k basis band := by
  obtain ⟨u, same, same', other⟩ := judged
  exact ⟨u, same.trans active.symm, same'.trans channels.symm, other⟩

theorem JudgedAnew.absent {k : Train} {basis : WheelBasis} {band : Option BandLevel} (judged : JudgedAnew s k basis band)
    (why : (s.params k).wheelSource ≠ .band ∨ basis ≠ .recover ∨ s.usableValue (s.params k).bandChannel = none) : band = none := by
  obtain ⟨u, active, channels, rfl, absent, rfl⟩ := judged
  have params : u.params k = s.params k := congrArg (Params.train · k) active
  by_cases source : (u.params k).wheelSource = .band
  · by_cases recover : (u.drive k).bases.wheel = .recover
    · have unusable : u.usableValue (u.params k).bandChannel = none := by
        rw [params] at source ⊢
        rw [usableValue_of_same channels active]
        obtain other | other | none := why
        · exact absurd source other
        · exact absurd recover other
        · exact none
      exact ((bandAfter_of_band source recover).1 unusable).trans absent
    · exact (bandAfter_of_other (.inr recover)).trans absent
  · exact (bandAfter_of_other (.inl source)).trans absent

theorem JudgedAnew.judged {k : Train} {basis : WheelBasis} {band : Option BandLevel} (judged : JudgedAnew s k basis band)
    (source : (s.params k).wheelSource = .band) (recover : basis = .recover) {x : Int × Bool}
    (usable : s.usableValue (s.params k).bandChannel = some x) :
    band = if s.active.pool.get (s.params k).bandHigh < x.1 then some .high
      else if x.1 < s.active.pool.get (s.params k).bandLow then some .low else none := by
  obtain ⟨u, active, channels, rfl, absent, rfl⟩ := judged
  have params : u.params k = s.params k := congrArg (Params.train · k) active
  rw [← params] at source usable ⊢
  rw [← usableValue_of_same channels active] at usable
  rw [(bandAfter_of_band source recover).2 x usable, active, absent]

/-- A band level whose items differ is judged anew. -/
theorem applyDrive_band {old : Params} {k : Train} (differs : old.bandDiffers s.active k = true) :
    JudgedAnew s k (s.drive k).bases.wheel ((State.applyDrive old k s).drive k).band := by
  unfold State.applyDrive
  extract_lets s1 d s2
  have formed : s1.active = s.active ∧ s1.channels = s.channels ∧ (s1.drive k).bases = (s.drive k).bases := by
    dsimp only [s1]
    split
    · exact ⟨(formRequest_same s k).active, (formRequest_same s k).channels, formRequest_bases s k⟩
    · exact ⟨rfl, rfl, rfl⟩
  have banded : s2 = s1.setDrive k { s1.drive k with band := none } := if_pos differs
  have drive : s2.drive k = { s1.drive k with band := none } := by rw [banded, setDrive_drive_self]
  obtain ⟨active, channels, bases⟩ := formed
  rw [if_pos (by rw [differs]; rfl), recompute_drive_self]
  refine ⟨s2, ?_, ?_, ?_, by rw [drive], rfl⟩
  · rw [banded]; exact active
  · rw [banded]; exact channels
  · rw [drive, bases]

/-- The Drive Stage as the blocks before it leave it. -/
theorem applyShafts_drives (s : State) : s.applyShafts.drives = s.drives := by
  have limits : (forEach allShafts (State.applyLimit s.active) s.applyTables).drives = s.applyTables.drives :=
    forEach_induct (P := fun u => u.drives = s.applyTables.drives)
      (fun h _ u same => (congrArg State.drives (applyLimit_same s.active h u)).trans same) rfl
  have ended := congrArg State.drives (endEvent_moves (forEach allShafts (State.applyLimit s.active) s.applyTables)).frame
  rw [(applyShafts_same s).drives, State.applyLimits, ended, limits, applyTables_frame, applyReference_frame, applyNotices_frame]

theorem applyStaged_band {k : Train} (differs : s.active.bandDiffers s.staged k = true) :
    JudgedAnew s.applyStaged k (s.drive k).bases.wheel (s.applyStaged.drive k).band := by
  have drive : s.applyShafts.drive k = s.drive k := congrArg (Vec.get · k) (applyShafts_drives s)
  have staged : s.applyShafts.active = s.staged := by
    rw [(applyShafts_same s).active, (applyLimits_same s).active, applyTables_frame, applyReference_frame, applyNotices_frame]
  have drives := applyDrives_same s
  have postures := decidePostures_same s.applyDrives s.active
  have judged : JudgedAnew s.applyShafts k (s.drive k).bases.wheel (s.applyDrives.drive k).band := by
    refine forEach_at (P := fun u => u.active = s.applyShafts.active ∧ u.channels = s.applyShafts.channels ∧ u.drive k = s.drive k)
      (Q := fun u => JudgedAnew s.applyShafts k (s.drive k).bases.wheel (u.drive k).band) (fun j u other hu => ?_) (fun u hu => ?_)
      (fun j u other hu => ?_) allTrains_nodup (mem_allTrains k) ⟨rfl, rfl, drive⟩
    · obtain ⟨active, channels, drive⟩ := hu
      have same := applyDrive_same s.active j u
      exact ⟨same.active.trans active, same.channels.trans channels, (applyDrive_drive_ne other _ u).trans drive⟩
    · obtain ⟨active, channels, drive⟩ := hu
      rw [← drive]
      exact (applyDrive_band (by rw [active, staged]; exact differs)).of_same active.symm channels.symm
    · rw [applyDrive_drive_ne other]
      exact hu
  rw [applyStaged_eq, postures.drive]
  exact judged.of_same (postures.active.trans drives.active) (postures.channels.trans drives.channels)

end

end Sys2Proof.Machine
end

section
/-! An APPLY: the judgment of the staged set, and what the blocks have after it (R161 to R163). -/

namespace Sys2Proof.Machine

theorem requestApply_refused {l : Link} {s : State} {x : Status} {item : Item} (right : (s.right l).config = true)
    (refused : s.applyFault? = some (x, item)) : requestApply l [] s = (s, ⟨x, item.bytes⟩) := by
  have judged : s.judgeApply = (s, ⟨x, item.bytes⟩) := by
    unfold State.judgeApply
    rw [refused]
  exact (if_pos right).trans judged

/-- What an accepted APPLY copies and what it leaves as it was (R162). -/
theorem applyStaged_kept (s : State) : s.applyStaged.active = s.staged ∧ s.applyStaged.staged = s.staged ∧
    s.applyStaged.ports = s.ports ∧ s.applyStaged.locked = s.locked ∧ s.applyStaged.uptime = s.uptime ∧
    s.applyStaged.lines = s.lines ∧ s.applyStaged.pwm = s.pwm ∧ s.applyStaged.resetCause = s.resetCause ∧
    s.applyStaged.pending = s.pending ∧ s.applyStaged.held = s.held := by
  rw [applyStaged_frame]
  exact ⟨rfl, rfl, rfl, rfl, rfl, rfl, rfl, rfl, rfl, rfl⟩

/-- Settles O45: the nine checks by `judged_first` one after another, then each block's part of `applyStaged`. -/
theorem applyCopiesStagedSet : Obligations.ApplyCopiesStagedSet := by
  unfold Obligations.ApplyCopiesStagedSet
  intro l tag s ready right p fails minFits floorFits bandFits chainEnds standInFits limitsFit priorityFits slotsFit mayMove bandKept
  have inOrder :=
    judged_first (fits := minFits) allTrains_ordered mem_allTrains (fun k => by simp [minFits, p]) (applyFault?_eq s) fun judged =>
    judged_first (fits := floorFits) allTrains_ordered mem_allTrains (fun k => by simp [floorFits, p]) judged fun judged =>
    judged_first (fits := bandFits) allTrains_ordered mem_allTrains (fun k => by simp [bandFits, p]) judged fun judged =>
    judged_first (fits := chainEnds) allTrains_ordered mem_allTrains (fun k => by
      rw [Bool.not_eq_true', ← Bool.not_eq_true, followEnds_iff]
      simp only [chainEnds, Nat.lt_succ_iff]
      rfl) judged fun judged =>
    judged_first (fits := standInFits) allChannels_ordered mem_allChannels (fun c => standIns_fail_iff p c) judged fun judged =>
    judged_first (fits := limitsFit) allChannels_ordered mem_allChannels (fun c => by simp [limitsFit, p]) judged fun judged =>
    judged_first (fits := priorityFits) allLinks_ordered mem_allLinks (fun m => repeatsPriority_iff p m) judged fun judged =>
    judged_first (fits := slotsFit) allShafts_ordered mem_allShafts (fun h => by simp [slotsFit, p]) judged fun judged =>
    judged_first (fits := mayMove) allTrains_ordered mem_allTrains (fun k => mayNotMove_iff s k) judged id
  obtain ⟨first, later⟩ := inOrder
  let q := s.setPort l (s.port l).hunt
  have ⟨⟨low, _⟩, _⟩ := ready
  obtain ⟨active, staged, ports, locked, uptime, lines, pwm, cause, pending, held⟩ := applyStaged_kept q
  refine ⟨fun x i refused => ?_, first, later, fun accepted => ?_⟩
  · exact answerRequest_of_ports_kept ready (requestApply_refused (s := q) right refused) rfl
  · have executed := answerRequest_of_ports_kept (kind := kindApply) (tag := tag) ready
      (requestApply_accepted (s := q) right accepted) ports
    have flags := applyStaged_paramsPending q
    have bank := applyStaged_bank q
    have channel := applyStaged_channel q
    have judged := fun k => applyStaged_band (s := q) (k := k)
    have routed := fun m => applyStaged_rerouted (s := q) (m := m)
    generalize q.applyStaged = u at executed active staged locked uptime lines pwm cause pending held flags bank channel judged routed
    refine ⟨_, executed, active, staged, rfl, locked, uptime, lines, pwm, cause, pending, held, flags, fun k => ?bank,
      fun c => ?channel, fun k differs => ?band, fun m sound => ?notices⟩
    case bank =>
      refine ⟨(congrArg BankRec.decision (bank k) :), (congrArg BankRec.evalTimer (bank k) :), fun c => ?_⟩
      exact (congrArg (fun b : BankRec => b.slots.get c) (bank k)).trans (Vec.get_ofFn _ _)
    case channel =>
      obtain ⟨state, published, age, lastLink⟩ := appliedChannel_keeps q.active q.staged c (q.channel c)
      exact ⟨(congrArg ChannelRec.state (channel c)).trans state, (congrArg ChannelRec.published (channel c)).trans published,
        (congrArg ChannelRec.age (channel c)).trans age, (congrArg ChannelRec.lastLink (channel c)).trans lastLink⟩
    case band =>
      have changed : q.active.bandDiffers q.staged k = true := by
        simp only [bandKept, not_and_or] at differs
        exact decide_eq_true differs
      have params : u.params k = p.train k := congrArg (Params.train · k) active
      refine ⟨fun why => (judged k changed).absent ?_, fun source recover x usable => ?_⟩
      · rw [params]
        exact why
      · have made := (judged k changed).judged (by rw [params]; exact source) recover (x := x) (by rw [params]; exact usable)
        rw [params, active] at made
        exact made
    case notices => exact routed m ⟨sound.order, sound.entries, sound.routed, sound.holds, sound.attention⟩ low

end Sys2Proof.Machine
end
